-- ==== Sys2Proof/Word.lean ====
section
/-! DEFINITION. The link byte, the one word of bits that crosses the part's two serial links (11 R179). -/

namespace Sys2Proof

/-- One byte of a link (11.2). -/
abbrev Byte := BitVec 8

/-- A run of link bytes, first byte first. -/
abbrev Bytes := List Byte

end Sys2Proof
end

