-- ==== Sys2Proof/Syntax.lean ====
section
/-! DEFINITION. The commands of the Jarbeg 2410: one constructor of `Instr` for each row of spec/opcode_table.json. -/

namespace Sys2Proof

/-- The two serial links (0.3). -/
inductive Link where
  | deck
  | service
  deriving DecidableEq, Repr, Inhabited

/-- The two reels, and the two tension arms beside them (0.5.2). -/
inductive Side where
  | left
  | right
  deriving DecidableEq, Repr, Inhabited

/-- The two senses of tape motion (0.5.2); forward increases the position. -/
inductive Direction where
  | forward
  | reverse
  deriving DecidableEq, Repr, Inhabited

/-- The three motors with a drive-fault input and a current input (0.4). -/
inductive Motor where
  | left
  | right
  | capstan
  deriving DecidableEq, Repr, Inhabited

/-- A timecode as four bytes of two BCD digits each (R181). The bytes need not be valid (R5). -/
structure BcdTime where
  hh : Byte
  mm : Byte
  ss : Byte
  ff : Byte
  deriving DecidableEq, Repr, Inhabited

/-- What a request on a link carries besides its kind: the link it came on, its tag and its body (11.2). -/
structure Request where
  link : Link
  tag  : Byte
  body : Bytes
  deriving DecidableEq, Repr

/-- The commands of the table. Requests carry their body as the bytes of 11.4; the other rows carry what the line or port
presents. -/
inductive Instr where
  /-- POWER_ON (R190) -/
  | powerOn
  /-- RESET_LINE (R190) -/
  | resetLine
  /-- SETTLE_PERIOD_END (R168) -/
  | settlePeriodEnd
  /-- PROFILE_LOAD_DONE (R191) -/
  | profileLoadDone
  /-- ROLLER_COUNT (R1): one timer-roller count in a sense -/
  | rollerCount (d : Direction)
  /-- REEL_COUNT (R24): one count of a reel's encoder, signed as R2 gives (forward is positive) -/
  | reelCount (r : Side) (d : Direction)
  /-- CAPSTAN_COUNT (R2) -/
  | capstanCount (d : Direction)
  /-- WINDOW_TIMEOUT (R26) of one reel -/
  | windowTimeout (r : Side)
  /-- REST_TIMER_EXPIRY (R3) -/
  | restTimerExpiry
  /-- TAPE_TIMECODE_WORD (R9): the four fields and the reverse-read flag -/
  | tapeTimecodeWord (w : BcdTime) (rev : Bool)
  /-- CONVERSION_COMPLETE (R48): the raw code of the pointed slot (unused by an IDLE slot) -/
  | conversionComplete (raw : BitVec 12)
  /-- DRIVE_FAULT_INPUT (R169): the level a drive-fault input takes -/
  | driveFaultInput (m : Motor) (asserted : Bool)
  /-- SUPPLY_WARNING_INPUT (R170): the level the supply warning input takes -/
  | supplyWarningInput (asserted : Bool)
  /-- REEL_SERVO_UPDATE (R41) -/
  | reelServoUpdate
  /-- ROLLER_SLIP_TIMEOUT (R172) -/
  | rollerSlipTimeout
  /-- REFERENCE_UPDATE (R92) -/
  | referenceUpdate
  /-- CAPSTAN_UPDATE (R102) -/
  | capstanUpdate
  /-- PINCH_ENGAGED_SENSE (R102): the level the sense takes, true for engaged -/
  | pinchEngagedSense (engaged : Bool)
  /-- PINCH_TIMEOUT (R100) -/
  | pinchTimeout
  /-- DURATION_EXPIRY (R76) -/
  | durationExpiry
  /-- THREAD_CHECK_TIMEOUT (R106) -/
  | threadCheckTimeout
  /-- MEASURE_TIMEOUT (R107) -/
  | measureTimeout
  /-- BRAKING_TIMEOUT (R175) -/
  | brakingTimeout
  /-- SUPERVISION_EXPIRY (R177) -/
  | supervisionExpiry
  /-- REFERENCE_WORD (R129): the four fields and the reverse-read flag -/
  | referenceWord (w : BcdTime) (rev : Bool)
  /-- LOSS_TIMER_EXPIRY (R130) -/
  | lossTimerExpiry
  /-- FREEWHEEL_EXPIRY (R138) -/
  | freewheelExpiry
  /-- CUE_BIT (R146): one pulse of the cue bit clock with the cue bit input's level -/
  | cueBit (b : Bool)
  /-- CAPTURE_SAMPLE_EVENT (R160) -/
  | captureSampleEvent
  /-- POSITION_REPORT_PERIOD (R185) -/
  | positionReportPeriod
  /-- FRAME_RECEIVED (R179): a complete frame whose CRC agrees -/
  | frameReceived (l : Link) (kind tag : Byte) (body : Bytes)
  /-- FRAME_GAP_TIMEOUT (R179) -/
  | frameGapTimeout (l : Link)
  /-- TRANSMIT_DONE (R182) -/
  | transmitDone (l : Link)
  /-- DEFERRED_RESET (R188) -/
  | deferredReset
  /-- PROFILE_WRITE_DONE (R193) -/
  | profileWriteDone
  /-- UNKNOWN_KIND (R180): a request whose kind is not among the request kinds of 11.4 -/
  | unknownKind (kind : Byte) (r : Request)
  /-- READ_STATUS (R113) -/
  | readStatus (r : Request)
  /-- READ_POSITION (R21) -/
  | readPosition (r : Request)
  /-- READ_REEL_MODEL (R46) -/
  | readReelModel (r : Request)
  /-- READ_MOVES (R88) -/
  | readMoves (r : Request)
  /-- READ_LOCATE_TABLE (R16) -/
  | readLocateTable (r : Request)
  /-- READ_ZONES (R127) -/
  | readZones (r : Request)
  /-- READ_CAPTURE (R165) -/
  | readCapture (r : Request)
  /-- READ_PROFILE (R191) -/
  | readProfile (r : Request)
  /-- READ_EVENTS (R184) -/
  | readEvents (r : Request)
  /-- CLAIM_TRANSPORT (R186) -/
  | claimTransport (r : Request)
  /-- RELEASE_TRANSPORT (R186) -/
  | releaseTransport (r : Request)
  /-- SUBMIT_MOVE (R67) -/
  | submitMove (r : Request)
  /-- FLUSH_MOVES (R83) -/
  | flushMoves (r : Request)
  /-- STOP (R105) -/
  | stop (r : Request)
  /-- SIZE_REELS (R106) -/
  | sizeReels (r : Request)
  /-- ENTER_STANDBY (R109) -/
  | enterStandby (r : Request)
  /-- WAKE (R110) -/
  | wake (r : Request)
  /-- CLEAR_FAULT (R176) -/
  | clearFault (r : Request)
  /-- SET_ZONE (R116) -/
  | setZone (r : Request)
  /-- CLEAR_ZONE (R117) -/
  | clearZone (r : Request)
  /-- SET_LOCATE_ENTRY (R17) -/
  | setLocateEntry (r : Request)
  /-- CLEAR_LOCATE_ENTRY (R18) -/
  | clearLocateEntry (r : Request)
  /-- SET_ANCHOR (R14) -/
  | setAnchor (r : Request)
  /-- SET_SCHEDULE (R51) -/
  | setSchedule (r : Request)
  /-- SET_EVENT_MASK (R184) -/
  | setEventMask (r : Request)
  /-- ACKNOWLEDGE_EVENTS (R184) -/
  | acknowledgeEvents (r : Request)
  /-- SET_REPORT_RATE (R185) -/
  | setReportRate (r : Request)
  /-- WATCH_POSITION (R159) -/
  | watchPosition (r : Request)
  /-- CANCEL_WATCH (R159) -/
  | cancelWatch (r : Request)
  /-- ARM_CAPTURE (R161) -/
  | armCapture (r : Request)
  /-- TRIGGER_CAPTURE (R164) -/
  | triggerCapture (r : Request)
  /-- ABORT_CAPTURE (R164) -/
  | abortCapture (r : Request)
  /-- RELEASE_CAPTURE (R164) -/
  | releaseCapture (r : Request)
  /-- SET_CUE_CODES (R145) -/
  | setCueCodes (r : Request)
  /-- SET_AUTO_CUE (R149) -/
  | setAutoCue (r : Request)
  /-- WRITE_CUE (R150) -/
  | writeCue (r : Request)
  /-- CANCEL_CUE_WRITE (R153) -/
  | cancelCueWrite (r : Request)
  /-- WRITE_PROFILE (R192) -/
  | writeProfile (r : Request)
  /-- RESET_PART (R188) -/
  | resetPart (r : Request)
  /-- RESET_INPUT_RELEASE (R190) -/
  | resetInputRelease
  /-- BYTE_RECEIVED (R179): a byte and whether its stop bit was there -/
  | byteReceived (l : Link) (b : Byte) (stopBit : Bool)
  deriving DecidableEq, Repr

/-- The kind bytes of the requests, in the order of 11.4. -/
def requestKinds : List Byte :=
  [0x01, 0x02, 0x03, 0x04, 0x05, 0x06, 0x07, 0x08, 0x09,
   0x10, 0x11, 0x12, 0x13, 0x14, 0x15, 0x16, 0x17, 0x18] ++
  [0x20, 0x21, 0x22, 0x23, 0x24, 0x25, 0x26, 0x27, 0x28, 0x29, 0x2A,
   0x30, 0x31, 0x32, 0x33, 0x34, 0x35, 0x36, 0x37, 0x3C, 0x3D]

/-- The greatest body length a frame may declare (11.2). -/
def maxBody : Nat := 120

/-- The request a command brings, if it is a request of the table: its kind byte of 11.4 and what it carries. -/
def Instr.request? : Instr → Option (Byte × Request)
  | .unknownKind k r => some (k, r)
  | .readStatus r => some (0x01, r)
  | .readPosition r => some (0x02, r)
  | .readReelModel r => some (0x03, r)
  | .readMoves r => some (0x04, r)
  | .readLocateTable r => some (0x05, r)
  | .readZones r => some (0x06, r)
  | .readCapture r => some (0x07, r)
  | .readProfile r => some (0x08, r)
  | .readEvents r => some (0x09, r)
  | .claimTransport r => some (0x10, r)
  | .releaseTransport r => some (0x11, r)
  | .submitMove r => some (0x12, r)
  | .flushMoves r => some (0x13, r)
  | .stop r => some (0x14, r)
  | .sizeReels r => some (0x15, r)
  | .enterStandby r => some (0x16, r)
  | .wake r => some (0x17, r)
  | .clearFault r => some (0x18, r)
  | .setZone r => some (0x20, r)
  | .clearZone r => some (0x21, r)
  | .setLocateEntry r => some (0x22, r)
  | .clearLocateEntry r => some (0x23, r)
  | .setAnchor r => some (0x24, r)
  | .setSchedule r => some (0x25, r)
  | .setEventMask r => some (0x26, r)
  | .acknowledgeEvents r => some (0x27, r)
  | .setReportRate r => some (0x28, r)
  | .watchPosition r => some (0x29, r)
  | .cancelWatch r => some (0x2A, r)
  | .armCapture r => some (0x30, r)
  | .triggerCapture r => some (0x31, r)
  | .abortCapture r => some (0x32, r)
  | .releaseCapture r => some (0x33, r)
  | .setCueCodes r => some (0x34, r)
  | .setAutoCue r => some (0x35, r)
  | .writeCue r => some (0x36, r)
  | .cancelCueWrite r => some (0x37, r)
  | .writeProfile r => some (0x3C, r)
  | .resetPart r => some (0x3D, r)
  | .powerOn | .resetLine | .settlePeriodEnd | .profileLoadDone | .rollerCount _ | .reelCount _ _ | .capstanCount _
  | .windowTimeout _ | .restTimerExpiry | .tapeTimecodeWord _ _ | .conversionComplete _ | .driveFaultInput _ _
  | .supplyWarningInput _ | .reelServoUpdate | .rollerSlipTimeout | .referenceUpdate | .capstanUpdate
  | .pinchEngagedSense _ | .pinchTimeout | .durationExpiry | .threadCheckTimeout | .measureTimeout | .brakingTimeout
  | .supervisionExpiry | .referenceWord _ _ | .lossTimerExpiry | .freewheelExpiry | .cueBit _ | .captureSampleEvent
  | .positionReportPeriod | .frameReceived _ _ _ _ | .frameGapTimeout _ | .transmitDone _ | .deferredReset
  | .profileWriteDone | .resetInputRelease | .byteReceived _ _ _ => none

end Sys2Proof
end

