-- ==== Sys2Proof/Decode.lean ====
section
/-! DEFINITION. Commands spelled by a word. No row of spec/opcode_table.json gives bits, so no word spells a command
(entry 39); the requests reach the part as frames (11.2), which BYTE_RECEIVED reads. -/

namespace Sys2Proof

/-- The command that a word of `nbits` bits spells by the table's bits: none, since the table gives no row any bits. -/
def decodeTableWord (_nbits _w : Nat) : Option Instr := none

end Sys2Proof
end

