-- ==== Sys2Proof/Config.lean ====
section
/-! DEFINITION. What an implementation fixes: the profile record and its built-in defaults (11.10), the clock's unit, the times
the chapters fix, and the free values (the values the spec leaves open). -/

namespace Sys2Proof

/-- The fields of the profile record, in the order of 11.10. -/
structure Profile where
  cRoll       : Nat
  rate        : Nat
  vPlay       : Nat
  rHub        : Nat
  rFlange     : Nat
  rSizing     : Nat
  jHub        : Nat
  kPack       : Nat
  thickness   : Nat
  tauL        : Nat
  tauR        : Nat
  kV          : Nat
  kP          : Nat
  shuttle     : Nat
  accel       : Nat
  windTension : Nat
  playTension : Nat
  stopTension : Nat
  creep       : Nat
  tolerance   : Nat
  aStop       : Nat
  sizingSpeed : Nat
  cCap        : Nat
  kPc         : Nat
  kIc         : Nat
  leader      : Nat
  restL       : Nat
  gainL       : Nat
  restR       : Nat
  gainR       : Nat
  slackAt     : Nat
  overAt      : Nat
  hysteresis  : Nat
  nSlack      : Nat
  nOver       : Nat
  nClear      : Nat
  wakeDelta   : Nat
  zeroL       : Nat
  scaleL      : Nat
  zeroR       : Nat
  scaleR      : Nat
  zeroC       : Nat
  scaleC      : Nat
  supplyLow   : Nat
  supervision : Nat
  kPh         : Nat
  preroll     : Nat
  lockWindow  : Nat
  reseek      : Nat
  freewheel   : Nat
  deriving DecidableEq, Repr

/-- The built-in defaults of the profile (11.10). -/
def Config.defaultProfile : Profile where
  cRoll := 60000
  rate := 25
  vPlay := 381000
  rHub := 50000
  rFlange := 178000
  rSizing := 100000
  jHub := 4000
  kPack := 559
  thickness := 30
  tauL := 1500
  tauR := 1500
  kV := 40
  kP := 8
  shuttle := 10000000
  accel := 2000
  windTension := 250
  playTension := 300
  stopTension := 200
  creep := 50000
  tolerance := 6
  aStop := 3000
  sizingSpeed := 200000
  cCap := 40000
  kPc := 64
  kIc := 4
  leader := 5000000
  restL := 400
  gainL := 256
  restR := 400
  gainR := 256
  slackAt := 60
  overAt := 900
  hysteresis := 20
  nSlack := 32
  nOver := 64
  nClear := 32
  wakeDelta := 40
  zeroL := 2048
  scaleL := 256
  zeroR := 2048
  scaleR := 256
  zeroC := 2048
  scaleC := 256
  supplyLow := 2600
  supervision := 1000
  kPh := 16
  preroll := 125
  lockWindow := 10
  reseek := 50
  freewheel := 25

/-- A number of microseconds in units of the model's clock, 125 ns. DESIGN CHOICE (entry 1): the unit divides every period of
the chapters (15.625 µs is 125 units). -/
def Config.usec (n : Nat) : Nat := 8 * n

/-- A number of milliseconds in units of the clock. -/
def Config.msec (n : Nat) : Nat := 8000 * n

/-- One conversion or IDLE slot, 15.625 µs (R48), in units of the clock. -/
def Config.conversionTime : Nat := 125

/-- The period of the reel servo, reference, capstan and capture sample events, 250 µs (R36, R92, R102, R160). -/
def Config.updateTime : Nat := Config.usec 250

/-- The free values behind the target of a MOVE comparator between its allocation and its move's activation, which writes the
target (R71, R75): the spec gives none (entry 26). Applied to a counter of State, one for each allocation. -/
opaque Config.unwrittenTarget : Nat → Int

/-- The same for the sense (entry 26), as a number taken modulo 3. -/
opaque Config.unwrittenSense : Nat → Nat

/-- The free values that a 4-byte reply field holds when the number does not fit in it: the spec gives none (entry 27). -/
opaque Config.overflowField : Int → BitVec 32

end Sys2Proof
end

