-- ==== Sys2Proof/Machine/Arith.lean ====
section
/-! DEFINITION. The arithmetic of the chapters (0.5.3): rounding, the timecode mapping, radius, inertia and remaining tape, the
braking distance, the integer square root, the link CRC, byte order, and the profile record's layout and validation. -/

namespace Sys2Proof.Machine

/-- "Clamped to" a range (0.5.3). -/
def clampInt (lo hi x : Int) : Int := if x < lo then lo else if hi < x then hi else x

/-- "Clamped to" a range of naturals (0.5.3). -/
def clampNat (lo hi x : Nat) : Nat := if x < lo then lo else if hi < x then hi else x

/-- "Rounded up" quotient (0.5.3). -/
def ceilDiv (a b : Nat) : Nat := (a + (b - 1)) / b

/-- The integer square root's recursion on a number of base-4 digits. -/
def isqrtDigits : Nat → Nat → Nat
  | 0, _ => 0
  | k + 1, n =>
    let r := 2 * isqrtDigits k (n / 4)
    if (r + 1) * (r + 1) ≤ n then r + 1 else r

/-- "Integer square root" (0.5.3): the greatest integer whose square does not exceed the operand. -/
def isqrt (n : Nat) : Nat := isqrtDigits (n.log2 + 1) n

/-- The position limits of R1. -/
def posMax : Int := 2000000000

/-- Whether a position lies in −2,000,000,000 to +2,000,000,000. -/
def posOk (x : Int) : Bool := decide (-posMax ≤ x) && decide (x ≤ posMax)

/-- The sign a direction gives a speed (0.5.2). -/
def dirSign : Direction → Int
  | .forward => 1
  | .reverse => -1

/-- The other direction. -/
def dirFlip : Direction → Direction
  | .forward => .reverse
  | .reverse => .forward

/-- A difference reduced by a multiple of `d` into −d/2 to d/2 − 1, for even `d` (R8, R10, R131, R135). -/
def wrapHalf (x d : Int) : Int := (x + d / 2) % d - d / 2

/-! ### Timecode (01) -/

/-- D, the frames of one day (1.2). -/
def dayFrames (p : Profile) : Nat := 86400 * p.rate

/-- The number a byte of two BCD digits stands for, if both digits lie in 0 to 9. -/
def bcdValue (b : Byte) : Option Nat :=
  let n := b.toNat
  if n / 16 < 10 && n % 16 < 10 then some (10 * (n / 16) + n % 16) else none

/-- Two BCD digits for a number below 100. -/
def bcdByte (n : Nat) : Byte := BitVec.ofNat 8 (16 * (n / 10) + n % 10)

/-- The frame count of a timecode that is valid for the working frame rate, and none for one that is not (R5, R6). -/
def timecodeFrames (p : Profile) (t : BcdTime) : Option Nat :=
  match bcdValue t.hh, bcdValue t.mm, bcdValue t.ss, bcdValue t.ff with
  | some h, some m, some s, some f =>
    if h < 24 && m < 60 && s < 60 && f < p.rate then some (((h * 60 + m) * 60 + s) * p.rate + f) else none
  | _, _, _, _ => none

/-- The timecode of a frame count in 0 to D − 1 by successive division (R6). -/
def framesTimecode (p : Profile) (n : Nat) : BcdTime :=
  let q := n / p.rate
  let r := q / 60
  ⟨bcdByte (r / 60), bcdByte (r % 60), bcdByte (q % 60), bcdByte (n % p.rate)⟩

/-- The frame of a position through an anchor (P_a, F_a) (R7). -/
def frameOfPos (p : Profile) (pa : Int) (fa : Nat) (pos : Int) : Nat :=
  ((fa + (pos - pa) * p.rate * p.cRoll / (1000 * p.vPlay)) % dayFrames p).toNat

/-- The subframe position of a position through an anchor (R7). -/
def subframeOfPos (p : Profile) (pa : Int) (fa : Nat) (pos : Int) : Int :=
  fa * 100 + (pos - pa) * p.rate * p.cRoll * 100 / (1000 * p.vPlay)

/-- The position of a target frame through an anchor (R8). -/
def posOfFrame (p : Profile) (pa : Int) (fa ft : Nat) : Int :=
  clampInt (-posMax) posMax
    (pa + wrapHalf (ft - fa) (dayFrames p) * 1000 * p.vPlay / (p.rate * p.cRoll))

/-- One second of tape in counts (R19). -/
def secondOfTape (p : Profile) : Nat := ceilDiv (p.vPlay * 1000) p.cRoll

/-! ### The reels (02) -/

/-- A new radius measurement from a window's roller sum (R27). -/
def radiusMeasured (p : Profile) (roll : Int) : Nat := roll.natAbs * p.cRoll * 2 / 6283

/-- Whether a measurement is plausible (R28). -/
def radiusPlausible (p : Profile) (r : Nat) : Bool :=
  decide (p.rHub * 95 / 100 ≤ r) && decide (r ≤ p.rFlange * 105 / 100)

/-- A reel's inertia J at a radius estimate (R34). -/
def reelInertia (p : Profile) (r : Nat) : Nat :=
  p.jHub + p.kPack * ((r / 1000) ^ 4 - (p.rHub / 1000) ^ 4) / 10000000

/-- A reel's remaining tape L_rem at a radius estimate (R35). -/
def reelRemaining (p : Profile) (r : Nat) : Nat := 355 * (r ^ 2 - p.rHub ^ 2) / (113 * p.thickness)

/-- τ_s, the static torque (R38). -/
def staticTorque (fSet rEst : Nat) : Int := (fSet * rEst / 100000 : Nat)

/-- τ_a, the acceleration torque (R39). -/
def accelTorque (inertia : Nat) (aCmd : Int) (rEst : Nat) : Int :=
  Int.tdiv (inertia * aCmd) (rEst / 1000 * 1000 : Nat)

/-- τ_trim, the trim torque (R40). -/
def trimTorque (p : Profile) (tauMax fSet fMeas rEst : Nat) : Int :=
  clampInt (-(tauMax / 4 : Nat)) (tauMax / 4 : Nat)
    (Int.tdiv (((fSet : Int) - fMeas) * rEst * p.kP) 1600000)

/-- The drive code of a clamped torque (R41). -/
def torqueCode (tau : Int) (tauMax : Nat) : Int := Int.tdiv (tau * 2047) tauMax

/-- b(v, a), the braking distance in counts (R99). -/
def brakingDistance (p : Profile) (v a : Nat) : Nat := ceilDiv (v * v) (2 * a * p.cRoll)

/-- v_g, the guard ceiling of a paying reel with confidence of at least 1 (R124). -/
def guardSpeed (p : Profile) (remaining : Nat) : Nat := isqrt (2 * p.aStop * 1000 * (remaining - p.leader))

/-- The look-ahead ceiling at a distance `x` from an approach point (R120). -/
def lookAhead (p : Profile) (c az : Nat) (x : Int) : Nat :=
  if 0 < x then isqrt (c * c + 2 * az * p.cRoll * x.toNat) else 0

/-- accel after one derating: half, down to a multiple of 4, at least 100 (R44). -/
def deratedAccel (a : Nat) : Nat := max 100 (a / 2 / 4 * 4)

/-- The capstan target v_c (R101). -/
def capstanTarget (p : Profile) (vari c : Int) : Int := (p.vPlay * (10000 + vari + c)) / 10000

/-! ### Bytes (R181) -/

/-- A two's-complement number in one byte. -/
def enc1 (x : Int) : Bytes := [BitVec.ofInt 8 x]

/-- The four bytes of a 32-bit word, most significant first. -/
def wordBytes (w : BitVec 32) : Bytes :=
  [w.extractLsb' 24 8, w.extractLsb' 16 8, w.extractLsb' 8 8, w.extractLsb' 0 8]

/-- A number in two bytes, most significant first. -/
def enc2 (x : Int) : Bytes :=
  let w := BitVec.ofInt 16 x
  [w.extractLsb' 8 8, w.extractLsb' 0 8]

/-- A signed number in four bytes. A number that does not fit gives a free value (entry 27). -/
def enc4 (x : Int) : Bytes :=
  wordBytes (if -2147483648 ≤ x ∧ x ≤ 2147483647 then BitVec.ofInt 32 x else Config.overflowField x)

/-- An unsigned number in four bytes. A number that does not fit gives a free value (entry 27). -/
def enc4u (x : Nat) : Bytes :=
  wordBytes (if x ≤ 4294967295 then BitVec.ofNat 32 x else Config.overflowField x)

/-- A flag, 0 for clear and 1 for set. -/
def encFlag (b : Bool) : Bytes := [if b then 1 else 0]

/-- The byte of a body at an offset, as a number; 0 past its end. -/
def bodyU8 (b : Bytes) (i : Nat) : Nat := (b.getD i 0).toNat

/-- The two-byte unsigned field of a body at an offset. -/
def bodyU16 (b : Bytes) (i : Nat) : Nat := bodyU8 b i * 256 + bodyU8 b (i + 1)

/-- The four-byte unsigned field of a body at an offset. -/
def bodyU32 (b : Bytes) (i : Nat) : Nat := bodyU16 b i * 65536 + bodyU16 b (i + 2)

/-- The two-byte signed field of a body at an offset. -/
def bodyI16 (b : Bytes) (i : Nat) : Int := (BitVec.ofNat 16 (bodyU16 b i)).toInt

/-- The four-byte signed field of a body at an offset. -/
def bodyI32 (b : Bytes) (i : Nat) : Int := (BitVec.ofNat 32 (bodyU32 b i)).toInt

/-- The timecode of a body at an offset. -/
def bodyTime (b : Bytes) (i : Nat) : BcdTime := ⟨b.getD i 0, b.getD (i + 1) 0, b.getD (i + 2) 0, b.getD (i + 3) 0⟩

/-- One bit of the link CRC's shift register. -/
def crcBit (crc : BitVec 16) : BitVec 16 :=
  if crc.getLsbD 15 then (crc <<< 1) ^^^ 0x1021 else crc <<< 1

/-- One byte of the link CRC. -/
def crcByte (crc : BitVec 16) (b : Byte) : BitVec 16 :=
  let x := crc ^^^ (b.zeroExtend 16 <<< 8)
  crcBit (crcBit (crcBit (crcBit (crcBit (crcBit (crcBit (crcBit x)))))))

/-- The link CRC (R179): polynomial 1021h, initial value FFFFh, no reflection, no final inversion. -/
def crc16 (bs : Bytes) : BitVec 16 := bs.foldl crcByte 0xFFFF

/-- The two bytes of a CRC, high byte first. -/
def crcBytes (c : BitVec 16) : Bytes := [c.extractLsb' 8 8, c.extractLsb' 0 8]

/-! ### The profile record (11.10) -/

/-- The sizes of the fifty fields (11.10). -/
def profileSizes : List Nat :=
  [4, 1, 4, 4, 4, 4, 4, 2, 1, 2, 2, 1, 1, 4, 2, 2, 2, 2, 4, 1, 2, 4, 4, 1, 1] ++
  [4, 2, 2, 2, 2, 2, 2, 2, 1, 1, 1, 2, 2, 2, 2, 2, 2, 2, 2, 2, 1, 2, 1, 2, 2]

/-- The values of the fifty fields, in the order of 11.10. -/
def profileValues (p : Profile) : List Nat :=
  [p.cRoll, p.rate, p.vPlay, p.rHub, p.rFlange, p.rSizing, p.jHub, p.kPack, p.thickness, p.tauL, p.tauR, p.kV, p.kP,
   p.shuttle, p.accel, p.windTension, p.playTension, p.stopTension, p.creep, p.tolerance, p.aStop, p.sizingSpeed,
   p.cCap, p.kPc, p.kIc] ++
  [p.leader, p.restL, p.gainL, p.restR, p.gainR, p.slackAt, p.overAt, p.hysteresis, p.nSlack, p.nOver, p.nClear,
   p.wakeDelta, p.zeroL, p.scaleL, p.zeroR, p.scaleR, p.zeroC, p.scaleC, p.supplyLow, p.supervision, p.kPh, p.preroll,
   p.lockWindow, p.reseek, p.freewheel]

/-- The profile whose fields have these values, in the order of 11.10. -/
def profileOfValues (l : List Nat) : Profile :=
  let v := fun i => l.getD i 0
  { cRoll := v 0, rate := v 1, vPlay := v 2, rHub := v 3, rFlange := v 4, rSizing := v 5, jHub := v 6, kPack := v 7,
    thickness := v 8, tauL := v 9, tauR := v 10, kV := v 11, kP := v 12, shuttle := v 13, accel := v 14,
    windTension := v 15, playTension := v 16, stopTension := v 17, creep := v 18, tolerance := v 19, aStop := v 20,
    sizingSpeed := v 21, cCap := v 22, kPc := v 23, kIc := v 24, leader := v 25, restL := v 26, gainL := v 27,
    restR := v 28, gainR := v 29, slackAt := v 30, overAt := v 31, hysteresis := v 32, nSlack := v 33, nOver := v 34,
    nClear := v 35, wakeDelta := v 36, zeroL := v 37, scaleL := v 38, zeroR := v 39, scaleR := v 40, zeroC := v 41,
    scaleC := v 42, supplyLow := v 43, supervision := v 44, kPh := v 45, preroll := v 46, lockWindow := v 47,
    reseek := v 48, freewheel := v 49 }

/-- An unsigned number in a field of 1, 2 or 4 bytes. -/
def encSized (size v : Nat) : Bytes :=
  match size with
  | 1 => enc1 v
  | 2 => enc2 v
  | _ => enc4u v

/-- The 110 bytes of a profile (11.10). -/
def profileBytes (p : Profile) : Bytes :=
  (List.zipWith encSized profileSizes (profileValues p)).flatten

/-- The unsigned number that a run of bytes stands for, most significant first. -/
def bytesValue (b : Bytes) : Nat := b.foldl (fun n x => n * 256 + x.toNat) 0

/-- The values of consecutive fields of the given sizes. -/
def splitFields : List Nat → Bytes → List Nat
  | [], _ => []
  | n :: ns, b => bytesValue (b.take n) :: splitFields ns (b.drop n)

/-- The profile that 110 bytes stand for (11.10). -/
def profileOfBytes (b : Bytes) : Profile := profileOfValues (splitFields profileSizes b)

/-- Whether a field's value lies in a range, inclusive at both ends. -/
def inRange (lo hi v : Nat) : Bool := decide (lo ≤ v) && decide (v ≤ hi)

/-- The validity of each of the fifty fields in their order (R192, R33 for field 6, R59 for field 32). -/
def profileChecks (p : Profile) : List Bool :=
  [inRange 40000 80000 p.cRoll, [24, 25, 30].contains p.rate, [190500, 381000, 762000].contains p.vPlay,
   inRange 25000 80000 p.rHub, inRange 100000 200000 p.rFlange,
   inRange 25000 200000 p.rSizing && inRange p.rHub p.rFlange p.rSizing,
   inRange 0 200000 p.jHub, inRange 0 2000 p.kPack, inRange 15 60 p.thickness,
   inRange 100 4000 p.tauL, inRange 100 4000 p.tauR, inRange 0 200 p.kV, inRange 0 64 p.kP,
   inRange 1000000 12000000 p.shuttle, inRange 100 8000 p.accel && p.accel % 4 == 0,
   inRange 50 1500 p.windTension, inRange 50 1500 p.playTension, inRange 50 1500 p.stopTension,
   inRange 10000 200000 p.creep, inRange 1 100 p.tolerance, inRange 500 8000 p.aStop,
   inRange 200000 1000000 p.sizingSpeed, inRange 20000 100000 p.cCap, inRange 0 255 p.kPc, inRange 0 255 p.kIc] ++
  [inRange 1000000 20000000 p.leader, inRange 0 4095 p.restL, inRange 1 4096 p.gainL, inRange 0 4095 p.restR,
   inRange 1 4096 p.gainR, inRange 10 1000 p.slackAt,
   inRange 100 3000 p.overAt && decide (p.slackAt + p.hysteresis + p.hysteresis < p.overAt),
   inRange 1 200 p.hysteresis, inRange 1 255 p.nSlack, inRange 1 255 p.nOver, inRange 1 255 p.nClear,
   inRange 8 400 p.wakeDelta, inRange 0 4095 p.zeroL, inRange 1 1024 p.scaleL, inRange 0 4095 p.zeroR,
   inRange 1 1024 p.scaleR, inRange 0 4095 p.zeroC, inRange 1 1024 p.scaleC, inRange 0 4095 p.supplyLow,
   p.supervision == 0 || inRange 100 5000 p.supervision, inRange 1 64 p.kPh, inRange 25 750 p.preroll,
   inRange 1 50 p.lockWindow, inRange 10 500 p.reseek, inRange 0 250 p.freewheel]

/-- The index, from 1, of the first field that fails its check (R180, R181). -/
def firstBad (checks : List Bool) : Option Nat :=
  match checks.findIdx? (fun c => !c) with
  | some i => some (i + 1)
  | none => none

/-- Whether every field of a profile is valid (R192). -/
def profileOk (p : Profile) : Bool := (profileChecks p).all id

end Sys2Proof.Machine
end

