-- ==== Sys2Proof/Machine/State.lean ====
section
/-! DEFINITION. The state of the part: every register, counter, timer, table, queue and line that the chapters name, as plain
data, and the state right after reset (the tables "After any reset" of the chapters, R190). -/

namespace Sys2Proof.Machine

/-! ### Names of values -/

/-- The four kinds of reset (0.5.6), in the order of 11.4. -/
inductive ResetKind where
  | powerOn | resetLine | deckRequest | serviceRequest
  deriving DecidableEq, Repr, Inhabited

/-- The transport class of the Start-up Notice (R113, 11.4). -/
inductive TransportClass where
  | unknown | moving | standby | idle
  deriving DecidableEq, Repr, Inhabited

/-- The eleven transport states, in the order of 5.1. -/
inductive Transport where
  | unthreaded | sizing | stopped | winding | engaging | playing | releasing | halting | braking | fault | standby
  deriving DecidableEq, Repr, Inhabited

/-- The tension states of an arm (3.4). -/
inductive TensionState where
  | slack | normal | over
  deriving DecidableEq, Repr, Inhabited

/-- The names a slot of the sample schedule may hold, in the order of R50's table. -/
inductive Slot where
  | armL | armR | curL | curR | curC | supply | idle
  deriving DecidableEq, Repr, Inhabited

/-- The kinds of move (4.1). -/
inductive MoveKind where
  | wind | locate | play | chase | hold
  deriving DecidableEq, Repr, Inhabited

/-- The results of a move, in the order of 11.4. -/
inductive MoveResult where
  | done | superseded | aborted | faulted | overshoot | noTimecode | emptyEntry | blocked | endOfTape | halted
  deriving DecidableEq, Repr, Inhabited

/-- The fault kinds, in the order of 11.4. -/
inductive FaultKind where
  | driveL | driveR | driveC | tapeBreak | supplyLow | slackLoop | overTension | radiusLost | pinchTimeout | rollerSlip
  deriving DecidableEq, Repr, Inhabited

/-- The two classes of fault (10). -/
inductive FaultClass where
  | a | b
  deriving DecidableEq, Repr, Inhabited

/-- The 16 event sources, in the order of 11.6. -/
inductive Source where
  | fault | tensionL | tensionR | cue | watchHit | captureDone | chaseState | zone | eotGuard | reanchor | derate
  | armMoved | supervisionStop | ownership | profileWritten | sizingDone
  deriving DecidableEq, Repr, Inhabited

/-- The senses of a comparator, and the exit directions of a BARRIER that contains the tape (9.1, 6.1). -/
inductive Sense where
  | forward | reverse | either
  deriving DecidableEq, Repr, Inhabited

/-- The status codes of a reply (R180). -/
inductive Status where
  | ok | unknownKind | badLength | badField | notOwner | wrongState | queueFull | noComparator | busy | profileInvalid
  | faultPersists | resetPending
  deriving DecidableEq, Repr, Inhabited

/-! ### Position Unit (01) -/

/-- An anchor that is not NONE is PRESET or TAPE. -/
inductive AnchorKind where
  | preset | tape
  deriving DecidableEq, Repr, Inhabited

/-- An anchor with its pair (P_a, F_a) (1.2.1). -/
structure Anchor where
  kind  : AnchorKind
  pos   : Int
  frame : Nat
  deriving DecidableEq, Repr

/-- The discrepancy chain (R12). The last frame and the direction mean something while the length is not 0. -/
structure Chain where
  len  : Nat
  last : Nat
  dir  : Direction
  deriving DecidableEq, Repr

/-- The kinds of a locate table entry (1.5). -/
inductive EntryKind where
  | user | cue
  deriving DecidableEq, Repr, Inhabited

/-- A locate table entry that is not empty (1.5). -/
structure LocateEntry where
  kind : EntryKind
  pos  : Int
  time : Option BcdTime
  deriving DecidableEq, Repr

/-- The Position Unit (1.1.1). -/
structure PositionUnit where
  pos       : Int
  tachL     : BitVec 32
  tachR     : BitVec 32
  /-- the rest timer has expired: the tape is at rest (R3) -/
  atRest    : Bool
  /-- when the rest timer last started -/
  restStart : Nat
  anchor    : Option Anchor
  chain     : Chain
  /-- the locate table, 32 entries -/
  locate    : List (Option LocateEntry)
  deriving DecidableEq, Repr

/-! ### Reel Model, Reel Servo and the measured speed (02) -/

/-- The roller count history, the measured speed and the commanded acceleration (R36, R37). -/
structure SpeedMeter where
  /-- the last 32 interval counts, oldest first -/
  hist       : List Int
  /-- the interval still open -/
  cur        : Int
  v          : Int
  aCmd       : Int
  lastUpdate : Nat
  deriving DecidableEq, Repr

/-- An open radius window (R24). -/
structure Window where
  dir    : Direction
  angle  : Nat
  roll   : Int
  opened : Nat
  deriving DecidableEq, Repr

/-- One reel of the Reel Model with its Reel Servo (2.1). -/
structure Reel where
  rEst      : Nat
  conf      : Nat
  window    : Option Window
  streak    : Nat
  inertia   : Nat
  remaining : Nat
  torque    : Int
  code      : Int
  sat       : Nat
  deriving DecidableEq, Repr

/-! ### Sensor Converter and Tension Monitor (03) -/

/-- The Sensor Converter (3.1) with the last raw code of each input and the last current codes (R53). -/
structure Converter where
  schedule        : List Slot
  pendingSchedule : Option (List Slot)
  ptr             : Nat
  armL   : Nat
  armR   : Nat
  curL   : Nat
  curR   : Nat
  curC   : Nat
  supply : Nat
  codeL  : Int
  codeR  : Int
  codeC  : Int
  lastDone : Nat
  deriving DecidableEq, Repr

/-- One arm of the Tension Monitor (R55 to R58). -/
structure Arm where
  tension   : Nat
  state     : TensionState
  slackRun  : Nat
  overRun   : Nat
  returnRun : Nat
  deriving DecidableEq, Repr

/-- The standby watch while it is active (R62). -/
structure Watch where
  snapL : Nat
  snapR : Nat
  cntL  : Nat
  cntR  : Nat
  deriving DecidableEq, Repr

/-! ### Motion Sequencer (04, 05) -/

/-- The target of a move record (4.1). -/
inductive MoveTarget where
  | position (p : Int)
  | timecode (t : BcdTime)
  | entry (i : Nat)
  | nextCue
  deriving DecidableEq, Repr

/-- A record of the move queue, completed and clamped by R69, with its queue slot, its resolved target (R72) and its
comparator (R71). -/
structure MoveRecord where
  slot     : Nat
  id       : Byte
  kind     : MoveKind
  dir      : Option Direction
  target   : Option MoveTarget
  resolved : Option Int
  duration : Option Nat
  ceiling  : Nat
  accel    : Nat
  tension  : Nat
  vari     : Int
  offset   : Int
  comp     : Option Nat
  deriving DecidableEq, Repr

/-- The active move context (R75). -/
structure ActiveMove where
  id        : Byte
  kind      : MoveKind
  dir       : Option Direction
  target    : Option Int
  comp      : Option Nat
  accel     : Nat
  ceiling   : Nat
  tension   : Nat
  vari      : Int
  offset    : Int
  /-- the activation time, from which the elapsed time runs -/
  start     : Nat
  derated   : Bool
  reversals : Nat
  deriving DecidableEq, Repr

/-- A completion record (R80). -/
structure Completion where
  id          : Byte
  result      : MoveResult
  endPos      : Int
  endTime     : Option BcdTime
  elapsed     : Nat
  derated     : Bool
  discarded   : Nat
  earlierLost : Bool
  deriving DecidableEq, Repr

/-- Where HALTING may lead (R104). -/
inductive HaltDest where
  | stopped | unthreaded
  deriving DecidableEq, Repr, Inhabited

/-- The HALTING context (5.1), with whether the pinch release it waits for is over (R103, R104). -/
structure HaltCtx where
  fromPlaying : Bool
  dest        : HaltDest
  pinchDone   : Bool
  deriving DecidableEq, Repr

/-- The phases of a locate (5.5). -/
inductive LocatePhase where
  | run | creep | settle
  deriving DecidableEq, Repr, Inhabited

/-- The locate context (5.1). -/
structure LocateCtx where
  phase  : LocatePhase
  dir    : Direction
  target : Int
  deriving DecidableEq, Repr

/-- The phases of sizing (5.8). -/
inductive SizingPhase where
  | threadCheck | measure | returning
  deriving DecidableEq, Repr, Inhabited

/-- The variants of sizing (5.1). -/
inductive SizingVariant where
  | size | wake
  deriving DecidableEq, Repr, Inhabited

/-- The sizing context (5.1), with the passes RETURN has counted (R107). -/
structure SizingCtx where
  phase     : SizingPhase
  variant   : SizingVariant
  startPos  : Int
  /-- when the phase timer started -/
  timer     : Nat
  reversals : Nat
  deriving DecidableEq, Repr

/-- The Motion Sequencer: transport, reference, move queue, completion list, and the two output lines that follow the
transport state (4.1.1, 5.1, 10.1). A running timer holds the moment it started. -/
structure Motion where
  state        : Transport
  vRef         : Int
  aRef         : Int
  accel        : Nat
  haltPending  : Option HaltDest
  halt         : Option HaltCtx
  locate       : Option LocateCtx
  sizing       : Option SizingCtx
  pinchTimer   : Option Nat
  brakingTimer : Option Nat
  /-- the brake release output: asserted releases the brakes (0.4) -/
  brakeRelease : Bool
  /-- the pinch solenoid output: true commands the pinch engaged -/
  pinchCmd     : Bool
  lastUpdate   : Nat
  queue        : List MoveRecord
  active       : Option ActiveMove
  completions  : List Completion
  deriving DecidableEq, Repr

/-- The Capstan Servo (5.1). -/
structure Capstan where
  /-- the last 32 interval counts, oldest first -/
  hist       : List Int
  /-- the interval still open -/
  cur        : Int
  speed      : Int
  integral   : Int
  code       : Int
  running    : Bool
  lastUpdate : Nat
  deriving DecidableEq, Repr

/-! ### Zone Table (06) -/

/-- The kinds of zone (6.1). -/
inductive ZoneKind where
  | slow | barrier | notify
  deriving DecidableEq, Repr, Inhabited

/-- A zone table entry that is not empty (6.1). -/
structure Zone where
  base     : Int
  limit    : Int
  kind     : ZoneKind
  /-- the ceiling of a SLOW zone, 0 for the others -/
  ceiling  : Nat
  contains : Bool
  exit     : Option Sense
  deriving DecidableEq, Repr

/-- The Zone Table (6.1, R127). -/
structure ZoneTable where
  /-- 8 entries -/
  entries       : List (Option Zone)
  guardReported : Bool
  /-- a reference update has been made since the last activation (R126; the model's own field) -/
  updated       : Bool
  guardF        : Option Nat
  guardR        : Option Nat
  /-- the ceilings of the last reference update -/
  ceilF         : Option Nat
  ceilR         : Option Nat
  descent       : Bool
  deriving DecidableEq, Repr

/-! ### Chase Unit (07) -/

/-- The chase states, in the order of 11.4. -/
inductive ChaseState where
  | inactive | seek | approach | locked | freewheel | lost
  deriving DecidableEq, Repr, Inhabited

/-- The freewheel origins (7.1). -/
inductive ChaseOrigin where
  | seek | play
  deriving DecidableEq, Repr, Inhabited

/-- The seek context (R134); `parked` tells PARKED from LOCATING. -/
structure SeekCtx where
  rendezvous  : Nat
  targetFrame : Nat
  targetPos   : Int
  parked      : Bool
  deriving DecidableEq, Repr

/-- The Chase Unit (7.1). -/
structure Chase where
  present   : Bool
  run       : Nat
  lastFrame : Option Nat
  lastSub   : Option Int
  lossTimer : Option Nat
  /-- when the last valid word came (R143) -/
  lastWord  : Option Nat
  state     : ChaseState
  origin    : Option ChaseOrigin
  freewheel : Option Nat
  e         : Option Int
  c         : Int
  lock      : Nat
  unlock    : Nat
  seek      : Option SeekCtx
  deriving DecidableEq, Repr

/-! ### Cue Track Unit (08) -/

/-- The two codes (8.2). -/
inductive CueKind where
  | mark | clear
  deriving DecidableEq, Repr, Inhabited

/-- A detector (8.1). -/
structure Detector where
  run      : Nat
  dist     : Nat
  reported : Bool
  deriving DecidableEq, Repr

/-- The generator states (8.1). -/
inductive GenState where
  | idle | armed | writing
  deriving DecidableEq, Repr, Inhabited

/-- The write context (8.1), with the code's bits as they stood at the acceptance (R150). -/
structure WriteCtx where
  kind      : CueKind
  code      : List Bool
  start     : Int
  stop      : Int
  startComp : Nat
  stopComp  : Nat
  bitIndex  : Nat
  written   : Nat
  deriving DecidableEq, Repr

/-- The cue bit output: inactive, active before its first bit, or active with the bit last driven (R151). -/
inductive CueOut where
  | inactive
  | active (bit : Option Bool)
  deriving DecidableEq, Repr

/-- The Cue Track Unit (8.1). A code is the list of its bits, first bit first; the history holds its newest bit last. -/
structure CueUnit where
  mark      : List Bool
  clear     : List Bool
  threshold : Nat
  auto      : Bool
  hist      : List Bool
  histDir   : Direction
  detMark   : Detector
  detClear  : Detector
  gen       : GenState
  write     : Option WriteCtx
  out       : CueOut
  deriving DecidableEq, Repr

/-! ### Comparator Pool and Capture Unit (09) -/

/-- The users of a comparator (9.1). -/
inductive CompUser where
  | move | captureStart | captureEnd | cueStart | cueStop | watch
  deriving DecidableEq, Repr, Inhabited

/-- The states of an allocated comparator (9.1). -/
inductive CompState where
  | unarmed | armed | hit
  deriving DecidableEq, Repr, Inhabited

/-- An allocated comparator (9.1); the queue slot is for user MOVE only. -/
structure Comparator where
  user   : CompUser
  slot   : Option Nat
  target : Int
  sense  : Sense
  state  : CompState
  deriving DecidableEq, Repr

/-- The capture modes (9.5). -/
inductive CapMode where
  | oneShot | ring
  deriving DecidableEq, Repr, Inhabited

/-- The capture states (9.5). -/
inductive CapState where
  | idle | armed | running | triggered | done
  deriving DecidableEq, Repr, Inhabited

/-- The ten captured signals, in the order of R160's table. -/
inductive Signal where
  | armTensionL | armTensionR | torqueL | torqueR | capstanCode | measuredSpeed | referenceSpeed | radiusL | radiusR
  | positionLow
  deriving DecidableEq, Repr, Inhabited

/-- The starts of a ONE_SHOT capture (R162). -/
inductive CapStart where
  | immediate
  | atPosition (p : Int) (s : Sense)
  deriving DecidableEq, Repr

/-- The ends of a ONE_SHOT capture (R162). -/
inductive CapEnd where
  | count (n : Nat)
  | atPosition (p : Int) (s : Sense)
  | full
  deriving DecidableEq, Repr

/-- The triggers of a RING capture (R163). -/
inductive CapTrigger where
  | command
  | fault
  | atPosition (p : Int) (s : Sense)
  deriving DecidableEq, Repr

/-- The reasons of DONE, in the order of 11.4. -/
inductive DoneReason where
  | count | position | full | postCount | aborted | resetCut
  deriving DecidableEq, Repr, Inhabited

/-- The Capture Unit (9.5). The samples retained are the length of `samples`, oldest first. -/
structure Capture where
  state     : CapState
  holder    : Option Link
  mode      : CapMode
  channels  : List Signal
  decim     : Nat
  phase     : Nat
  start     : CapStart
  stop      : CapEnd
  trigger   : CapTrigger
  post      : Nat
  startComp : Option Nat
  endComp   : Option Nat
  taken     : Nat
  postTaken : Nat
  reason    : Option DoneReason
  samples   : List (List Int)
  lastEvent : Nat
  deriving DecidableEq, Repr

/-! ### Fault Supervisor (10) -/

/-- The primary fault record (10.1). -/
structure Primary where
  kind  : FaultKind
  pos   : Int
  state : Transport
  deriving DecidableEq, Repr

/-- The Fault Supervisor (10.1). The set is kept in the order of the kinds, without duplicates. -/
structure Faults where
  set         : List FaultKind
  primary     : Option Primary
  mismL       : Nat
  mismR       : Nat
  mismC       : Nat
  supply      : Nat
  slip        : Option Nat
  supervision : Option Nat
  deriving DecidableEq, Repr

/-! ### Link Controller and Profile Store (11) -/

/-- A frame without its start, length and CRC bytes, which follow from it (11.2). -/
structure Frame where
  kind : Byte
  tag  : Byte
  body : Bytes
  deriving DecidableEq, Repr

/-- A frame on its way out; `resets` marks the reply of an at-rest Reset Part, after which the reset is performed (R188). -/
structure Outgoing where
  frame  : Frame
  resets : Bool
  deriving DecidableEq, Repr

/-- A set event latch (R183). -/
structure Latch where
  count  : Nat
  value  : Int
  pos    : Int
  notice : Bool
  deriving DecidableEq, Repr

/-- One link (11.1). A frame of the receive queue stands in `rx` until it is processed and then as its reply in `replies`. -/
structure LinkPort where
  rx       : List Frame
  /-- the bytes received after the start byte -/
  part     : Option Bytes
  lastByte : Nat
  replies  : List Outgoing
  /-- 16 latches -/
  latches  : List (Option Latch)
  mask     : BitVec 16
  report   : Option Bytes
  /-- a Start-up Notice that waits for the transmitter -/
  notice   : Option Frame
  /-- the frame the transmitter is sending -/
  sending  : Option Outgoing
  deriving DecidableEq, Repr

/-- Transport ownership (11.8). -/
inductive Owner where
  | free | deck | service
  deriving DecidableEq, Repr, Inhabited

/-- The shared state of the Link Controller (11.1). -/
structure LinkControl where
  owner        : Owner
  rate         : Nat
  lastReport   : Nat
  resetPending : Option ResetKind
  deriving DecidableEq, Repr

/-- The phases of the start-up (R190): the reset input held asserted, the settle period, the profile load, running. -/
inductive StartPhase where
  | held | settle | load | running
  deriving DecidableEq, Repr, Inhabited

/-- The start-up (R190) and what its notice carries. -/
structure Startup where
  phase : StartPhase
  start : Nat
  kind  : ResetKind
  prior : TransportClass
  deriving DecidableEq, Repr

/-- The Profile Store (R191, R193): the stored record, its check (none: no valid check), and its two flags. -/
structure Store where
  bytes   : Bytes
  check   : Option (BitVec 16)
  invalid : Bool
  busy    : Bool
  deriving DecidableEq, Repr

/-- The levels of the input lines that are read as levels (0.4). -/
structure Pins where
  faultL        : Bool
  faultR        : Bool
  faultC        : Bool
  supplyWarning : Bool
  pinchSense    : Bool
  deriving DecidableEq, Repr

/-! ### The whole part -/

/-- The state of the part. -/
structure State where
  /-- the model's clock, in units of 125 ns (entry 1) -/
  now      : Nat
  startup  : Startup
  pins     : Pins
  position : PositionUnit
  speed    : SpeedMeter
  reelL    : Reel
  reelR    : Reel
  conv     : Converter
  armL     : Arm
  armR     : Arm
  watch    : Option Watch
  motion   : Motion
  capstan  : Capstan
  zones    : ZoneTable
  chase    : Chase
  cue      : CueUnit
  /-- 4 comparators, none for FREE -/
  comps    : List (Option Comparator)
  capture  : Capture
  faults   : Faults
  deck     : LinkPort
  service  : LinkPort
  ctl      : LinkControl
  profile  : Profile
  store    : Store
  /-- the number of free values drawn (entry 26) -/
  free     : Nat
  /-- the commands that wait, the next one first -/
  pending  : List Instr
  deriving DecidableEq, Repr

/-- The faults that stop the model: none. Every command of the table leads to a next state; the part's own faults (10) are
state. Safe: nothing is cut short. -/
inductive Fault where
  deriving DecidableEq, Repr

/-- The refusals. -/
inductive Refusal where
  /-- Raised by a refused arm of `exec`, for a row without a meaning: no arm is refused. Safe. -/
  | notModelled (mnemonic : String)
  /-- Raised by the meanings of FRAME_RECEIVED, UNKNOWN_KIND and the requests for a term that is no command of its row: a
  body above 120 bytes, which no frame can hold, or an UNKNOWN_KIND of a known kind (entry 38). Safe: no command is lost. -/
  | illFormed
  deriving DecidableEq, Repr

/-! ### The state after reset -/

/-- A reel with confidence 0 at the sizing radius of a profile (R22). -/
def Reel.fresh (p : Profile) : Reel where
  rEst := p.rSizing
  conf := 0
  window := none
  streak := 0
  inertia := reelInertia p p.rSizing
  remaining := reelRemaining p p.rSizing
  torque := 0
  code := 0
  sat := 0

/-- The Position Unit after a reset at a moment (1.1.1). -/
def PositionUnit.fresh (now : Nat) : PositionUnit where
  pos := 0
  tachL := 0
  tachR := 0
  atRest := false
  restStart := now
  anchor := none
  chain := ⟨0, 0, .forward⟩
  locate := List.replicate 32 none

/-- The default schedule (R49). -/
def defaultSchedule : List Slot :=
  [.armL, .armR, .curL, .armL, .armR, .curR, .armL, .armR, .curC, .armL, .armR, .curL, .armL, .armR, .curR, .supply]

/-- The Sensor Converter after a reset at a moment (R49). -/
def Converter.fresh (now : Nat) : Converter where
  schedule := defaultSchedule
  pendingSchedule := none
  ptr := 0
  armL := 0
  armR := 0
  curL := 0
  curR := 0
  curC := 0
  supply := 0
  codeL := 0
  codeR := 0
  codeC := 0
  lastDone := now

/-- An arm after a reset (R56). -/
def Arm.fresh : Arm := ⟨0, .slack, 0, 0, 0⟩

/-- The Motion Sequencer after a reset (4.1.1, 5.1). -/
def Motion.fresh (p : Profile) (lastUpdate : Nat) : Motion where
  state := .unthreaded
  vRef := 0
  aRef := 0
  accel := p.accel
  haltPending := none
  halt := none
  locate := none
  sizing := none
  pinchTimer := none
  brakingTimer := none
  brakeRelease := false
  pinchCmd := false
  lastUpdate := lastUpdate
  queue := []
  active := none
  completions := []

/-- The Chase Unit after a reset (7.1). -/
def Chase.fresh : Chase where
  present := false
  run := 0
  lastFrame := none
  lastSub := none
  lossTimer := none
  lastWord := none
  state := .inactive
  origin := none
  freewheel := none
  e := none
  c := 0
  lock := 0
  unlock := 0
  seek := none

/-- A detector after a reset (8.1). -/
def Detector.fresh : Detector := ⟨0, 0, false⟩

/-- The Cue Track Unit after a reset (8.1): Mark 110100, Clear 101100. -/
def CueUnit.fresh : CueUnit where
  mark := [true, true, false, true, false, false]
  clear := [true, false, true, true, false, false]
  threshold := 6
  auto := false
  hist := []
  histDir := .forward
  detMark := Detector.fresh
  detClear := Detector.fresh
  gen := .idle
  write := none
  out := .inactive

/-- The Capture Unit in IDLE (9.5, R166; the unused fields by entry 34). -/
def Capture.idle (lastEvent : Nat) : Capture where
  state := .idle
  holder := none
  mode := .oneShot
  channels := []
  decim := 1
  phase := 0
  start := .immediate
  stop := .full
  trigger := .command
  post := 1
  startComp := none
  endComp := none
  taken := 0
  postTaken := 0
  reason := none
  samples := []
  lastEvent := lastEvent

/-- The Fault Supervisor after a reset (10.1). -/
def Faults.fresh : Faults := ⟨[], none, 0, 0, 0, 0, none, none⟩

/-- A link after a reset, its transmitter idle (11.1). -/
def LinkPort.fresh : LinkPort where
  rx := []
  part := none
  lastByte := 0
  replies := []
  latches := List.replicate 16 none
  mask := 1
  report := none
  notice := none
  sending := none

/-- The Zone Table after a reset (6.1). -/
def ZoneTable.fresh : ZoneTable := ⟨List.replicate 8 none, false, false, none, none, none, none, false⟩

/-- The machine right after reset: POWER_ON at the moment 0, the supply-settle period begun (R190), every block at the values
its chapter gives "after any reset". Where the spec gives none: entries 1, 4 to 8, 34 and 35. -/
def State.reset : State where
  now := 0
  startup := ⟨.settle, 0, .powerOn, .unknown⟩
  pins := ⟨false, false, false, false, false⟩
  position := PositionUnit.fresh 0
  speed := ⟨List.replicate 32 0, 0, 0, 0, 0⟩
  reelL := Reel.fresh Config.defaultProfile
  reelR := Reel.fresh Config.defaultProfile
  conv := Converter.fresh 0
  armL := Arm.fresh
  armR := Arm.fresh
  watch := none
  motion := Motion.fresh Config.defaultProfile 0
  capstan := ⟨List.replicate 32 0, 0, 0, 0, 0, false, 0⟩
  zones := ZoneTable.fresh
  chase := Chase.fresh
  cue := CueUnit.fresh
  comps := List.replicate 4 none
  capture := Capture.idle 0
  faults := Faults.fresh
  deck := LinkPort.fresh
  service := LinkPort.fresh
  ctl := ⟨.free, 0, 0, none⟩
  profile := Config.defaultProfile
  store := ⟨List.replicate 110 0, none, false, false⟩
  free := 0
  pending := []

end Sys2Proof.Machine
end

