-- ==== Sys2Proof/Machine/Flags.lean ====
section
/-! DEFINITION. The flags of the part: event latches and masks (11.6), the fault latch set (10.3), the transport state's
classes, and the numbers the enumerated values carry on the links (R181). -/

namespace Sys2Proof.Machine

/-! ### Numbers of enumerated values (R181: the position in the list, from 0) -/

/-- The number of an event source (11.6). -/
def Source.num (x : Source) : Nat := x.ctorIdx

/-- The number of a fault kind (11.4). -/
def FaultKind.num (x : FaultKind) : Nat := x.ctorIdx

/-- The number of a transport state (11.4). -/
def Transport.num (x : Transport) : Nat := x.ctorIdx

/-- The number of a tension state (11.4). -/
def TensionState.num (x : TensionState) : Nat := x.ctorIdx

/-- The number of a chase state (11.4). -/
def ChaseState.num (x : ChaseState) : Nat := x.ctorIdx

/-- The number of a done reason (11.4). -/
def DoneReason.num (x : DoneReason) : Nat := x.ctorIdx

/-- The number of a result (11.4). -/
def MoveResult.num (x : MoveResult) : Nat := x.ctorIdx

/-- The number of a side: LEFT 0, RIGHT 1 (11.4). -/
def sideNum : Side → Nat
  | .left => 0
  | .right => 1

/-- The number of a direction: FORWARD 0, REVERSE 1 (R181). -/
def dirNum : Direction → Nat
  | .forward => 0
  | .reverse => 1

/-- The code of a status (R180). -/
def Status.code (x : Status) : Byte := BitVec.ofNat 8 x.ctorIdx

/-! ### Classes of transport state -/

/-- The braked states: UNTHREADED, STANDBY, BRAKING and FAULT (5.1). -/
def Transport.braked : Transport → Bool
  | .unthreaded | .standby | .braking | .fault => true
  | .sizing | .stopped | .winding | .engaging | .playing | .releasing | .halting => false

/-- The states in which the supervision timer runs and a slack arm is a fault (R171, R177). -/
def Transport.moving : Transport → Bool
  | .winding | .engaging | .playing | .releasing => true
  | .unthreaded | .sizing | .stopped | .halting | .braking | .fault | .standby => false

/-- The transport class of a state (R113). -/
def Transport.class : Transport → TransportClass
  | .sizing | .winding | .engaging | .playing | .releasing | .halting | .braking => .moving
  | .standby => .standby
  | .unthreaded | .stopped | .fault => .idle

/-! ### Links -/

/-- A link's own state. -/
def State.port (s : State) : Link → LinkPort
  | .deck => s.deck
  | .service => s.service

/-- The state with a link's own state replaced. -/
def State.withPort (s : State) (l : Link) (p : LinkPort) : State :=
  match l with
  | .deck => { s with deck := p }
  | .service => { s with service := p }

/-- The ownership a link has when it owns the transport. -/
def Link.owner : Link → Owner
  | .deck => .deck
  | .service => .service

/-- The notice link under an ownership: the owner, or the deck link when it is FREE (R182). -/
def Owner.noticeLink : Owner → Link
  | .service => .service
  | .free | .deck => .deck

/-- The notice link (R182). -/
def State.noticeLink (s : State) : Link := s.ctl.owner.noticeLink

/-! ### Event latches (R183) -/

/-- A latch after a transition: set afresh with its notice pending, or counted with its value replaced (R183). -/
def latchAfter (old : Option Latch) (value pos : Int) : Latch :=
  match old with
  | none => ⟨1, value, pos, true⟩
  | some l => { l with count := min 255 (l.count + 1), value := value }

/-- An event offered to a link's table, which its mask judges (R183). -/
def LinkPort.offer (p : LinkPort) (src : Source) (value pos : Int) : LinkPort :=
  if p.mask.getLsbD src.num then
    { p with latches := p.latches.set src.num (some (latchAfter (p.latches.getD src.num none) value pos)) }
  else p

/-- An event reported to one link's table. -/
def State.reportTo (s : State) (l : Link) (src : Source) (value pos : Int) : State :=
  s.withPort l ((s.port l).offer src value pos)

/-- An event reported to the notice link's table with a position its rule gives (R183). R60 and R148 speak of each link's table for
TENSION and CUE events; they too stand in the notice link's alone (DEDUCED, entry 57). -/
def State.reportAt (s : State) (src : Source) (value pos : Int) : State := s.reportTo s.noticeLink src value pos

/-- An event reported to the notice link's table with the tape position (R183). -/
def State.report (s : State) (src : Source) (value : Int) : State := s.reportAt src value s.position.pos

/-! ### The fault latch set (R173) -/

/-- The ten fault kinds in their order. -/
def faultKinds : List FaultKind :=
  [.driveL, .driveR, .driveC, .tapeBreak, .supplyLow, .slackLoop, .overTension, .radiusLost, .pinchTimeout, .rollerSlip]

/-- A kind joining the set, which stays in the kinds' order without duplicates. -/
def faultJoin (k : FaultKind) (set : List FaultKind) : List FaultKind :=
  faultKinds.filter (fun x => decide (x = k) || set.contains x)

/-- The class of a fault kind (10). -/
def FaultKind.class : FaultKind → FaultClass
  | .driveL | .driveR | .driveC | .tapeBreak | .supplyLow => .a
  | .slackLoop | .overTension | .radiusLost | .pinchTimeout | .rollerSlip => .b

/-- The fault kind of a motor (R169). -/
def driveFaultKind : Motor → FaultKind
  | .left => .driveL
  | .right => .driveR
  | .capstan => .driveC

end Sys2Proof.Machine
end

