-- ==== Sys2Proof/Machine/Ops.lean ====
section
/-! DEFINITION. The shared operations of the blocks: the clock, the anchor's mapping, the reels' derived values, the comparator
pool, the Capture Unit's transitions, cue writes, completion records and the entries into the transport states. -/

namespace Sys2Proof.Machine

/-- The clock brought to a due moment, never back (entry 1). -/
def State.reach (s : State) (t : Nat) : State := { s with now := max s.now t }

/-! ### The Position Unit -/

/-- The frame of a position through the anchor, if there is one (R7). -/
def State.frameAt (s : State) (pos : Int) : Option Nat :=
  s.position.anchor.map (fun a => frameOfPos s.profile a.pos a.frame pos)

/-- The subframe position of a position through the anchor, if there is one (R7). -/
def State.subframeAt (s : State) (pos : Int) : Option Int :=
  s.position.anchor.map (fun a => subframeOfPos s.profile a.pos a.frame pos)

/-- The timecode of a position, absent with the anchor NONE (R7). -/
def State.timeAt (s : State) (pos : Int) : Option BcdTime := (s.frameAt pos).map (framesTimecode s.profile)

/-- The timecode conversion the Position Unit answers: none for "no anchor" (R8, R20). -/
def State.framePos (s : State) (ft : Nat) : Option Int :=
  s.position.anchor.map (fun a => posOfFrame s.profile a.pos a.frame ft)

/-- The locate table with every entry's timecode recomputed through the anchor in force (R13, R14). -/
def State.retimed (s : State) : List (Option LocateEntry) :=
  s.position.locate.map (fun x => x.map (fun e => { e with time := s.timeAt e.pos }))

/-- A new anchor, with the discrepancy chain emptied (R11, R13, R14). -/
def State.withAnchor (s : State) (a : Anchor) : State :=
  { s with position := { s.position with anchor := some a, chain := ⟨0, 0, .forward⟩ } }

/-! ### The Reel Model -/

/-- The guard ceiling a paying reel gives: the formula of R124, not clamped to the range that 6.1 gives it (DEDUCED, entry 62). -/
def guardOf (p : Profile) (r : Reel) : Option Nat := if r.conf = 0 then none else some (guardSpeed p r.remaining)

/-- The guard ceilings formed again from both reels (R115, R124): FORWARD pays from the left reel, REVERSE from the right. -/
def State.reformGuards (s : State) : State :=
  { s with zones := { s.zones with guardF := guardOf s.profile s.reelL, guardR := guardOf s.profile s.reelR } }

/-- A reel. -/
def State.reel (s : State) : Side → Reel
  | .left => s.reelL
  | .right => s.reelR

/-- The state with a reel replaced. -/
def State.withReel (s : State) (d : Side) (r : Reel) : State :=
  match d with
  | .left => { s with reelL := r }
  | .right => { s with reelR := r }

/-- A reel with a new estimate, its J and L_rem recomputed (R29, R34, R35). -/
def Reel.estimate (r : Reel) (p : Profile) (est : Nat) : Reel :=
  { r with rEst := est, inertia := reelInertia p est, remaining := reelRemaining p est }

/-- A reel whose estimate starts again (R32). -/
def Reel.restart (r : Reel) (p : Profile) : Reel :=
  { r.estimate p p.rSizing with conf := 0, streak := 0, window := none }

/-- Both reels' estimates started again (R32). -/
def State.restartReels (s : State) : State :=
  State.reformGuards { s with reelL := s.reelL.restart s.profile, reelR := s.reelR.restart s.profile }

/-- A reel at the entry into a braked state: no window, no torque (R23, R42). -/
def Reel.brake (r : Reel) : Reel := { r with window := none, torque := 0, code := 0, sat := 0 }

/-! ### The Comparator Pool (9.1) -/

/-- A comparator freed, if one is named. -/
def State.freeComp (s : State) (i : Option Nat) : State :=
  match i with
  | none => s
  | some i => { s with comps := s.comps.set i none }

/-- The indices of the FREE comparators, lowest first (R156). -/
def freeIndices (comps : List (Option Comparator)) : List Nat :=
  (List.range comps.length).filter (fun i => (comps.getD i none).isNone)

/-- A comparator given its fields. -/
def State.setComp (s : State) (i : Nat) (c : Comparator) : State := { s with comps := s.comps.set i (some c) }

/-- A comparator allocated to a move, UNARMED (R71). Its target and sense are written at activation; until then they are free
values, the target within its range (entry 26). -/
def State.allocMove (s : State) (i slot : Nat) : State :=
  let sense : Sense := match Config.unwrittenSense s.free % 3 with
    | 0 => .forward
    | 1 => .reverse
    | _ => .either
  { s.setComp i ⟨.move, some slot, clampInt (-posMax) posMax (Config.unwrittenTarget s.free), sense, .unarmed⟩ with
    free := s.free + 1 }

/-! ### The Capture Unit (09) -/

/-- The entry into DONE (R164): its comparators freed, CAPTURE_DONE reported to the holder's table. -/
def State.captureDone (s : State) (r : DoneReason) : State :=
  let c := s.capture
  let s1 := ({ s with capture := { c with state := .done, reason := some r, startComp := none, endComp := none } }.freeComp
    c.startComp).freeComp c.endComp
  match c.holder with
  | some l => s1.reportTo l .captureDone r.num s1.position.pos
  | none => s1

/-- The entry of a ONE_SHOT capture into RUNNING: phase 0, its end comparator ARMED (R160, R162). -/
def State.captureRun (s : State) : State :=
  let s1 := { s with capture := { s.capture with state := .running, phase := 0 } }
  match s1.capture.endComp with
  | some i => { s1 with comps := s1.comps.modify i (fun x => x.map (fun k => { k with state := .armed })) }
  | none => s1

/-- A trigger of a RING capture: from RUNNING to TRIGGERED, an end comparator that has not hit freed (R163). -/
def State.captureTrigger (s : State) : State :=
  if s.capture.mode = .ring ∧ s.capture.state = .running then
    { s with capture := { s.capture with state := .triggered, postTaken := 0, endComp := none } }.freeComp s.capture.endComp
  else s

/-- The Capture Unit returned to IDLE: comparators freed, samples discarded, holder none (R164). -/
def State.captureIdle (s : State) : State :=
  ({ s with capture := Capture.idle s.capture.lastEvent }.freeComp s.capture.startComp).freeComp s.capture.endComp

/-! ### The Cue Track Unit (08) -/

/-- The 4-byte value of a CUE event from its first three bytes (11.4); the fourth is FFh. -/
def cueValue (b0 b1 b2 : Nat) : Int := (BitVec.ofNat 32 (((b0 * 256 + b1) * 256 + b2) * 256 + 255)).toInt

/-- The bit history emptied and both detectors at 0 (R145, R146, R151). -/
def CueUnit.clearDetection (c : CueUnit) : CueUnit :=
  { c with hist := [], detMark := Detector.fresh, detClear := Detector.fresh }

/-- The end of a cue write (R152); `b0` is the first byte of its CUE event's value. -/
def State.endCueWrite (s : State) (b0 : Nat) : State :=
  match s.cue.write with
  | none => s
  | some w =>
    let s1 := ({ s with cue := { s.cue with gen := .idle, write := none, out := .inactive } }.freeComp
      (some w.startComp)).freeComp (some w.stopComp)
    s1.report .cue (cueValue b0 255 255)

/-- Writing begun, when the transport is PLAYING with the tape inside the stretch of an ARMED write (R151). -/
def State.tryCueWrite (s : State) : State :=
  match s.cue.write with
  | none => s
  | some w =>
    if s.cue.gen = .armed ∧ s.motion.state = .playing ∧ w.start ≤ s.position.pos ∧ s.position.pos < w.stop then
      { s with cue := { s.cue.clearDetection with
          gen := .writing, write := some { w with bitIndex := 0 }, out := .active none } }
    else s

/-! ### The Chase Unit (07) -/

/-- A change of the chase state (R142), with c 0 at the entries R132 names. No change reports nothing. -/
def State.setChase (s : State) (x : ChaseState) : State :=
  if s.chase.state = x then s
  else
    let c := if x = .inactive ∨ x = .seek ∨ x = .lost then 0 else s.chase.c
    { s with chase := { s.chase with state := x, c := c } }.report .chaseState x.num

/-- The Chase Unit under a new working copy: another frame rate makes the reference ABSENT (R128). -/
def Chase.reprofiled (c : Chase) (p q : Profile) : Chase :=
  if p.rate = q.rate then c
  else { c with present := false, run := 0, lastFrame := none, lastSub := none, lossTimer := none }

/-- The end of a CHASE move (R141). -/
def State.endChase (s : State) : State :=
  let s1 := s.setChase .inactive
  { s1 with chase := { s1.chase with c := 0, lock := 0, unlock := 0, freewheel := none, seek := none, origin := none } }

/-! ### Completion records (R80, R85) -/

/-- A record joining the completion list; a full list loses its oldest record first (R85). -/
def State.pushCompletion (s : State) (c : Completion) : State :=
  let old := s.motion.completions
  let new := if old.length < 16 then old ++ [c] else old.drop 1 ++ [{ c with earlierLost := true }]
  { s with motion := { s.motion with completions := new } }

/-- A record that leaves the queue without having activated: ABORTED, elapsed 0, its comparator freed (R81, R83, R96). -/
def State.dropRecord (s : State) (r : MoveRecord) : State :=
  (s.freeComp r.comp).pushCompletion
    ⟨r.id, .aborted, s.position.pos, s.timeAt s.position.pos, 0, false, 0, false⟩

/-- Every record of the queue leaves it unactivated, oldest first (R81, R96). -/
def State.discardQueue (s : State) : State :=
  let s1 := s.motion.queue.foldl State.dropRecord s
  { s1 with motion := { s1.motion with queue := [] } }

/-- Whether a result discards the records behind it (4.4). -/
def MoveResult.discards : MoveResult → Bool
  | .done | .superseded => false
  | .aborted | .faulted | .overshoot | .noTimecode | .emptyEntry | .blocked | .endOfTape | .halted => true

/-- A move's elapsed time in whole milliseconds, saturating (R80). -/
def State.elapsedSince (s : State) (start : Nat) : Nat := min 4294967295 ((s.now - start) / Config.msec 1)

/-- The end of the active move (R80, R81, R141): its record is formed, its comparator freed, its context gone, and behind a
result that discards the rest of the queue follows. -/
def State.endActive (s : State) (res : MoveResult) : State :=
  match s.motion.active, s.motion.queue with
  | some a, r :: rest =>
    let s1 := if a.kind = .chase then s.endChase else s
    let n := if res.discards then rest.length else 0
    let s2 := (s1.freeComp r.comp).pushCompletion
      ⟨r.id, res, s.position.pos, s.timeAt s.position.pos, s.elapsedSince a.start, a.derated, n, false⟩
    let s3 := { s2 with
      motion := { s2.motion with queue := rest, active := none, locate := none }
      zones := { s2.zones with descent := false } }
    if res.discards then s3.discardQueue else s3
  | _, _ => s

/-- A request that ends the active move and discards the queue behind it (R82). With no active move, records accepted while a
halt was pending leave ABORTED (entry 23). -/
def State.endAll (s : State) (res : MoveResult) : State :=
  match s.motion.active with
  | some _ => s.endActive res
  | none => s.discardQueue

/-! ### Entries into the transport states -/

/-- What leaving PLAYING does: a cue being written ends WRITE_INCOMPLETE (R152), the slip timer stops (R172). -/
def State.leavePlaying (s : State) : State :=
  let s1 := { s with faults := { s.faults with slip := none } }
  if s1.cue.gen = .writing then s1.endCueWrite 3 else s1

/-- What the entry into PLAYING does: a chase still in SEEK becomes APPROACH (R135), an ARMED write may begin (R151). -/
def State.arrivePlaying (s : State) : State :=
  let s1 := if s.chase.state = .seek then
      ({ s with chase := { s.chase with lock := 0, unlock := 0, c := 0 } }).setChase .approach
    else s
  s1.tryCueWrite

/-- What the entry into a braked state does at once (R42, R90, R92, R112). The last commanded acceleration becomes 0 and stays so
until the first reel servo update after the state is left (DESIGN CHOICE, entry 50). -/
def State.brake (s : State) : State :=
  { s with
    reelL := s.reelL.brake
    reelR := s.reelR.brake
    speed := { s.speed with aCmd := 0 }
    capstan := { s.capstan with integral := 0, code := 0, running := false }
    motion := { s.motion with vRef := 0, aRef := 0, haltPending := none } }

/-- The supervision timer after a transition (R177). -/
def State.supervisionAfter (s : State) (t : Transport) : Option Nat :=
  if t.moving then
    if s.motion.state.moving then s.faults.supervision
    else if s.profile.supervision ≠ 0 ∧ s.ctl.owner ≠ .free then some s.now else none
  else none

/-- Whether a locate context outlives the entry into a state (R95, R112, R134). -/
def Transport.keepsLocate : Transport → Bool
  | .sizing | .winding | .engaging | .playing | .releasing => true
  | .unthreaded | .stopped | .halting | .braking | .fault | .standby => false

/-- A transition of the transport state with what every such entry does (R62, R90, R112, R177). The standby watch is active
exactly in STANDBY; the pinch transition timer starts at the entries into ENGAGING and RELEASING and stops at others. -/
def State.enter (s : State) (t : Transport) : State :=
  let s1 := if s.motion.state = .playing ∧ t ≠ .playing then s.leavePlaying else s
  let s2 := { s1 with
    faults := { s1.faults with supervision := s.supervisionAfter t }
    watch := if t = .standby then some ⟨s1.conv.armL, s1.conv.armR, 0, 0⟩ else none
    motion := { s1.motion with
      state := t
      brakeRelease := !t.braked
      pinchCmd := decide (t = .engaging) || decide (t = .playing)
      pinchTimer := if t = .engaging ∨ t = .releasing then some s.now else none
      brakingTimer := if t = .braking then some s.now else none
      halt := none
      sizing := if t = .sizing then s1.motion.sizing else none
      locate := if t.keepsLocate then s1.motion.locate else none } }
  let s3 := if t.braked then s2.brake else s2
  if t = .playing then s3.arrivePlaying else s3

/-- The entry into HALTING (R96, R104): records still in the queue leave ABORTED; from PLAYING the pinch stays engaged. -/
def State.enterHalting (s : State) (fromPlaying : Bool) (dest : HaltDest) : State :=
  let s1 := (s.enter .halting).discardQueue
  { s1 with motion := { s1.motion with
      halt := some ⟨fromPlaying, dest, !fromPlaying⟩
      pinchCmd := fromPlaying
      haltPending := none
      accel := s1.profile.aStop } }

/-- What the transport does when the active move has left and the queue is empty (R96). -/
def State.queueEmptied (s : State) : State :=
  match s.motion.state with
  | .winding => s.enterHalting false .stopped
  | .playing => s.enterHalting true .stopped
  | .engaging | .releasing => { s with motion := { s.motion with haltPending := some .stopped } }
  | .unthreaded | .sizing | .stopped | .halting | .braking | .fault | .standby => s

/-- The active move ended with a result that discards the queue, and the transport brought to rest (R81, R96). -/
def State.failMove (s : State) (res : MoveResult) : State := (s.endActive res).queueEmptied

/-- SIZING_DONE reported with a value: SIZED 0, NO_TAPE 1, ABANDONED 2, FAULTED 3 (11.4). -/
def State.sizingDone (s : State) (value : Int) : State := s.report .sizingDone value

/-- How a Stop, a seizure, a supervision expiry and a deferred reset act on the transport (R105). -/
def State.stopTransport (s : State) : State :=
  match s.motion.state with
  | .stopped => if s.position.atRest then s else s.enterHalting false .stopped
  | .winding => s.enterHalting false .stopped
  | .playing => s.enterHalting true .stopped
  | .engaging | .releasing => { s with motion := { s.motion with haltPending := some .stopped } }
  | .sizing =>
    let dest : HaltDest := if 1 ≤ s.reelL.conf ∧ 1 ≤ s.reelR.conf then .stopped else .unthreaded
    (s.enterHalting false dest).sizingDone 2
  | .unthreaded | .halting | .braking | .fault | .standby => s

end Sys2Proof.Machine
end

