-- ==== Sys2Proof/Machine/Moves.lean ====
section
/-! DEFINITION. The moves of the queue: locate contexts (R98), activation (R73 to R75, R94, R95), the start of a chase and its
seeks (R133, R134), supersession (R79), and the ends that let the next move activate. -/

namespace Sys2Proof.Machine

/-- Whether two directions' positions lie ahead: whether a target is ahead of a position in a direction (R75). -/
def aheadIn (d : Direction) (pos target : Int) : Bool :=
  match d with
  | .forward => decide (pos < target)
  | .reverse => decide (target < pos)

/-! ### Locate contexts (R98) -/

/-- The phase a locate begins in at a distance from its target (R98). -/
def locatePhase (p : Profile) (accel : Nat) (dist : Nat) : LocatePhase :=
  if dist ≤ p.tolerance then .settle
  else if dist ≤ brakingDistance p p.creep accel then .creep
  else .run

/-- The locate context begun toward a target (R98). -/
def State.locateTo (s : State) (accel : Nat) (target : Int) : LocateCtx :=
  let pos := s.position.pos
  let dir : Direction :=
    if pos < target then .forward
    else if target < pos then .reverse
    else if 0 ≤ s.motion.vRef then .forward else .reverse
  ⟨locatePhase s.profile accel (pos - target).natAbs, dir, target⟩

/-- The accel of the active move as derating leaves it (R44), or what stands in force with none (entry 13). -/
def State.moveAccel (s : State) : Nat :=
  match s.motion.active with
  | some a => a.accel
  | none => s.motion.accel

/-- The accel in force (R92): a_stop in HALTING and during a ceiling descent, the profile default in SIZING, else the active
move's; with no active move it keeps its value (entry 13). -/
def State.accelInForce (s : State) : Nat :=
  match s.motion.state with
  | .halting => s.profile.aStop
  | .sizing => s.profile.accel
  | .winding => if s.zones.descent then s.profile.aStop else s.moveAccel
  | .stopped | .engaging | .playing | .releasing => s.moveAccel
  | .unthreaded | .braking | .fault | .standby => s.motion.accel

/-- The active move's fields changed. -/
def State.onActive (s : State) (f : ActiveMove → ActiveMove) : State :=
  { s with motion := { s.motion with active := s.motion.active.map f } }

/-! ### How an activation meets the transport (R94, R95) -/

/-- A WIND, a LOCATE or a seek on its way to WINDING: from PLAYING by way of RELEASING; a pinch transition under way is
completed first (R95, R134). -/
def State.goWinding (s : State) : State :=
  match s.motion.state with
  | .stopped => s.enter .winding
  | .playing => s.enter .releasing
  | .winding | .engaging | .releasing | .unthreaded | .sizing | .halting | .braking | .fault | .standby => s

/-- A PLAY or a CHASE on its way to PLAYING: the run-up in WINDING, or PLAYING kept (R94, R95). -/
def State.goPlaying (s : State) : State :=
  match s.motion.state with
  | .stopped => s.enter .winding
  | .playing | .winding | .engaging | .releasing | .unthreaded | .sizing | .halting | .braking | .fault | .standby => s

/-! ### Chase starts and seeks (R133, R134) -/

/-- The phase error of a reference frame and an offset against a tape subframe (R131). -/
def phaseError (p : Profile) (fr : Nat) (offset sub : Int) : Int :=
  wrapHalf ((fr + offset) % dayFrames p * 100 - sub) (100 * dayFrames p)

/-- The offset of the active CHASE, or 0 (R131). -/
def State.chaseOffset (s : State) : Int :=
  match s.motion.active with
  | some a => if a.kind = .chase then a.offset else 0
  | none => 0

/-- A seek begun from the last reference frame (R134). With the anchor NONE the move ends NO_TIMECODE. -/
def State.beginSeek (s : State) (fr : Nat) : State :=
  let p := s.profile
  let rv := (fr + 2 * p.preroll) % dayFrames p
  let tf := (((rv : Int) + s.chaseOffset - p.preroll) % dayFrames p).toNat
  match s.framePos tf with
  | none => s.failMove .noTimecode
  | some t =>
    let s1 := s.onActive (fun a => { a with reversals := 0 })
    let s2 := { s1 with
      chase := { s1.chase with seek := some ⟨rv, tf, t, false⟩ }
      motion := { s1.motion with locate := some (s1.locateTo s1.accelInForce t) } }
    s2.goWinding

/-- e₀, the phase error of the last word with the active CHASE's offset: absent without F_r or S_r (R133, entry 51). -/
def State.startError (s : State) : Option Int :=
  match s.chase.lastFrame, s.chase.lastSub with
  | some fr, some sub => some (phaseError s.profile fr s.chaseOffset sub)
  | _, _ => none

/-- The start of a CHASE at its activation (R133): the initial state from the reader and the anchor, e₀ the phase error. -/
def State.startChase (s : State) : State :=
  let s1 := { s with chase := { s.chase with e := s.startError } }
  match s.chase.present, s.chase.lastFrame with
  | true, some fr =>
    match s.position.anchor with
    | none => s.failMove .noTimecode
    | some _ =>
      match s.startError with
      | none => (s1.setChase .seek).beginSeek fr
      | some e =>
        if e.natAbs ≤ s.profile.reseek * 100 then (s1.setChase .approach).goPlaying
        else (s1.setChase .seek).beginSeek fr
  | _, _ => (s1.setChase .lost).goPlaying

/-! ### Activation (R73 to R75) -/

/-- Whether a move may be superseded: open-ended, or a CHASE (4.1, R79). -/
def MoveRecord.supersedable (r : MoveRecord) : Bool :=
  match r.kind with
  | .chase => true
  | .wind | .play => r.target.isNone && r.duration.isNone
  | .locate | .hold => false

/-- The resolution of a record's target at activation, or the result of its failure (R74). A TIMECODE that is no longer valid for
the frame rate fails as NO_TIMECODE (DESIGN CHOICE, entry 52). -/
def State.resolve (s : State) (r : MoveRecord) : Except MoveResult (Option Int) :=
  match r.target with
  | none => .ok none
  | some .nextCue => .ok none
  | some (.position p) => .ok (some p)
  | some (.timecode t) =>
    match r.resolved with
    | some p => .ok (some p)
    | none =>
      match (timecodeFrames s.profile t).bind s.framePos with
      | some p => .ok (some p)
      | none => .error .noTimecode
  | some (.entry i) =>
    match s.position.locate.getD i none with
    | some e => .ok (some e.pos)
    | none => .error .emptyEntry

/-- The sense in which a WIND or PLAY meets its target (R71). -/
def MoveRecord.sense (r : MoveRecord) : Direction :=
  match r.kind with
  | .wind => r.dir.getD .forward
  | .play | .locate | .chase | .hold => .forward

/-- A record made the active move: its context, its comparator written and ARMED at the resolved target, the guard reported flag
cleared and no update made under it yet (R75, R126). The accel in force becomes the record's, also for a move that ends at this
activation (DESIGN CHOICE, entry 56). -/
def State.makeActive (s : State) (r : MoveRecord) (target : Option Int) : State :=
  let a : ActiveMove := ⟨r.id, r.kind, r.dir, target, r.comp, r.accel, r.ceiling, r.tension, r.vari, r.offset, s.now, false, 0⟩
  let s1 := { s with
    motion := { s.motion with
      active := some a
      accel := r.accel
      queue := match s.motion.queue with
        | q :: rest => { q with resolved := target } :: rest
        | [] => [] }
    zones := { s.zones with guardReported := false, updated := false } }
  match r.comp, target with
  | some i, some t =>
    s1.setComp i ⟨.move, some r.slot, t, if r.sense = .forward then .forward else .reverse, .armed⟩
  | _, _ => s1

/-- Whether a WIND or PLAY's target is not ahead of the tape at its activation (R75). -/
def State.targetPassed (s : State) (r : MoveRecord) (target : Option Int) : Bool :=
  match r.kind, target with
  | .wind, some t | .play, some t => !(aheadIn r.sense s.position.pos t)
  | _, _ => false

/-- Whether a LOCATE that activates ends at once: in SETTLE with the tape already at rest (R98). -/
def State.locateDone (s : State) (r : MoveRecord) (target : Option Int) : Bool :=
  match r.kind, target with
  | .locate, some t => decide ((s.position.pos - t).natAbs ≤ s.profile.tolerance) && s.position.atRest
  | _, _ => false

/-- The start of a move that has become active, by kind (R94, R95, R98, R133). -/
def State.startMove (s : State) (r : MoveRecord) (target : Option Int) : State :=
  match r.kind with
  | .wind => s.goWinding
  | .locate =>
    { s with motion := { s.motion with locate := target.map (s.locateTo r.accel) } }.goWinding
  | .play => s.goPlaying
  | .chase => s.startChase
  | .hold => s

/-- The oldest record activates, and the next one behind a record that ends at its activation (R73 to R75, R79); with the
queue empty the transport acts by R96. The supersession test comes before the start of the move (entry 17). The number bounds
the records looked at: the queue holds at most 16. -/
def State.activateNext : Nat → State → State
  | 0, s => s
  | n + 1, s =>
    match s.motion.queue with
    | [] => s.queueEmptied
    | r :: rest =>
      match s.resolve r with
      | .error res => (s.makeActive r none).failMove res
      | .ok target =>
        let s1 := s.makeActive r target
        if s1.targetPassed r target || s1.locateDone r target then (s1.endActive .done).activateNext n
        else if r.supersedable && !rest.isEmpty then (s1.endActive .superseded).activateNext n
        else s1.startMove r target

/-- The oldest record of the queue activates (R73). -/
def State.activate (s : State) : State := s.activateNext (s.motion.queue.length + 1)

/-- The active move ends DONE or SUPERSEDED and the next record activates, or the transport acts by R96 (R73, R96). -/
def State.finishMove (s : State) (res : MoveResult) : State := (s.endActive res).activate

/-- The supersession test at an acceptance: the active move ends when it may be superseded and a later record stands behind it
(R79). -/
def State.supersede (s : State) : State :=
  match s.motion.active, s.motion.queue with
  | some _, r :: _ :: _ => if r.supersedable then s.finishMove .superseded else s
  | _, _ => s

/-! ### A pass of the target (R99) -/

/-- The remaining distance of a locate, negative past the target (R99). -/
def LocateCtx.remaining (l : LocateCtx) (pos : Int) : Int :=
  match l.dir with
  | .forward => l.target - pos
  | .reverse => pos - l.target

/-- Whether the tape has passed a locate's target (R99). -/
def LocateCtx.passed (l : LocateCtx) (p : Profile) (pos : Int) : Bool := decide (l.remaining pos < -(p.tolerance : Int))

/-- The locate context replaced. -/
def State.withLocate (s : State) (l : LocateCtx) : State := { s with motion := { s.motion with locate := some l } }

/-- The passes counted: by the sizing context in RETURN (R107), else by the active move (R99). -/
def State.reversals (s : State) : Nat :=
  match s.motion.sizing, s.motion.active with
  | some z, _ => z.reversals
  | none, some a => a.reversals
  | none, none => 0

/-- A pass counted. -/
def State.countPass (s : State) : State :=
  match s.motion.sizing with
  | some z => { s with motion := { s.motion with sizing := some { z with reversals := z.reversals + 1 } } }
  | none => s.onActive (fun a => { a with reversals := a.reversals + 1 })

/-- The fourth pass: OVERSHOOT ends the move (R99), and RETURN ends early (R107). -/
def State.overshoot (s : State) : State :=
  match s.motion.sizing with
  | some _ => (s.enterHalting false .stopped).sizingDone 0
  | none => s.failMove .overshoot

/-- A pass of a locate's target: the direction reversed into CREEP and the pass counted, or the fourth pass (R99, R107). -/
def State.passTarget (s : State) (l : LocateCtx) : State :=
  if s.reversals < 3 then s.countPass.withLocate { l with dir := dirFlip l.dir, phase := .creep } else s.overshoot

/-! ### The end of a SETTLE phase (R99, R107, R135) -/

/-- A SETTLE phase left with the tape at rest: within tolerance RETURN ends in STOPPED with SIZED (R107), a LOCATE ends DONE
(R99) and a seek parks (R135); short of the target the phase becomes CREEP, and past it the pass is taken at once (DEDUCED, entry
16). A v_ref that is not 0 at RETURN's end is kept and ramped in STOPPED (DEDUCED, entry 60). -/
def State.settleEnd (s : State) (l : LocateCtx) : State :=
  if (s.position.pos - l.target).natAbs ≤ s.profile.tolerance then
    match s.motion.sizing with
    | some _ => (s.enter .stopped).sizingDone 0
    | none =>
      match s.chase.seek with
      | some k => { s with
          chase := { s.chase with seek := some { k with parked := true } }
          motion := { s.motion with locate := none } }
      | none => s.finishMove .done
  else if l.passed s.profile s.position.pos then s.passTarget l
  else s.withLocate { l with phase := .creep }

/-- Whether a locate's phases run: in WINDING, or in sizing RETURN (R99, R107). -/
def State.locateRuns (s : State) : Bool :=
  decide (s.motion.state = .winding) || decide (s.motion.state = .sizing)

end Sys2Proof.Machine
end

