-- ==== Sys2Proof/Machine/Transmit.lean ====
section
/-! DEFINITION. The transmit arbiter (R182, R86): what an idle transmitter takes of what waits for it, and the bodies of Move Done
and Event Notice (11.4). -/

namespace Sys2Proof.Machine

/-- Whether the receivers take bytes: not with the reset input held, nor in the settle period or the load (R179, R190). -/
def State.receiving (s : State) : Bool := decide (s.startup.phase = .running)

/-- A timecode in four bytes; FFh bytes when absent (R181). -/
def encTime : Option BcdTime → Bytes
  | some t => [t.hh, t.mm, t.ss, t.ff]
  | none => [0xFF, 0xFF, 0xFF, 0xFF]

/-- A completion record in the 16 bytes of the Move Done body (11.4). -/
def Completion.bytes (c : Completion) : Bytes :=
  enc1 c.id.toNat ++ enc1 c.result.num ++ enc1 ((if c.derated then 1 else 0) + (if c.earlierLost then 2 else 0)) ++
    enc1 c.discarded ++ enc4 c.endPos ++ encTime c.endTime ++ enc4u c.elapsed

/-- The Event Notice body of a latch (11.4). -/
def Latch.bytes (x : Latch) (source : Nat) : Bytes := enc1 source ++ enc1 x.count ++ enc4 x.value ++ enc4 x.pos

/-- The lowest-numbered source of a latch table whose notice is pending (R182). -/
def pendingSource (t : List (Option Latch)) : Option Nat :=
  t.findIdx? (fun x => match x with
    | some l => l.notice
    | none => false)

/-- A frame handed to a link's transmitter. -/
def LinkPort.send (p : LinkPort) (f : Frame) : LinkPort := { p with sending := some ⟨f, false⟩ }

/-- An Event Notice handed over, its notice-pending flag cleared (R182). -/
def LinkPort.sendEvent (p : LinkPort) (i : Nat) : LinkPort :=
  match p.latches.getD i none with
  | some x => { p with latches := p.latches.set i (some { x with notice := false }) }.send ⟨0x42, 0, x.bytes i⟩
  | none => p

/-- The third and fourth choices of an idle transmitter: an Event Notice, then the position report (R182). -/
def LinkPort.chooseNotice (p : LinkPort) : LinkPort :=
  match pendingSource p.latches with
  | some i => p.sendEvent i
  | none =>
    match p.report with
    | some b => { p with report := none }.send ⟨0x43, 0, b⟩
    | none => p

/-- The choice of an idle transmitter (R182): a Start-up Notice that waits before any other frame (R189), then the order of
11.5. Before the Start-up Notice of a start-up nothing is sent (R190). -/
def State.chooseFrame (s : State) (l : Link) : State :=
  let p := s.port l
  match p.notice with
  | some f => s.withPort l ({ p with notice := none }.send f)
  | none =>
    match p.replies with
    | o :: rest => s.withPort l { p with replies := rest, sending := some o }
    | [] =>
      if s.noticeLink = l then
        match s.motion.completions with
        | c :: rest => { s with motion := { s.motion with completions := rest } }.withPort l (p.send ⟨0x41, 0, c.bytes⟩)
        | [] => s.withPort l p.chooseNotice
      else s.withPort l p.chooseNotice

/-- What an idle transmitter does by the phase of the start-up. -/
def State.chooseNext (s : State) (l : Link) : State := if s.receiving then s.chooseFrame l else s

/-- The transmitter of a link with nothing to send. -/
def State.idleTransmitter (s : State) (l : Link) : State := s.withPort l { s.port l with sending := none }

/-- The arbiter of one link: an idle transmitter takes what waits for it, a busy one nothing (R182). -/
def State.feed (s : State) (l : Link) : State :=
  match (s.port l).sending with
  | some _ => s
  | none => s.chooseNext l

/-- The end of every step in which something may come to wait: whenever a transmitter is idle and something waits, the arbiter
chooses (R182). What came to wait in one step is ranked together (entry 10). -/
def State.handOver (s : State) : State := (s.feed .deck).feed .service

end Sys2Proof.Machine
end

