-- ==== Sys2Proof/Machine/Transport.lean ====
section
/-! DEFINITION. Faults and the sequencer's answer (R173, R174), and the standing reactions of the transport: what happens of
itself, within the same step, once its condition holds (R96, R99, R100, R102 to R104, R106 to R108, R171, R175). -/

namespace Sys2Proof.Machine

/-! ### Faults -/

/-- The sequencer's answer to a fault request (R174). -/
def State.faultRequest (s : State) (c : FaultClass) : State :=
  let st := s.motion.state
  let s1 := s.endAll .faulted
  let s2 := if st = .sizing then s1.sizingDone 3 else s1
  match c with
  | .a =>
    match st with
    | .braking | .fault => s2
    | .unthreaded | .sizing | .stopped | .winding | .engaging | .playing | .releasing | .halting | .standby =>
      s2.enter .braking
  | .b =>
    match st with
    | .sizing | .stopped | .winding | .engaging | .releasing => s2.enterHalting false .stopped
    | .playing => s2.enterHalting true .stopped
    | .unthreaded | .standby => s2.enter .fault
    | .halting | .braking | .fault => s2

/-- A cause of a fault kind (R173): a kind not in the set joins it, forms the primary record when the set was empty, reports
FAULT, triggers a FAULT ring capture and makes the fault request. -/
def State.latchFault (s : State) (k : FaultKind) : State :=
  if k ∈ s.faults.set then s
  else
    let primary := if s.faults.set = [] then some ⟨k, s.position.pos, s.motion.state⟩ else s.faults.primary
    let s1 := { s with faults := { s.faults with set := faultJoin k s.faults.set, primary := primary } }
    let s2 := s1.report .fault k.num
    let s3 := if s2.capture.trigger = .fault then s2.captureTrigger else s2
    s3.faultRequest k.class

/-! ### Reactions -/

/-- R171: the conditions the tension states give. -/
def State.reactTension (s : State) : Option State :=
  let st := s.motion.state
  let l := s.armL.state
  let r := s.armR.state
  let set := s.faults.set
  if l = .slack ∧ r = .slack ∧ (st.moving = true ∨ (st = .halting ∧ .slackLoop ∈ set)) ∧ .tapeBreak ∉ set then
    some (s.latchFault .tapeBreak)
  else if decide (l = .slack) ≠ decide (r = .slack) ∧ st.moving = true ∧ .slackLoop ∉ set then some (s.latchFault .slackLoop)
  else if (l = .over ∨ r = .over) ∧ st.braked = false ∧ .overTension ∉ set then some (s.latchFault .overTension)
  else if (l = .slack ∨ r = .slack) ∧ st = .stopped then some ((s.endAll .halted).enter .unthreaded)
  else none

/-- MEASURE begun, its phase timer from 0 (R106, R107). -/
def State.beginMeasure (s : State) (z : SizingCtx) : State :=
  { s with motion := { s.motion with sizing := some { z with phase := .measure, timer := s.now } } }

/-- RETURN begun: a locate to the start position in direction REVERSE (R107). Its first phase is by R98's distances under the
profile default accel (DESIGN CHOICE, entry 54). -/
def State.beginReturn (s : State) (z : SizingCtx) : State :=
  let dist := (s.position.pos - z.startPos).natAbs
  { s with motion := { s.motion with
      sizing := some { z with phase := .returning, reversals := 0 }
      locate := some ⟨locatePhase s.profile s.profile.accel dist, .reverse, z.startPos⟩ } }

/-- R106, R107, R110: the thread check passing, an arm slack ending sizing, both confidences at 4 ending MEASURE. -/
def State.reactSizing (s : State) : Option State :=
  match s.motion.state, s.motion.sizing with
  | .sizing, some z =>
    match z.phase with
    | .threadCheck =>
      if s.armL.state = .normal ∧ s.armR.state = .normal then
        match z.variant with
        | .size => some (s.beginMeasure z)
        | .wake => some (s.enter .stopped)
      else none
    | .measure =>
      if s.armL.state = .slack ∨ s.armR.state = .slack then some ((s.enterHalting false .unthreaded).sizingDone 1)
      else if 4 ≤ s.reelL.conf ∧ 4 ≤ s.reelR.conf then some (s.beginReturn z)
      else none
    | .returning =>
      if s.armL.state = .slack ∨ s.armR.state = .slack then some ((s.enterHalting false .unthreaded).sizingDone 1)
      else none
  | _, _ => none

/-- Whether the active CHASE is in a seek (LOCATING or PARKED). -/
def State.seeking (s : State) : Bool := s.chase.seek.isSome

/-- An engagement completed (R95, R96, R100). -/
def State.engaged (s : State) : State :=
  match s.motion.haltPending, s.motion.active with
  | none, some a =>
    match a.kind with
    | .play | .hold => s.enter .playing
    | .chase => if s.seeking then s.enter .releasing else s.enter .playing
    | .wind | .locate => s.enter .releasing
  | _, _ => s.enter .releasing

/-- A pinch release completed: the timer stopped and the capstan loop idle. I becomes 0 here, and not at the command (R102, DEDUCED,
entry 58). -/
def State.released (s : State) : State :=
  { s with
    motion := { s.motion with pinchTimer := none }
    capstan := { s.capstan with integral := 0, code := 0, running := false } }

/-- RELEASING left (R95, R96, R102). A v_ref that is not 0 at the entry into STOPPED is kept and ramped there (DEDUCED, entry 60).
-/
def State.leaveReleasing (s : State) : State :=
  let s1 := s.released
  match s1.motion.haltPending, s1.motion.active with
  | none, some a => if a.kind = .hold ∧ s1.position.atRest = true then s1.enter .stopped else s1.enter .winding
  | _, _ =>
    if s1.position.atRest then { s1 with motion := { s1.motion with haltPending := none } }.enter .stopped
    else s1.enterHalting false .stopped

/-- R100, R102, R103: a timed pinch transition whose sense shows what it waits for. -/
def State.reactPinch (s : State) : Option State :=
  match s.motion.pinchTimer with
  | none => none
  | some _ =>
    match s.motion.state with
    | .engaging => if s.pins.pinchSense then some s.engaged else none
    | .releasing => if s.pins.pinchSense then none else some s.leaveReleasing
    | .halting =>
      if s.pins.pinchSense then none
      else
        let s1 := s.released
        some { s1 with motion := { s1.motion with halt := s1.motion.halt.map (fun h => { h with pinchDone := true }) } }
    | .unthreaded | .sizing | .stopped | .winding | .playing | .braking | .fault | .standby => none

/-- Where HALTING ends (R104). -/
def State.endHalting (s : State) (h : HaltCtx) : State :=
  if s.faults.set ≠ [] then s.enter .fault
  else
    match h.dest with
    | .stopped => s.enter .stopped
    | .unthreaded => s.enter .unthreaded

/-- R103, R104: a halt with the reference at 0 and the tape at rest releases the pinch, and ends once that is over, by a timeout too
only with the tape at rest (DEDUCED, entry 59). -/
def State.reactHalting (s : State) : Option State :=
  match s.motion.state, s.motion.halt with
  | .halting, some h =>
    if s.motion.vRef = 0 ∧ s.position.atRest = true then
      if h.pinchDone then some (s.endHalting h)
      else if s.motion.pinchCmd then
        some { s with motion := { s.motion with pinchCmd := false, pinchTimer := some s.now } }
      else none
    else none
  | _, _ => none

/-- R175: BRAKING with the tape at rest ends in FAULT. -/
def State.reactBraking (s : State) : Option State :=
  if s.motion.state = .braking ∧ s.position.atRest = true then some (s.enter .fault) else none

/-- R95, R108: a HOLD in WINDING enters STOPPED with v_ref at 0, and in PLAYING it enters RELEASING at rest (entry 36). -/
def State.reactHold (s : State) : Option State :=
  match s.motion.active with
  | some a =>
    if a.kind = .hold ∧ s.motion.vRef = 0 then
      if s.motion.state = .winding then some (s.enter .stopped)
      else if s.motion.state = .playing ∧ s.position.atRest = true then some (s.enter .releasing)
      else none
    else none
  | none => none

/-- R99, R107, R135: a SETTLE phase with v_ref at 0 and the tape at rest (entry 16). -/
def State.reactSettled (s : State) : Option State :=
  match s.motion.locate with
  | some l =>
    if l.phase = .settle ∧ s.motion.vRef = 0 ∧ s.position.atRest = true ∧ s.locateRuns = true then some (s.settleEnd l)
    else none
  | none => none

/-- R73: STOPPED with records and no active move activates the oldest. -/
def State.reactQueue (s : State) : Option State :=
  if s.motion.state = .stopped ∧ s.motion.active = none ∧ s.motion.queue ≠ [] then some s.activate else none

/-- The first reaction whose condition holds. The order is entry 24. -/
def State.react (s : State) : Option State :=
  s.reactTension <|> s.reactSizing <|> s.reactPinch <|> s.reactHalting <|> s.reactBraking <|> s.reactHold <|>
    s.reactSettled <|> s.reactQueue

/-- Reactions taken until none is due. The number only bounds the recursion (entry 40). -/
def State.reactions : Nat → State → State
  | 0, s => s
  | n + 1, s =>
    match s.react with
    | some s1 => s1.reactions n
    | none => s

/-! ### The capstan loop -/

/-- Whether WINDING is the run-up of a PLAY or CHASE (R100, R135). -/
def State.runUp (s : State) : Bool :=
  match s.motion.state, s.motion.active with
  | .winding, some a =>
    match a.kind with
    | .play => true
    | .chase => !s.seeking
    | .wind | .locate | .hold => false
  | _, _ => false

/-- Whether the capstan loop runs (R102). -/
def State.loopRuns (s : State) : Bool :=
  match s.motion.state with
  | .winding => s.runUp
  | .engaging | .playing | .releasing => true
  | .halting =>
    match s.motion.halt with
    | some h => h.fromPlaying && !h.pinchDone
    | none => false
  | .unthreaded | .sizing | .stopped | .braking | .fault | .standby => false

/-- The capstan loop running or idle as R102 gives; idle means code 0 and I 0. -/
def State.syncLoop (s : State) : State :=
  if s.loopRuns then { s with capstan := { s.capstan with running := true } }
  else { s with capstan := { s.capstan with running := false, integral := 0, code := 0 } }

/-- The end of every step that may move the transport: the reactions due, then the capstan loop. -/
def State.settle (s : State) : State := (s.reactions 64).syncLoop

/-! ### Setpoint -/

/-- F_set, the tension setpoint (5.1, R106 for the thread tension of 120 cN). -/
def State.tensionSetpoint (s : State) : Nat :=
  let move := match s.motion.active with
    | some a => a.tension
    | none => s.profile.stopTension
  match s.motion.state with
  | .sizing =>
    match s.motion.sizing with
    | some z => if z.phase = .threadCheck then 120 else s.profile.windTension
    | none => 120
  | .stopped | .winding | .engaging | .playing | .releasing => move
  | .halting | .unthreaded | .braking | .fault | .standby => s.profile.stopTension

end Sys2Proof.Machine
end

