-- ==== Sys2Proof/Machine/Reset.lean ====
section
/-! DEFINITION. The four kinds of reset and the start-up (R188 to R191, R193, and the reset rules of the chapters). -/

namespace Sys2Proof.Machine

/-- Whether a kind of reset runs the settle period and the profile load (R190). -/
def ResetKind.hard : ResetKind → Bool
  | .powerOn | .resetLine => true
  | .deckRequest | .serviceRequest => false

/-- The reset a link's Reset Part asks for (R188). -/
def Link.resetKind : Link → ResetKind
  | .deck => .deckRequest
  | .service => .serviceRequest

/-- The Capture Unit after a reset (R166): a capture the service link holds outlives DECK_REQUEST, cut to DONE when it was still
under way. -/
def Capture.afterReset (c : Capture) (k : ResetKind) : Capture :=
  match k, c.holder with
  | .deckRequest, some .service =>
    match c.state with
    | .armed | .running | .triggered => { c with state := .done, reason := some .resetCut, startComp := none, endComp := none }
    | .done => c
    | .idle => Capture.idle c.lastEvent
  | _, _ => Capture.idle c.lastEvent

/-- The Profile Store after a reset (R193): a store write under way is cut, and the store has no valid check; a link-request
reset then sets the invalid flag. -/
def Store.afterReset (t : Store) (k : ResetKind) : Store :=
  if t.busy then { t with check := none, busy := false, invalid := t.invalid || !k.hard } else t

/-- The ownership after a reset (R189). -/
def Owner.afterReset (o : Owner) (k : ResetKind) : Owner :=
  match k, o with
  | .deckRequest, .service => .service
  | _, _ => .free

/-- A link after a reset: a frame being sent goes on, and no longer asks for a reset (R189, entry 12). -/
def LinkPort.afterReset (p : LinkPort) : LinkPort :=
  { LinkPort.fresh with lastByte := p.lastByte, sending := p.sending.map (fun o => { o with resets := false }) }

/-- Every block's values after a reset of a kind, at the moment of the reset (R4, R22, R49, R56, R89, R91, R115, R128, R144,
R155, R166, R168, R189, R193). The working copy in force after POWER_ON and RESET_LINE, until the load, is the built-in
defaults (entry 5). The lines, the clock and the queue of commands are not the part's to reset. -/
def State.afterReset (s : State) (k : ResetKind) (phase : StartPhase) : State :=
  let p := if k.hard then Config.defaultProfile else s.profile
  { State.reset with
    now := s.now
    startup := ⟨phase, s.now, k, if k = .powerOn then .unknown else s.motion.state.class⟩
    pins := s.pins
    position := PositionUnit.fresh s.now
    speed := { State.reset.speed with lastUpdate := s.speed.lastUpdate }
    reelL := Reel.fresh p
    reelR := Reel.fresh p
    conv := Converter.fresh s.now
    motion := Motion.fresh p s.motion.lastUpdate
    capstan := { State.reset.capstan with lastUpdate := s.capstan.lastUpdate }
    capture := s.capture.afterReset k
    deck := s.deck.afterReset
    service := s.service.afterReset
    ctl := ⟨s.ctl.owner.afterReset k, 0, s.ctl.lastReport, none⟩
    profile := p
    store := s.store.afterReset k
    free := s.free
    pending := s.pending }

/-- The done reason's byte in the Start-up Notice: FFh when the capture is not DONE (11.4). -/
def Capture.reasonByte (c : Capture) : Bytes :=
  match c.state, c.reason with
  | .done, some r => enc1 r.num
  | _, _ => [0xFF]

/-- The capture holder's number: none 0, DECK 1, SERVICE 2 (11.4). -/
def holderNum : Option Link → Nat
  | none => 0
  | some .deck => 1
  | some .service => 2

/-- The Start-up Notice (R190, 11.4). -/
def State.startUpNotice (s : State) : Frame :=
  ⟨0x40, 0, enc1 s.startup.kind.ctorIdx ++ enc1 s.startup.prior.ctorIdx ++ encFlag (!s.store.invalid) ++
    enc1 s.capture.state.ctorIdx ++ s.capture.reasonByte ++ enc1 (holderNum s.capture.holder)⟩

/-- A Start-up Notice handed to a link's transmitter, at once when it is idle, else before any other frame (R182, R189). -/
def LinkPort.handNotice (p : LinkPort) (f : Frame) : LinkPort :=
  match p.sending with
  | none => { p with sending := some ⟨f, false⟩ }
  | some _ => { p with notice := some f }

/-- A Start-up Notice handed to each link (R190). -/
def State.handNotices (s : State) : State :=
  { s with deck := s.deck.handNotice s.startUpNotice, service := s.service.handNotice s.startUpNotice }

/-- A fault kind latched when its input is found asserted (R168). -/
def State.latchIf (s : State) (level : Bool) (k : FaultKind) : State := if level then s.latchFault k else s

/-- The Fault Supervisor's reading of its four inputs (R168). The order is entry 24. -/
def State.readInputs (s : State) : State :=
  (((s.latchIf s.pins.faultL .driveL).latchIf s.pins.faultR .driveR).latchIf s.pins.faultC .driveC).latchIf
    s.pins.supplyWarning .supplyLow

/-- The reset a link request asked for, performed (R188 to R190): the Start-up Notices leave and the inputs are read at the
moment of the reset. -/
def State.linkReset (s : State) (k : ResetKind) : State :=
  (s.afterReset k .running).handNotices.readInputs.settle

/-- The profile load (R191): the stored fields when the check agrees and every field is valid, else the built-in defaults with
the invalid flag set. -/
def Store.load (t : Store) : Profile × Bool :=
  let p := profileOfBytes t.bytes
  if t.check = some (crc16 t.bytes) ∧ profileOk p = true then (p, false) else (Config.defaultProfile, true)

/-- A working copy put in force by the load: the reset values that are the profile's follow it (R22, R91, R115). What the words and
samples taken before the load left is kept: the anchor, the discrepancy chain, the reader and the arms' runs; but another frame rate
makes the reference ABSENT, as R128 gives for Write Profile, so that no frame count of the old rate is reported (R6) (DESIGN CHOICE,
entry 5). -/
def State.loadProfile (s : State) : State :=
  let p := s.store.load.1
  State.reformGuards { s with
    profile := p
    store := { s.store with invalid := s.store.load.2 }
    reelL := s.reelL.restart p
    reelR := s.reelR.restart p
    motion := { s.motion with accel := p.accel }
    chase := s.chase.reprofiled s.profile p }

/-! ### Commands of the reset and start-up -/

/-- POWER_ON (R190): every block reset, the settle period begun. -/
def execPowerOn (s : State) : Host.Outcome State Fault Refusal := .next (s.afterReset .powerOn .settle)

/-- RESET_LINE (R190): every block reset; the settle period begins when the input is released. -/
def execResetLine (s : State) : Host.Outcome State Fault Refusal := .next (s.afterReset .resetLine .held)

/-- RESET_INPUT_RELEASE (R190): the settle period begins, and from that moment the encoders are counted and the converter runs
from slot 0 (R4, R49). The rest timer, running since the reset, is not restarted (DESIGN CHOICE, entry 55). -/
def execResetInputRelease (s : State) : Host.Outcome State Fault Refusal :=
  match s.startup.phase with
  | .held => .next { s with
      startup := { s.startup with phase := .settle, start := s.now }
      conv := { s.conv with lastDone := s.now } }
  | .settle | .load | .running => .next s

/-- SETTLE_PERIOD_END (R168, R190): the Fault Supervisor reads its inputs and the profile load begins. -/
def execSettlePeriodEnd (s : State) : Host.Outcome State Fault Refusal :=
  match s.startup.phase with
  | .settle =>
    let s1 := s.reach (s.startup.start + Config.msec 200)
    .next (State.readInputs { s1 with startup := { s1.startup with phase := .load } }).settle
  | .held | .load | .running => .next s

/-- PROFILE_LOAD_DONE (R190, R191): the working copy set, the Start-up Notices handed over, the receivers open. -/
def execProfileLoadDone (s : State) : Host.Outcome State Fault Refusal :=
  match s.startup.phase with
  | .load =>
    let s1 := s.loadProfile
    .next (State.handNotices { s1 with startup := { s1.startup with phase := .running } })
  | .held | .settle | .running => .next s

/-- DEFERRED_RESET (R188): a pending reset is performed once the tape is at rest and the transport neither HALTING nor
BRAKING. -/
def execDeferredReset (s : State) : Host.Outcome State Fault Refusal :=
  match s.ctl.resetPending with
  | some k =>
    if s.position.atRest = true ∧ s.motion.state ≠ .halting ∧ s.motion.state ≠ .braking then .next (s.linkReset k)
    else .next s
  | none => .next s

end Sys2Proof.Machine
end

