-- ==== Sys2Proof/Machine/Counting.lean ====
section
/-! DEFINITION. The counts of the encoders and what hangs on them: the position, zone crossings, comparator hits, radius windows
and the rest timer (R1 to R3, R24 to R30, R118, R157, R158). -/

namespace Sys2Proof.Machine

/-- Whether the encoders are read: not while the reset input is held (R4, entry 11). -/
def State.counting (s : State) : Bool := decide (s.startup.phase ≠ .held)

/-! ### Zone crossings (R118) -/

/-- The exit direction a BARRIER takes at an entry across an edge by a count in a direction (R118). -/
def entryExit (d : Direction) : Sense :=
  match d with
  | .forward => .reverse
  | .reverse => .forward

/-- Whether a zone contains a position (6.1). -/
def Zone.holds (z : Zone) (pos : Int) : Bool := decide (z.base ≤ pos) && decide (pos ≤ z.limit)

/-- A zone after a step of the position by a count in a direction (R118). -/
def Zone.step (z : Zone) (pos : Int) (d : Direction) : Zone :=
  match z.contains, z.holds pos with
  | false, true => { z with contains := true, exit := if z.kind = .barrier then some (entryExit d) else none }
  | true, false => { z with contains := false, exit := none }
  | _, _ => z

/-- The ZONE event of an entry for a step: index times 2, plus 1 for EXIT, from a NOTIFY zone entered or left (R118, 11.4). -/
def zoneEvent (i : Nat) (z : Option Zone) (pos : Int) : Option Int :=
  match z with
  | none => none
  | some z =>
    if z.kind = .notify ∧ z.contains ≠ z.holds pos then some (if z.contains then i * 2 + 1 else i * 2 : Nat) else none

/-- The Zone Table following a step of the position (R118). The events of several entries are taken lowest index first (DESIGN
CHOICE, entry 61). -/
def State.stepZones (s : State) (d : Direction) : State :=
  let pos := s.position.pos
  let events := s.zones.entries.zipIdx.filterMap (fun x => zoneEvent x.2 x.1 pos)
  let s1 := { s with zones := { s.zones with entries := s.zones.entries.map (fun x => x.map (fun z => z.step pos d)) } }
  events.foldl (fun t v => t.reportAt .zone v pos) s1

/-! ### Comparator hits (R157, R158) -/

/-- Whether a sense admits a count (R157). -/
def Sense.admits (x : Sense) (d : Direction) : Bool :=
  match x, d with
  | .either, _ | .forward, .forward | .reverse, .reverse => true
  | .forward, .reverse | .reverse, .forward => false

/-- Whether a comparator hits at a position reached by a count (R157). -/
def Comparator.hits (c : Comparator) (pos : Int) (d : Direction) : Bool :=
  decide (c.state = .armed) && decide (c.target = pos) && c.sense.admits d

/-- What a comparator is after its hit (R155, R158). -/
def Comparator.afterHit (c : Comparator) : Option Comparator :=
  match c.user with
  | .captureStart | .cueStart => some { c with state := .hit }
  | .move | .captureEnd | .cueStop | .watch => none

/-- A hit delivered to its user with the comparator's index (R158). -/
def State.deliverHit (s : State) (i : Nat) (c : Comparator) : State :=
  match c.user with
  | .move =>
    match s.motion.active, s.motion.queue with
    | some _, r :: _ => if c.slot = some r.slot then s.finishMove .done else s
    | _, _ => s
  | .captureStart => if s.capture.state = .armed then s.captureRun else s
  | .captureEnd =>
    match s.capture.mode, s.capture.state with
    | .oneShot, .running => s.captureDone .position
    | .ring, .running => s.captureTrigger
    | _, _ => s
  | .cueStart => s.tryCueWrite
  | .cueStop =>
    match s.cue.gen with
    | .writing => s.endCueWrite 2
    | .armed => s.endCueWrite 3
    | .idle => s
  | .watch => s.reportAt .watchHit i c.target

/-- The comparators that hit at the position just reached, with their indices. -/
def State.hitList (s : State) (d : Direction) : List (Nat × Comparator) :=
  s.comps.zipIdx.filterMap (fun x =>
    match x.1 with
    | some c => if c.hits s.position.pos d then some (x.2, c) else none
    | none => none)

/-- The pool following a step of the position: every hit is made, and then each is delivered to its own user, lowest index
first (R157, R158, entry 25). -/
def State.stepComps (s : State) (d : Direction) : State :=
  let hits := s.hitList d
  let s1 := { s with comps := s.comps.map (fun x => x.bind (fun c => if c.hits s.position.pos d then c.afterHit else some c)) }
  hits.foldl (fun t h => t.deliverHit h.1 h.2) s1

/-! ### Counts -/

/-- A window's roller sum with a count (R24). -/
def Reel.rolled (r : Reel) (d : Direction) : Reel :=
  { r with window := r.window.map (fun w => { w with roll := w.roll + dirSign d }) }

/-- What every roller count does, absorbed or not: the windows and the speed interval count it, the tape is not at rest and the
rest timer restarts (R1, R3). -/
def State.rollerSums (s : State) (d : Direction) : State :=
  { s with
    position := { s.position with atRest := false, restStart := s.now }
    speed := { s.speed with cur := s.speed.cur + dirSign d }
    reelL := s.reelL.rolled d
    reelR := s.reelR.rolled d }

/-- Whether the counter's limit absorbs a count (R1). -/
def absorbed (pos : Int) (d : Direction) : Bool := !(posOk (pos + dirSign d))

/-- The step of the position by a count that is not absorbed, with the zones and the comparators following (R1, R118, R157). -/
def State.stepPosition (s : State) (d : Direction) : State :=
  (({ s with position := { s.position with pos := s.position.pos + dirSign d } }.stepZones d).stepComps d).settle

/-- ROLLER_COUNT (R1). -/
def execRollerCount (d : Direction) (s : State) : Host.Outcome State Fault Refusal :=
  if s.counting then
    let s1 := s.rollerSums d
    if absorbed s.position.pos d then .next s1 else .next (s1.stepPosition d).handOver
  else .next s

/-- A reel's tach count with a reel count (R2). -/
def PositionUnit.tach (p : PositionUnit) (r : Side) (d : Direction) : PositionUnit :=
  match r with
  | .left => { p with tachL := p.tachL + BitVec.ofInt 32 (dirSign d) }
  | .right => { p with tachR := p.tachR + BitVec.ofInt 32 (dirSign d) }

/-- A reel after a radius measurement, and whether RADIUS_LOST is reported (R28 to R30). -/
def Reel.measured (r : Reel) (p : Profile) (m : Nat) : Reel × Bool :=
  if radiusPlausible p m then
    let x := clampNat p.rHub p.rFlange m
    let est := if r.conf = 0 then x else (3 * r.rEst + x) / 4
    ({ r.estimate p est with conf := min 8 (r.conf + 1), streak := 0 }, false)
  else if 2 ≤ r.streak then ({ r with streak := 0 }, true)
  else ({ r with streak := r.streak + 1 }, false)

/-- A reel after a count of its encoder in a measuring state (R24, R25, R27), and whether RADIUS_LOST is reported. -/
def Reel.counted (r : Reel) (p : Profile) (d : Direction) (now : Nat) : Reel × Bool :=
  match r.window with
  | none => ({ r with window := some ⟨d, 0, 0, now⟩ }, false)
  | some w =>
    if w.dir = d then
      if 255 ≤ w.angle then { r with window := none }.measured p (radiusMeasured p w.roll)
      else ({ r with window := some { w with angle := w.angle + 1 } }, false)
    else ({ r with window := some ⟨d, 0, 0, now⟩ }, false)

/-- REEL_COUNT (R2, R24). -/
def execReelCount (r : Side) (d : Direction) (s : State) : Host.Outcome State Fault Refusal :=
  if s.counting then
    let s1 := { s with position := s.position.tach r d }
    if s.motion.state.braked then .next s1
    else
      let m := (s1.reel r).counted s1.profile d s1.now
      let s2 := (s1.withReel r m.1).reformGuards
      .next (if m.2 then s2.latchFault .radiusLost else s2).settle.handOver
  else .next s

/-- CAPSTAN_COUNT (R2): the count enters the capstan's open interval. -/
def execCapstanCount (d : Direction) (s : State) : Host.Outcome State Fault Refusal :=
  if s.counting then .next { s with capstan := { s.capstan with cur := s.capstan.cur + dirSign d } } else .next s

/-- WINDOW_TIMEOUT (R26): an open window is discarded as too slow. -/
def execWindowTimeout (r : Side) (s : State) : Host.Outcome State Fault Refusal :=
  match (s.reel r).window with
  | some w => .next ((s.reach (w.opened + Config.msec 2000)).withReel r { s.reel r with window := none })
  | none => .next s

/-- A SETTLE phase left because the tape became at rest (R3, R99). -/
def State.restSettled (s : State) : State :=
  match s.motion.locate with
  | some l => if l.phase = .settle ∧ s.locateRuns = true then s.settleEnd l else s
  | none => s

/-- REST_TIMER_EXPIRY (R3): the tape becomes at rest, which may end a SETTLE phase, a halt or BRAKING. The timer started at a
reset runs on while the reset input is held (DESIGN CHOICE, entry 55). -/
def execRestTimerExpiry (s : State) : Host.Outcome State Fault Refusal :=
  if s.position.atRest then .next s
  else
    let s1 := s.reach (s.position.restStart + Config.msec 100)
    .next (State.restSettled { s1 with position := { s1.position with atRest := true } }).settle.handOver

/-! ### The tape timecode word port (R9 to R13) -/

/-- Whether a word's speed and flag make it usable (R9). -/
def wordUsable (p : Profile) (v : Int) (rev : Bool) : Bool :=
  decide (p.vPlay ≤ 10 * v.natAbs) && decide (v.natAbs ≤ 10 * p.vPlay) && (if rev then decide (v < 0) else decide (0 < v))

/-- The reading direction of a word (R9, R12). -/
def wordDir (rev : Bool) : Direction := if rev then .reverse else .forward

/-- The next frame in a reading direction (R12). -/
def nextFrame (p : Profile) (f : Nat) (d : Direction) : Nat :=
  match d with
  | .forward => (f + 1) % dayFrames p
  | .reverse => (f + dayFrames p - 1) % dayFrames p

/-- The chain with its length 0. -/
def State.emptyChain (s : State) : State :=
  { s with position := { s.position with chain := { s.position.chain with len := 0 } } }

/-- The length of the chain with a disagreeing word in it (R12). -/
def chainLength (p : Profile) (c : Chain) (f : Nat) (d : Direction) : Nat :=
  if c.len ≠ 0 ∧ c.dir = d ∧ f = nextFrame p c.last c.dir then c.len + 1 else 1

/-- The jump REANCHOR reports: the new frame less the old prediction, reduced and clamped (R13). -/
def jumpFrames (p : Profile) (fw fp : Nat) : Int := clampInt (-32767) 32767 (wrapHalf (fw - fp) (dayFrames p))

/-- A completed chain (R13): a new TAPE anchor, every stored timecode recomputed, REANCHOR reported when there was an anchor. -/
def State.reanchor (s : State) (f : Nat) : State :=
  let old := s.frameAt s.position.pos
  let s1 := s.withAnchor ⟨.tape, s.position.pos, f⟩
  let s2 := { s1 with position := { s1.position with locate := s1.retimed } }
  match old with
  | some fp => s2.report .reanchor (jumpFrames s.profile f fp)
  | none => s2

/-- A disagreeing word (R12, R13). -/
def State.disagree (s : State) (f : Nat) (d : Direction) : State :=
  let n := chainLength s.profile s.position.chain f d
  if 3 ≤ n then s.reanchor f else { s with position := { s.position with chain := ⟨n, f, d⟩ } }

/-- Whether a word's frame agrees with the anchor's prediction (R10). -/
def wordAgrees (p : Profile) (fw fp : Nat) : Bool := decide ((wrapHalf (fw - fp) (dayFrames p)).natAbs ≤ 1)

/-- TAPE_TIMECODE_WORD (R9). -/
def execTapeTimecodeWord (w : BcdTime) (rev : Bool) (s : State) : Host.Outcome State Fault Refusal :=
  match timecodeFrames s.profile w, wordUsable s.profile s.speed.v rev with
  | some f, true =>
    match s.frameAt s.position.pos with
    | some fp =>
      if wordAgrees s.profile f fp then .next (s.withAnchor ⟨.tape, s.position.pos, f⟩)
      else .next (s.disagree f (wordDir rev)).handOver
    | none => .next (s.disagree f (wordDir rev)).handOver
  | _, _ => .next s.emptyChain

end Sys2Proof.Machine
end

