-- ==== Sys2Proof/Machine/Sensing.lean ====
section
/-! DEFINITION. The samples of the Sensor Converter and the input lines: arm tension and its detectors, the standby watch,
current and supply samples, the drive-fault, supply warning and pinch-engaged inputs (R48, R52 to R58, R60, R63, R168 to R170). -/

namespace Sys2Proof.Machine

/-- Whether the Fault Supervisor judges its conditions: not during the settle period nor with the reset input held (R168). -/
def State.judging (s : State) : Bool :=
  match s.startup.phase with
  | .held | .settle => false
  | .load | .running => true

/-! ### Arms (R55 to R58, R60) -/

/-- F_meas from a raw code (R55). -/
def armTension (code rest gain : Nat) : Nat := (Int.tdiv (((code : Int) - rest) * gain) 256).toNat

/-- An arm after a sample of F_meas (R57, R58). -/
def Arm.sampled (a : Arm) (p : Profile) (f : Nat) : Arm :=
  match a.state with
  | .normal =>
    let sr := if f < p.slackAt then a.slackRun + 1 else 0
    let ov := if p.overAt < f then a.overRun + 1 else 0
    if p.nSlack ≤ sr then ⟨f, .slack, 0, 0, 0⟩
    else if p.nOver ≤ ov then ⟨f, .over, 0, 0, 0⟩
    else { a with tension := f, slackRun := sr, overRun := ov }
  | .slack =>
    let rr := if p.slackAt + p.hysteresis ≤ f then a.returnRun + 1 else 0
    if p.nClear ≤ rr then ⟨f, .normal, 0, 0, 0⟩ else { a with tension := f, returnRun := rr }
  | .over =>
    let rr := if f + p.hysteresis ≤ p.overAt then a.returnRun + 1 else 0
    if p.nClear ≤ rr then ⟨f, .normal, 0, 0, 0⟩ else { a with tension := f, returnRun := rr }

/-- An arm. -/
def State.arm (s : State) : Side → Arm
  | .left => s.armL
  | .right => s.armR

/-- The state with an arm replaced. -/
def State.withArm (s : State) (d : Side) (a : Arm) : State :=
  match d with
  | .left => { s with armL := a }
  | .right => { s with armR := a }

/-- The event source of an arm's tension state (R60). -/
def tensionSource : Side → Source
  | .left => .tensionL
  | .right => .tensionR

/-- An arm sample applied to the detectors; a change of the tension state is reported (R57, R58, R60), to the notice link's table
alone, as R183 gives it (DEDUCED, entry 57). -/
def State.judgeArm (s : State) (d : Side) (f : Nat) : State :=
  let a := (s.arm d).sampled s.profile f
  let s1 := s.withArm d a
  if a.state = (s.arm d).state then s1 else s1.report (tensionSource d) a.state.num

/-- The watch counter of an arm after a raw code (R63). -/
def watchCount (delta snap raw cnt : Nat) : Nat :=
  if delta < ((raw : Int) - snap).natAbs then cnt + 1 else 0

/-- The standby watch after a raw code of an arm (R63). -/
def Watch.sampled (w : Watch) (delta raw : Nat) : Side → Watch
  | .left => { w with cntL := watchCount delta w.snapL raw w.cntL }
  | .right => { w with cntR := watchCount delta w.snapR raw w.cntR }

/-- The watch counter of an arm. -/
def Watch.count (w : Watch) : Side → Nat
  | .left => w.cntL
  | .right => w.cntR

/-- A detection of the standby watch (R63, R111): ARM_MOVED's report, the watch inactive, and STANDBY left for UNTHREADED
with both confidences 0. -/
def State.armMoved (s : State) (d : Side) : State :=
  let s1 := { s with watch := none }.report .armMoved (sideNum d)
  if s1.motion.state = .standby then (s1.enter .unthreaded).restartReels else s1

/-- An arm sample at the standby watch, while it is active (R63). -/
def State.watchArm (s : State) (d : Side) (raw : Nat) : State :=
  match s.watch with
  | none => s
  | some w =>
    let w1 := w.sampled s.profile.wakeDelta raw d
    if 4 ≤ w1.count d then s.armMoved d else { s with watch := some w1 }

/-- An arm sample handed to the Tension Monitor (R55). -/
def State.armSample (s : State) (d : Side) (raw : Nat) : State :=
  let p := s.profile
  let f := match d with
    | .left => armTension raw p.restL p.gainL
    | .right => armTension raw p.restR p.gainR
  (s.judgeArm d f).watchArm d raw

/-! ### Current and supply samples (R53, R54, R169, R170) -/

/-- A raw code converted to a signed current code (R53). -/
def currentCode (raw nul scale : Nat) : Int := clampInt (-2047) 2047 (Int.tdiv (((raw : Int) - nul) * scale) 256)

/-- A mismatch counter after a sample (R169). -/
def mismatchAfter (cnt : Nat) (current drive : Int) : Nat := if 512 < (current - drive).natAbs then min 64 (cnt + 1) else 0

/-- A current sample handed to the Fault Supervisor, with the motor's drive code standing (R53, R168, R169). -/
def State.currentSample (s : State) (m : Motor) (raw : Nat) : State :=
  let p := s.profile
  match m with
  | .left =>
    let c := currentCode raw p.zeroL p.scaleL
    let n := if s.judging then mismatchAfter s.faults.mismL c s.reelL.code else s.faults.mismL
    let s1 := { s with conv := { s.conv with codeL := c }, faults := { s.faults with mismL := n } }
    s1.latchIf (s.judging && decide (64 ≤ n)) .driveL
  | .right =>
    let c := currentCode raw p.zeroR p.scaleR
    let n := if s.judging then mismatchAfter s.faults.mismR c s.reelR.code else s.faults.mismR
    let s1 := { s with conv := { s.conv with codeR := c }, faults := { s.faults with mismR := n } }
    s1.latchIf (s.judging && decide (64 ≤ n)) .driveR
  | .capstan =>
    let c := currentCode raw p.zeroC p.scaleC
    let n := if s.judging then mismatchAfter s.faults.mismC c s.capstan.code else s.faults.mismC
    let s1 := { s with conv := { s.conv with codeC := c }, faults := { s.faults with mismC := n } }
    s1.latchIf (s.judging && decide (64 ≤ n)) .driveC

/-- The supply counter after a sample (R170). -/
def supplyAfter (p : Profile) (cnt raw : Nat) : Nat := if raw < p.supplyLow then min 16 (cnt + 1) else 0

/-- A supply sample handed to the Fault Supervisor (R54, R168, R170). -/
def State.supplySample (s : State) (raw : Nat) : State :=
  if s.judging then
    let n := supplyAfter s.profile s.faults.supply raw
    { s with faults := { s.faults with supply := n } }.latchIf (decide (16 ≤ n)) .supplyLow
  else s

/-! ### The schedule (R48, R52) -/

/-- The pointed slot's name. -/
def Converter.slot (c : Converter) : Slot := c.schedule.getD c.ptr .idle

/-- The raw code stored as its input's last sample (R48). -/
def Converter.stored (c : Converter) (raw : Nat) : Converter :=
  match c.slot with
  | .armL => { c with armL := raw }
  | .armR => { c with armR := raw }
  | .curL => { c with curL := raw }
  | .curR => { c with curR := raw }
  | .curC => { c with curC := raw }
  | .supply => { c with supply := raw }
  | .idle => c

/-- The pointer advanced, or a pending schedule taking over from its slot 0 (R48, R52). -/
def Converter.advanced (c : Converter) : Converter :=
  match c.pendingSchedule with
  | some sc => { c with schedule := sc, pendingSchedule := none, ptr := 0 }
  | none => { c with ptr := (c.ptr + 1) % 16 }

/-- A sample handed to its input's consumer (R48). -/
def State.handSample (s : State) (x : Slot) (raw : Nat) : State :=
  match x with
  | .armL => s.armSample .left raw
  | .armR => s.armSample .right raw
  | .curL => s.currentSample .left raw
  | .curR => s.currentSample .right raw
  | .curC => s.currentSample .capstan raw
  | .supply => s.supplySample raw
  | .idle => s

/-- CONVERSION_COMPLETE (R48): the sample stored and handed on under the slot it was made for, then the pointer. With the reset
input held no conversion runs (R49, entry 11). -/
def execConversionComplete (raw : BitVec 12) (s : State) : Host.Outcome State Fault Refusal :=
  if s.startup.phase = .held then .next s
  else
    let s1 := s.reach (s.conv.lastDone + Config.conversionTime)
    let s2 := { s1 with conv := { (s1.conv.stored raw.toNat).advanced with lastDone := s1.now } }
    .next (s2.handSample s.conv.slot raw.toNat).settle.handOver

/-! ### Input lines -/

/-- A drive-fault input's level. -/
def Pins.driveFault (p : Pins) : Motor → Bool
  | .left => p.faultL
  | .right => p.faultR
  | .capstan => p.faultC

/-- The lines with a drive-fault input at a level. -/
def Pins.withDriveFault (p : Pins) (m : Motor) (b : Bool) : Pins :=
  match m with
  | .left => { p with faultL := b }
  | .right => { p with faultR := b }
  | .capstan => { p with faultC := b }

/-- DRIVE_FAULT_INPUT (R169): an input that becomes asserted latches its motor's DRIVE fault; a release only changes the
level. -/
def execDriveFaultInput (m : Motor) (asserted : Bool) (s : State) : Host.Outcome State Fault Refusal :=
  let s1 := { s with pins := s.pins.withDriveFault m asserted }
  if asserted && !(s.pins.driveFault m) && s.judging then .next (s1.latchFault (driveFaultKind m)).settle.handOver else .next s1

/-- SUPPLY_WARNING_INPUT (R170). -/
def execSupplyWarningInput (asserted : Bool) (s : State) : Host.Outcome State Fault Refusal :=
  let s1 := { s with pins := { s.pins with supplyWarning := asserted } }
  if asserted && !s.pins.supplyWarning && s.judging then .next (s1.latchFault .supplyLow).settle.handOver else .next s1

/-- PINCH_ENGAGED_SENSE (R100, R102, R103): the sense's level, judged while a pinch transition is timed. -/
def execPinchEngagedSense (engaged : Bool) (s : State) : Host.Outcome State Fault Refusal :=
  .next (State.settle { s with pins := { s.pins with pinchSense := engaged } }).handOver

end Sys2Proof.Machine
end

