-- ==== Sys2Proof/Machine/Servo.lean ====
section
/-! DEFINITION. The reel servo and the capstan servo (R36 to R45, R101, R102, R172), and the ends of the sequencer's and the
Fault Supervisor's timers (R76, R100, R103, R106, R107, R172, R175, R177). -/

namespace Sys2Proof.Machine

/-! ### The accel in force and derating -/

/-- The accel in force brought into its register. -/
def State.syncAccel (s : State) : State := { s with motion := { s.motion with accel := s.accelInForce } }

/-- The sequencer's answer to a derate request (R44). -/
def State.derate (s : State) : State :=
  match s.motion.active with
  | none => s
  | some a =>
    if 100 < a.accel then
      let s1 := s.onActive (fun x => { x with accel := deratedAccel a.accel, derated := true })
      s1.syncAccel.report .derate (deratedAccel a.accel)
    else s.onActive (fun x => { x with derated := true })

/-! ### The reel servo update -/

/-- The interval counts after one closes: the oldest goes, the newest stands last (R36, R102). -/
def closeInterval (hist : List Int) (cur : Int) : List Int := hist.drop 1 ++ [cur]

/-- A speed from the net count of 32 intervals and a circumference (R36, R102). -/
def speedOf (hist : List Int) (circ : Nat) : Int := Int.tdiv (hist.sum * circ) 8

/-- The measured speed formed anew (R36). -/
def SpeedMeter.update (m : SpeedMeter) (p : Profile) : SpeedMeter :=
  let hist := closeInterval m.hist m.cur
  { m with hist := hist, cur := 0, v := speedOf hist p.cRoll }

/-- a_cmd by transport state (R37); 0 in the braked states, where none is formed (R46). -/
def State.commandedAccel (s : State) : Int :=
  match s.motion.state with
  | .winding | .sizing | .halting | .stopped =>
    clampInt (-8000) 8000 (s.motion.aRef + Int.tdiv ((s.motion.vRef - s.speed.v) * s.profile.kV) 1000)
  | .engaging | .playing | .releasing => clampInt (-8000) 8000 s.motion.aRef
  | .unthreaded | .standby | .braking | .fault => 0

/-- A reel's τ_max. -/
def tauMax (p : Profile) : Side → Nat
  | .left => p.tauL
  | .right => p.tauR

/-- The sign with which τ_a enters a reel's torque (R41). -/
def sideSign : Side → Int
  | .left => -1
  | .right => 1

/-- A reel's unclamped torque (R41). -/
def State.rawTorque (s : State) (d : Side) : Int :=
  let r := s.reel d
  let f := s.tensionSetpoint
  staticTorque f r.rEst + sideSign d * accelTorque r.inertia s.speed.aCmd r.rEst +
    trimTorque s.profile (tauMax s.profile d) f (s.arm d).tension r.rEst

/-- A reel with a new torque from an unclamped one, and whether it makes a derate request (R41, R43). -/
def Reel.driven (r : Reel) (tauMax : Nat) (raw : Int) : Reel × Bool :=
  let tau := clampInt (-(tauMax : Int)) tauMax raw
  let n := if tau = raw then 0 else r.sat + 1
  ({ r with torque := tau, code := torqueCode tau tauMax, sat := if 40 ≤ n then 0 else n }, decide (40 ≤ n))

/-- Both reels driven, with their derate requests (R41 to R45). -/
def State.driveReels (s : State) : State :=
  let l := s.reelL.driven s.profile.tauL (s.rawTorque .left)
  let r := s.reelR.driven s.profile.tauR (s.rawTorque .right)
  let s1 := { s with reelL := l.1, reelR := r.1 }
  let s2 := if l.2 then s1.derate else s1
  if r.2 then s2.derate else s2

/-- The slip timer after a reel servo update (R172). -/
def State.slipAfter (s : State) : Option Nat :=
  if s.motion.state = .playing then
    if s.profile.vPlay / 50 < (s.speed.v - s.capstan.speed).natAbs then some (s.faults.slip.getD s.now) else none
  else s.faults.slip

/-- ROLLER_SLIP judged at a reel servo update (R172). -/
def State.judgeSlip (s : State) : State := { s with faults := { s.faults with slip := s.slipAfter } }

/-- REEL_SERVO_UPDATE (R36 to R45, R172). -/
def execReelServoUpdate (s : State) : Host.Outcome State Fault Refusal :=
  let s1 := s.reach (s.speed.lastUpdate + Config.updateTime)
  let s2 := { s1 with speed := { s1.speed.update s1.profile with lastUpdate := s1.now } }
  let s3 := { s2 with speed := { s2.speed with aCmd := s2.commandedAccel } }
  if s3.motion.state.braked then .next s3.judgeSlip else .next s3.driveReels.judgeSlip.handOver

/-! ### The capstan servo update -/

/-- v_c with the active PLAY's varispeed and the Chase Unit's correction (R101). -/
def State.capstanGoal (s : State) : Int :=
  let vari := match s.motion.active with
    | some a => if a.kind = .play then a.vari else 0
    | none => 0
  capstanTarget s.profile vari s.chase.c

/-- ε (R102). -/
def State.capstanError (s : State) : Int :=
  (if s.runUp then s.capstanGoal else s.motion.vRef) - s.capstan.speed

/-- The capstan loop after an update with an error (R102). -/
def Capstan.driven (c : Capstan) (p : Profile) (e : Int) : Capstan :=
  let i := clampInt (-1024) 1024 (c.integral + Int.tdiv (e * p.kIc) 65536)
  { c with integral := i, code := clampInt (-2047) 2047 (Int.tdiv (e * p.kPc) 4096 + i) }

/-- CAPSTAN_UPDATE (R102). -/
def execCapstanUpdate (s : State) : Host.Outcome State Fault Refusal :=
  let s1 := s.reach (s.capstan.lastUpdate + Config.updateTime)
  let hist := closeInterval s1.capstan.hist s1.capstan.cur
  let s2 := { s1 with capstan := { s1.capstan with
    hist := hist, cur := 0, speed := speedOf hist s1.profile.cCap, lastUpdate := s1.now } }
  .next { s2 with capstan :=
    if s2.capstan.running then s2.capstan.driven s2.profile s2.capstanError
    else { s2.capstan with integral := 0, code := 0 } }

/-! ### Ends of timers -/

/-- ROLLER_SLIP_TIMEOUT (R172): the slip timer at 500 ms. -/
def execRollerSlipTimeout (s : State) : Host.Outcome State Fault Refusal :=
  match s.faults.slip with
  | some t =>
    let s1 := s.reach (t + Config.msec 500)
    .next (State.latchFault { s1 with faults := { s1.faults with slip := none } } .rollerSlip).settle.handOver
  | none => .next s

/-- PINCH_TIMEOUT (R100, R102, R103): a pinch transition unconfirmed for 150 ms. In HALTING the release counts as over. -/
def execPinchTimeout (s : State) : Host.Outcome State Fault Refusal :=
  match s.motion.pinchTimer with
  | some t =>
    let s1 := s.reach (t + Config.msec 150)
    let s2 := { s1 with motion := { s1.motion with
      pinchTimer := none
      halt := s1.motion.halt.map (fun (h : HaltCtx) => { h with pinchDone := true }) } }
    .next (s2.latchFault .pinchTimeout).settle.handOver
  | none => .next s

/-- The duration of the active move, which is the oldest record (R66, R76). -/
def State.activeDuration (s : State) : Option Nat :=
  match s.motion.queue with
  | r :: _ => r.duration
  | [] => none

/-- DURATION_EXPIRY (R76): the active move's elapsed time reaches its duration. -/
def execDurationExpiry (s : State) : Host.Outcome State Fault Refusal :=
  match s.motion.active, s.activeDuration with
  | some a, some d => .next ((s.reach (a.start + Config.msec d)).finishMove .done).settle.handOver
  | _, _ => .next s

/-- The sizing context when it is in a phase. -/
def State.sizingIn (s : State) (ph : SizingPhase) : Option SizingCtx := s.motion.sizing.filter (fun z => z.phase = ph)

/-- THREAD_CHECK_TIMEOUT (R106, R110): THREAD_CHECK not passed within 500 ms. -/
def execThreadCheckTimeout (s : State) : Host.Outcome State Fault Refusal :=
  match s.sizingIn .threadCheck with
  | some z => .next (((s.reach (z.timer + Config.msec 500)).enter .unthreaded).sizingDone 1).settle.handOver
  | none => .next s

/-- MEASURE_TIMEOUT (R107): MEASURE not ended within 10,000 ms. -/
def execMeasureTimeout (s : State) : Host.Outcome State Fault Refusal :=
  match s.sizingIn .measure with
  | some z => .next ((s.reach (z.timer + Config.msec 10000)).latchFault .radiusLost).settle.handOver
  | none => .next s

/-- BRAKING_TIMEOUT (R175): the braking timer at 5,000 ms. -/
def execBrakingTimeout (s : State) : Host.Outcome State Fault Refusal :=
  match s.motion.brakingTimer with
  | some t => .next ((s.reach (t + Config.msec 5000)).enter .fault).settle.handOver
  | none => .next s

/-- SUPERVISION_EXPIRY (R177): the owner silent for the supervision time. -/
def execSupervisionExpiry (s : State) : Host.Outcome State Fault Refusal :=
  match s.faults.supervision with
  | some t =>
    let s1 := s.reach (t + Config.msec s.profile.supervision)
    let s2 := { s1 with faults := { s1.faults with supervision := none } }
    .next (((s2.endAll .halted).stopTransport).report .supervisionStop s.motion.state.num).settle.handOver
  | none => .next s

end Sys2Proof.Machine
end

