-- ==== Sys2Proof/Machine/Reference.lean ====
section
/-! DEFINITION. The reference update (R92, R93, R97, R99, R100) with the ceilings of the zones and the guard and the ends of
moves they make (R119 to R126). -/

namespace Sys2Proof.Machine

/-! ### Ceilings (R119, R120, R124) -/

/-- The least of some ceilings; none when there is none. -/
def leastCeiling (l : List (Option Nat)) : Option Nat :=
  l.foldl (fun a b => match a, b with
    | some x, some y => some (min x y)
    | none, y => y
    | x, none => x) none

/-- Whether a BARRIER's exit direction leaves a direction open (R119). -/
def Sense.opens (x : Option Sense) (d : Direction) : Bool :=
  match x, d with
  | some .either, _ | some .forward, .forward | some .reverse, .reverse => true
  | some .forward, .reverse | some .reverse, .forward | none, _ => false

/-- The ceiling a zone that contains the tape gives for a direction (R119). -/
def Zone.insideCeiling (z : Zone) (d : Direction) : Option Nat :=
  match z.kind with
  | .slow => some z.ceiling
  | .barrier => if Sense.opens z.exit d then none else some 0
  | .notify => none

/-- The distance from a position to a zone's near edge in a direction: positive when the zone lies ahead (6.4). -/
def Zone.distance (z : Zone) (pos : Int) (d : Direction) : Int :=
  match d with
  | .forward => z.base - pos
  | .reverse => pos - z.limit

/-- The distance to a BARRIER's approach point (R120). -/
def Zone.approach (z : Zone) (p : Profile) (pos : Int) (d : Direction) : Int := z.distance pos d - p.tolerance

/-- The look-ahead ceiling of a zone ahead of the tape (R120). -/
def Zone.aheadCeiling (z : Zone) (p : Profile) (az : Nat) (pos : Int) (d : Direction) : Option Nat :=
  match z.kind with
  | .slow => some (lookAhead p z.ceiling az (z.distance pos d))
  | .barrier => some (lookAhead p 0 az (z.approach p pos d))
  | .notify => none

/-- The ceiling a zone gives in a direction, if any (R119, R120). -/
def Zone.ceilingIn (z : Zone) (p : Profile) (az : Nat) (pos : Int) (d : Direction) : Option Nat :=
  if z.contains then z.insideCeiling d
  else if 0 < z.distance pos d then z.aheadCeiling p az pos d
  else none

/-- a_z: the lesser of the active move's accel and a_stop; a_stop with no active move (R120, entry 20). -/
def State.approachAccel (s : State) : Nat :=
  match s.motion.active with
  | some a => min a.accel s.profile.aStop
  | none => s.profile.aStop

/-- The zones of the table. -/
def State.zoneList (s : State) : List Zone := s.zones.entries.filterMap id

/-- The least ceiling of the zones in a direction, without the guard (R119, R120). -/
def State.zoneCeiling (s : State) (d : Direction) : Option Nat :=
  leastCeiling (s.zoneList.map (fun z => z.ceilingIn s.profile s.approachAccel s.position.pos d))

/-- The guard ceiling of a direction, none when inactive (R124). -/
def State.guard (s : State) : Direction → Option Nat
  | .forward => s.zones.guardF
  | .reverse => s.zones.guardR

/-- The ceiling of a direction, with the guard (R120). -/
def State.ceiling (s : State) (d : Direction) : Option Nat := leastCeiling [s.zoneCeiling d, s.guard d]

/-- Whether a BARRIER makes the ceiling of a direction 0 (R122). -/
def State.barrierCloses (s : State) (d : Direction) : Bool :=
  s.zoneList.any (fun z =>
    decide (z.kind = .barrier) && decide (z.ceilingIn s.profile s.approachAccel s.position.pos d = some 0))

/-- Whether a BARRIER stops the tape under the pinch (R123). -/
def State.barrierStops (s : State) : Bool :=
  s.zoneList.any (fun z =>
    decide (z.kind = .barrier) &&
      (if z.contains then decide (z.exit = some .reverse)
       else decide (0 < z.distance s.position.pos .forward) &&
        decide (z.approach s.profile s.position.pos .forward ≤
          brakingDistance s.profile s.motion.vRef.natAbs s.profile.aStop)))

/-! ### The locate phases (R99) -/

/-- The phase of a locate that has not passed its target, after an update's test (R99). -/
def LocateCtx.nextPhase (l : LocateCtx) (p : Profile) (pos vRef : Int) (accel : Nat) : LocatePhase :=
  let near := decide (l.remaining pos ≤ brakingDistance p vRef.natAbs accel)
  match l.phase with
  | .run => if near then .creep else .run
  | .creep => if near && decide (vRef.natAbs ≤ p.creep) then .settle else .creep
  | .settle => .settle

/-- The pass test and the phase test of a reference update (R99): one change of phase at most, and the demand by the new phase. The
accel in force of the phase test is that of the ceiling descent as the update finds it (entry 14). -/
def State.stepLocate (s : State) : State :=
  match s.motion.locate with
  | some l =>
    if s.locateRuns then
      if l.passed s.profile s.position.pos then s.passTarget l
      else s.withLocate { l with phase := l.nextPhase s.profile s.position.pos s.motion.vRef s.accelInForce }
    else s
  | none => s

/-! ### The demand (R93) -/

/-- A demand: its signed speed, and the direction whose ceiling limits it, if one does. -/
structure Demand where
  speed : Int
  dir   : Option Direction
  deriving DecidableEq, Repr

/-- The applicable ceiling of the active move under a ceiling of the Zone Table (R93). -/
def applicable (p : Profile) (a : ActiveMove) (z : Option Nat) : Nat :=
  match z with
  | some c => min (min a.ceiling p.shuttle) c
  | none => min a.ceiling p.shuttle

/-- The demand of a locate's phase under an applicable ceiling (R99). -/
def LocateCtx.demand (l : LocateCtx) (p : Profile) (appl : Nat) : Demand :=
  match l.phase with
  | .run => ⟨dirSign l.dir * appl, some l.dir⟩
  | .creep => ⟨dirSign l.dir * (min p.creep appl : Nat), some l.dir⟩
  | .settle => ⟨0, none⟩

/-- The locate demand of WINDING: none while a seek is parked (R135). -/
def State.locateDemand (s : State) (a : ActiveMove) (z : Direction → Option Nat) : Demand :=
  match s.motion.locate with
  | some l => l.demand s.profile (applicable s.profile a (z l.dir))
  | none => ⟨0, none⟩

/-- The demand of a run-up (R100). -/
def runUpDemand (p : Profile) (a : ActiveMove) (z : Direction → Option Nat) : Demand :=
  ⟨(min p.vPlay (applicable p a (z .forward)) : Nat), some .forward⟩

/-- The demand in WINDING under the active move, with the Zone Table's ceilings as given (R93). -/
def State.windingDemand (s : State) (a : ActiveMove) (z : Direction → Option Nat) : Demand :=
  match a.kind with
  | .wind =>
    let d := a.dir.getD .forward
    ⟨dirSign d * applicable s.profile a (z d), some d⟩
  | .locate => s.locateDemand a z
  | .play => runUpDemand s.profile a z
  | .chase => if s.seeking then s.locateDemand a z else runUpDemand s.profile a z
  | .hold => ⟨0, none⟩

/-- The demand of sizing, which the Zone Table does not limit (R93, R107). -/
def State.sizingDemand (s : State) : Demand :=
  let speed := min s.profile.sizingSpeed s.profile.shuttle
  match s.motion.sizing with
  | some z =>
    match z.phase with
    | .threadCheck => ⟨0, none⟩
    | .measure => ⟨speed, none⟩
    | .returning =>
      match s.motion.locate with
      | some l => ⟨(l.demand s.profile speed).speed, none⟩
      | none => ⟨0, none⟩
  | none => ⟨0, none⟩

/-- The demand of PLAYING: v_c, or 0 under a HOLD (R93, R101). -/
def State.playingDemand (s : State) : Int :=
  match s.motion.active with
  | some a => if a.kind = .hold then 0 else s.capstanGoal
  | none => s.capstanGoal

/-- The demand by state (R93), with the Zone Table's ceilings as given. -/
def State.demand (s : State) (z : Direction → Option Nat) : Demand :=
  match s.motion.state with
  | .winding =>
    match s.motion.active with
    | some a => s.windingDemand a z
    | none => ⟨0, none⟩
  | .sizing => s.sizingDemand
  | .playing => ⟨s.playingDemand, none⟩
  | .engaging | .releasing => ⟨s.motion.vRef, none⟩
  | .unthreaded | .stopped | .halting | .braking | .fault | .standby => ⟨0, none⟩

/-! ### The step of the reference (R92, R121) -/

/-- The reference moved toward a demand by at most a step (R92). -/
def stepToward (v demand : Int) (step : Nat) : Int :=
  if (demand - v).natAbs ≤ step then demand else if v < demand then v + step else v - step

/-- Whether a ceiling descent is in force at an update: from the demand with the Zone Table's ceilings and the demand without
them (R121, entry 21). -/
def State.descends (s : State) (zoned free : Int) : Bool :=
  match s.motion.state, s.motion.active with
  | .winding, some a =>
    decide (zoned.natAbs + a.accel / 4 < s.motion.vRef.natAbs) && decide (0 ≤ zoned * s.motion.vRef) &&
      decide (zoned.natAbs < free.natAbs)
  | _, _ => false

/-- v_ref and a_ref after an update's step (R92). -/
def Motion.stepped (m : Motion) (p : Profile) (demand : Int) : Motion :=
  let v := clampInt (-(p.shuttle : Int)) p.shuttle (stepToward m.vRef demand (m.accel / 4))
  { m with vRef := v, aRef := 4 * (v - m.vRef) }

/-- The ceilings of both directions formed for an update (R119, R120, R127, entry 20). -/
def State.formCeilings (s : State) : State :=
  { s with zones := { s.zones with ceilF := s.ceiling .forward, ceilR := s.ceiling .reverse } }

/-- The reference after an update's step, with the descent and the accel in force it is made under (R92, R121). -/
def State.stepReference (s : State) (d : Demand) : State :=
  let s1 := { s with zones := { s.zones with descent := s.descends d.speed (s.demand (fun _ => none)).speed } }
  let s2 := s1.syncAccel
  { s2 with motion := s2.motion.stepped s2.profile d.speed }

/-! ### Ends of moves at an update (R122, R123, R125, R126, R100) -/

/-- The direction of a locate in RUN or CREEP whose target lies beyond the tolerance (R122). -/
def State.locateDirection (s : State) : Option Direction :=
  match s.motion.locate with
  | some l => if l.phase ≠ .settle ∧ s.profile.tolerance < l.remaining s.position.pos then some l.dir else none
  | none => none

/-- The direction tested for barriers and the guard in WINDING (R122). -/
def State.testedDirection (s : State) : Option Direction :=
  match s.motion.active with
  | some a =>
    match a.kind with
    | .wind => some (a.dir.getD .forward)
    | .play => some .forward
    | .chase => if s.seeking then s.locateDirection else some .forward
    | .locate => s.locateDirection
    | .hold => none
  | none => none

/-- The reel that pays out in a direction, as EOT_GUARD names it: LEFT 0, RIGHT 1 (R124, R126). -/
def payingReel : Direction → Side
  | .forward => .left
  | .reverse => .right

/-- EOT_GUARD reported when the flag is clear (R126). -/
def State.reportGuard (s : State) (d : Direction) : State :=
  if s.zones.guardReported then s
  else { s with zones := { s.zones with guardReported := true } }.report .eotGuard (sideNum (payingReel d))

/-- Whether the guard limits the reference at an update in WINDING, from the reference before it (R126, entry 45). -/
def State.guardLimits (s : State) (d : Direction) (vOld : Int) : Bool :=
  match s.motion.active, s.guard d with
  | some a, some g =>
    decide (g < applicable s.profile a (s.zoneCeiling d)) && decide (g < vOld.natAbs + a.accel / 4)
  | _, _ => false

/-- A locate held at the closed approach point: v_ref 0, the ceiling of its direction 0, and no more than the tolerance
remaining, so that it ends by its own SETTLE phase and not BLOCKED (R122, entry 48). -/
def State.settleHeld (s : State) : State :=
  match s.motion.locate with
  | some l =>
    if s.motion.vRef = 0 ∧ s.ceiling l.dir = some 0 ∧ l.remaining s.position.pos ≤ s.profile.tolerance then
      s.withLocate { l with phase := .settle }
    else s
  | none => s

/-- The tests of an update in WINDING after its step (R122, R125, R126). A move that ends END_OF_TAPE at its first update reports no
EOT_GUARD (entry 18). -/
def State.endWinding (s : State) (d : Demand) (vOld : Int) : State :=
  let limited := match d.dir with
    | some x => if s.guardLimits x vOld then s.reportGuard x else s
    | none => s
  match s.testedDirection with
  | some x =>
    if s.motion.vRef = 0 then
      if s.guard x = some 0 then (if s.zones.updated then limited else s).failMove .endOfTape
      else if s.barrierCloses x then limited.failMove .blocked
      else limited
    else limited
  | none => limited.settleHeld

/-- The tests of an update in ENGAGING, PLAYING and RELEASING (R123, R125, R126, entry 19). -/
def State.endPinched (s : State) : State :=
  match s.motion.active with
  | none => s
  | some _ =>
    match s.guard .forward with
    | some g =>
      if g ≤ s.motion.vRef.natAbs then (s.reportGuard .forward).failMove .endOfTape
      else if s.barrierStops then s.failMove .blocked
      else s
    | none => if s.barrierStops then s.failMove .blocked else s

/-- Whether a run-up ends: at play speed within the window (R100). The window is compared as 400 times its terms, exactly. -/
def State.runUpEnds (s : State) : Bool :=
  s.runUp && decide (s.motion.vRef = s.profile.vPlay) &&
    decide (400 * (s.speed.v - s.profile.vPlay).natAbs ≤ 8 * s.profile.vPlay + 50 * s.profile.cRoll)

/-- The ends and transitions of an update, after its step (R100, R122, R123, R125, R126, entry 15). -/
def State.endUpdate (s : State) (d : Demand) (vOld : Int) : State :=
  match s.motion.state with
  | .winding =>
    let s1 := s.endWinding d vOld
    if s1.runUpEnds then s1.enter .engaging else s1
  | .engaging | .playing | .releasing => s.endPinched
  | .unthreaded | .sizing | .stopped | .halting | .braking | .fault | .standby => s

/-- An update noted, so that a move's first update is known (R126). -/
def State.noteUpdate (s : State) : State := { s with zones := { s.zones with updated := true } }

/-- The update in a driven state. -/
def State.referenceStep (s : State) : State :=
  let s1 := s.stepLocate.formCeilings
  let d := s1.demand s1.ceiling
  ((s1.stepReference d).endUpdate d s1.motion.vRef).noteUpdate

/-- REFERENCE_UPDATE (R92, R93). -/
def execReferenceUpdate (s : State) : Host.Outcome State Fault Refusal :=
  let s1 := s.reach (s.motion.lastUpdate + Config.updateTime)
  let s2 := { s1 with motion := { s1.motion with lastUpdate := s1.now } }
  if s2.motion.state.braked then
    .next (State.handOver { s2.formCeilings with motion := { s2.motion with vRef := 0, aRef := 0 } })
  else .next s2.referenceStep.settle.handOver

end Sys2Proof.Machine
end

