-- ==== Sys2Proof/Machine/ChaseWords.lean ====
section
/-! DEFINITION. The Chase Unit's events: words at the reference port, the loss timer and the freewheel timer (R129 to R140). -/

namespace Sys2Proof.Machine

/-- Whether a CHASE is the active move. -/
def State.chasing (s : State) : Bool :=
  match s.motion.active with
  | some a => decide (a.kind = .chase)
  | none => false

/-! ### The reader (R129, R131) -/

/-- The run count after a valid word (R129). -/
def Chase.runAfter (c : Chase) (p : Profile) (f : Nat) : Nat :=
  match c.lastFrame with
  | some last => if c.run ≠ 0 ∧ f = (last + 1) % dayFrames p then min 3 (c.run + 1) else 1
  | none => 1

/-- The reader and the phase error after a valid word (R129, R131). -/
def State.readWord (s : State) (f : Nat) : State :=
  let sub := s.subframeAt s.position.pos
  let run := s.chase.runAfter s.profile f
  { s with chase := { s.chase with
      run := run
      present := s.chase.present || decide (run = 3)
      lastFrame := some f
      lastSub := sub
      lossTimer := some s.now
      lastWord := some s.now
      e := sub.map (phaseError s.profile f s.chaseOffset) } }

/-- The reader after an invalid word (R129). -/
def State.breakRun (s : State) : State := { s with chase := { s.chase with run := 0 } }

/-! ### The chase state machine at a valid word (R132, R135, R136, R139, R140) -/

/-- c from a phase error (R132). -/
def correction (p : Profile) (e : Int) : Int := clampInt (-300) 300 (Int.tdiv (e * p.kPh) 64)

/-- Whether an error is beyond the re-seek threshold (R133, R136, R139). -/
def farError (p : Profile) (e : Int) : Bool := decide (p.reseek * 100 < e.natAbs)

/-- The lock and unlock counts replaced. -/
def State.withCounts (s : State) (lock unlock : Nat) : State := { s with chase := { s.chase with lock := lock, unlock := unlock } }

/-- c set from a word (R132). -/
def State.correct (s : State) (e : Int) : State := { s with chase := { s.chase with c := correction s.profile e } }

/-- The seek context and the locate under it dropped (R135, R138). -/
def State.dropSeek (s : State) : State :=
  { s with chase := { s.chase with seek := none }, motion := { s.motion with locate := none } }

/-- The gap of a word in a seek (R135). -/
def seekGap (p : Profile) (f : Nat) (k : SeekCtx) : Int := wrapHalf ((f : Int) - ((k.rendezvous : Int) - p.preroll)) (dayFrames p)

/-- A valid word in SEEK (R135). -/
def State.seekWord (s : State) (f : Nat) : State :=
  match s.chase.seek with
  | some k =>
    let g := seekGap s.profile f k
    if g < -(s.profile.preroll : Int) then s.beginSeek f
    else if k.parked && decide (0 ≤ g) then s.dropSeek
    else s
  | none => s

/-- A word in PLAYING under APPROACH (R136). -/
def State.approachWord (s : State) (e : Int) : State :=
  let n := if e.natAbs ≤ s.profile.lockWindow then s.chase.lock + 1 else 0
  if 10 ≤ n then ((s.setChase .locked).withCounts 0 0).correct e else (s.withCounts n s.chase.unlock).correct e

/-- A word in PLAYING under LOCKED (R136). -/
def State.lockedWord (s : State) (e : Int) : State :=
  let n := if 2 * s.profile.lockWindow < e.natAbs then s.chase.unlock + 1 else 0
  if 3 ≤ n then ((s.setChase .approach).withCounts 0 0).correct e else (s.withCounts s.chase.lock n).correct e

/-- A valid word in APPROACH or LOCKED (R136, R140). -/
def State.followWord (s : State) (f : Nat) : State :=
  match s.chase.e with
  | none => s.failMove .noTimecode
  | some e =>
    if farError s.profile e then ((s.setChase .seek).withCounts 0 0).beginSeek f
    else if s.motion.state ≠ .playing then s
    else if s.chase.state = .locked then s.lockedWord e
    else s.approachWord e

/-- The word that ends a freewheel or a loss (R139, R140). A seek context that still stands when the error is small is dropped
(entry 32). -/
def State.returnWord (s : State) (f : Nat) : State :=
  let s1 := { s with chase := { s.chase with freewheel := none, origin := none } }
  match s1.chase.e with
  | none => s1.failMove .noTimecode
  | some e =>
    if farError s.profile e then (s1.setChase .seek).beginSeek f
    else
      let s2 := if s1.seeking then s1.dropSeek else s1
      (s2.setChase .approach).withCounts 0 0

/-- A valid word handed to the chase state machine (R129). -/
def State.chaseWord (s : State) (f : Nat) : State :=
  match s.chase.state with
  | .seek => s.seekWord f
  | .approach | .locked => s.followWord f
  | .freewheel | .lost => if s.chase.run = 3 then s.returnWord f else s
  | .inactive => s

/-- REFERENCE_WORD (R129). With the reset input held the port is not read (entry 11). -/
def execReferenceWord (w : BcdTime) (rev : Bool) (s : State) : Host.Outcome State Fault Refusal :=
  if s.startup.phase = .held then .next s
  else
    match timecodeFrames s.profile w, rev with
    | some f, false =>
      let s1 := s.readWord f
      .next (if s1.chasing then s1.chaseWord f else s1).settle.handOver
    | _, _ => .next s.breakRun

/-! ### Loss of the reference (R130, R137, R138) -/

/-- The chase becomes LOST: the seek dropped, the transport on its way to PLAYING from where it stands (R138). -/
def State.becomeLost (s : State) : State :=
  let s1 := if s.seeking then s.dropSeek else s
  let s2 := { s1 with chase := { s1.chase with freewheel := none, origin := none } }
  s2.setChase .lost

/-- FREEWHEEL entered with an origin, or LOST at once with a freewheel limit of 0 (R137). The lock and unlock counts become 0 on
both paths (DESIGN CHOICE, entry 63). -/
def State.freewheel (s : State) (o : ChaseOrigin) : State :=
  let s1 := s.withCounts 0 0
  if s.profile.freewheel = 0 then s1.becomeLost
  else { s1 with chase := { s1.chase with origin := some o, freewheel := some s1.now } }.setChase .freewheel

/-- A loss of reference at the chase state machine (R137). -/
def State.loseReference (s : State) : State :=
  match s.chase.state with
  | .seek => s.freewheel .seek
  | .approach | .locked => s.freewheel .play
  | .freewheel | .lost | .inactive => s

/-- LOSS_TIMER_EXPIRY (R130): two frame periods after the last valid word. -/
def execLossTimerExpiry (s : State) : Host.Outcome State Fault Refusal :=
  match s.chase.lossTimer with
  | some t =>
    let s1 := s.reach (t + Config.usec (ceilDiv 2000000 s.profile.rate))
    let s2 := { s1 with chase := { s1.chase with present := false, run := 0, lossTimer := none } }
    .next (if s2.chasing then s2.loseReference else s2).settle.handOver
  | none => .next s

/-- FREEWHEEL_EXPIRY (R138): the freewheel limit reached. -/
def execFreewheelExpiry (s : State) : Host.Outcome State Fault Refusal :=
  match s.chase.freewheel with
  | some t =>
    let s1 := s.reach (t + Config.usec (ceilDiv (s.profile.freewheel * 1000000) s.profile.rate))
    .next s1.becomeLost.settle.handOver
  | none => .next s

end Sys2Proof.Machine
end

