-- ==== Sys2Proof/Machine/Cue.lean ====
section
/-! DEFINITION. The Cue Track Unit's bits (R146 to R148, R151, with the store of R19 and the end of a NEXT_CUE move of R78), and
the Capture Unit's sample event (R160, R162, R163). -/

namespace Sys2Proof.Machine

/-! ### Detection (R146, R147) -/

/-- The last bits of a history, oldest first. -/
def lastBits (n : Nat) (l : List Bool) : List Bool := l.drop (l.length - n)

/-- A code as it is read in a direction (R147). -/
def codeRead (code : List Bool) : Direction → List Bool
  | .forward => code
  | .reverse => code.reverse

/-- Whether the newest bit of a history completes a match of a code (R147). -/
def completes (code hist : List Bool) (d : Direction) : Bool :=
  decide (code.length ≤ hist.length) && decide (lastBits code.length hist = codeRead code d)

/-- A detector after an in-band bit (R147). -/
def Detector.judged (x : Detector) (len threshold : Nat) (hit : Bool) : Detector :=
  if x.run = 0 then (if hit then { x with run := 1, dist := 0 } else x)
  else if x.dist < len - 1 then { x with dist := x.dist + 1 }
  else if hit then { x with run := min threshold (x.run + 1), dist := 0 }
  else Detector.fresh

/-- Whether a detector reports: its run count is at the threshold with the reported flag clear (R147). -/
def Detector.reports (x : Detector) (threshold : Nat) : Bool := decide (x.run = threshold) && !x.reported

/-- Whether a measured speed lies in the band of the cue channel (R146). -/
def inBand (p : Profile) (v : Int) : Bool := decide (p.vPlay ≤ 4 * v.natAbs) && decide (v.natAbs ≤ 4 * p.vPlay)

/-- The history with an in-band bit of a direction, the detectors reset first when the direction turns (R146). -/
def CueUnit.take (c : CueUnit) (b : Bool) (d : Direction) : CueUnit :=
  let c1 := if c.hist ≠ [] ∧ c.histDir ≠ d then c.clearDetection else c
  { c1 with hist := lastBits 8 (c1.hist ++ [b]), histDir := d }

/-! ### Reports (R148, R19, R78) -/

/-- Whether a CUE entry lies within one second of tape of a position (R19). -/
def nearCue (p : Profile) (pos : Int) (x : Option LocateEntry) : Bool :=
  match x with
  | some e => decide (e.kind = .cue) && decide ((e.pos - pos).natAbs ≤ secondOfTape p)
  | none => false

/-- The Position Unit asked to store a CUE entry at the tape position (R19): the second and third bytes of the MARK event's
value, stored 0 with the index, near 1, full 2. -/
def State.storeCue (s : State) : State × Nat × Nat :=
  let pos := s.position.pos
  if s.position.locate.any (nearCue s.profile pos) then (s, 1, 255)
  else
    match s.position.locate.findIdx? Option.isNone with
    | none => (s, 2, 255)
    | some i =>
      ({ s with position := { s.position with locate := s.position.locate.set i (some ⟨.cue, pos, s.timeAt pos⟩) } }, 0, i)

/-- Whether the active move is a WIND or PLAY that waits for a MARK (R78). -/
def State.waitsForCue (s : State) : Bool :=
  match s.motion.active, s.motion.queue with
  | some _, r :: _ => decide (r.target = some .nextCue)
  | _, _ => false

/-- A MARK report (R148). The sequencer takes it before the Position Unit (entry 24), and its event is latched in the notice link's
table alone (DEDUCED, entry 57). -/
def State.reportMark (s : State) : State :=
  let pos := s.position.pos
  let s1 := if s.waitsForCue then s.finishMove .done else s
  if s1.cue.auto then
    let r := s1.storeCue
    r.1.reportAt .cue (cueValue 0 r.2.1 r.2.2) pos
  else s1.reportAt .cue (cueValue 0 3 255) pos

/-- A CLEAR report (R148), latched in the notice link's table alone (DEDUCED, entry 57). -/
def State.reportClear (s : State) : State := s.report .cue (cueValue 1 255 255)

/-- Both detectors judging the newest bit, with the reports they make (R147, R148). -/
def State.judgeBit (s : State) (d : Direction) : State :=
  let c := s.cue
  let m := c.detMark.judged c.mark.length c.threshold (completes c.mark c.hist d)
  let k := c.detClear.judged c.clear.length c.threshold (completes c.clear c.hist d)
  let m1 := if m.reports c.threshold then { m with reported := true } else m
  let k1 := if k.reports c.threshold then { k with reported := true } else k
  let s1 := { s with cue := { c with detMark := m1, detClear := k1 } }
  let s2 := if m.reports c.threshold then s1.reportMark else s1
  if k.reports c.threshold then s2.reportClear else s2

/-- A cue bit at the detectors (R146). -/
def State.readBit (s : State) (b : Bool) : State :=
  if inBand s.profile s.speed.v then
    let d : Direction := if 0 < s.speed.v then .forward else .reverse
    State.judgeBit { s with cue := s.cue.take b d } d
  else { s with cue := s.cue.clearDetection }

/-- A bit of the code driven by the generator (R151). -/
def State.writeBit (s : State) : State :=
  match s.cue.write with
  | some w =>
    { s with cue := { s.cue with
        out := .active (some (w.code.getD w.bitIndex false))
        write := some { w with bitIndex := (w.bitIndex + 1) % w.code.length, written := w.written + 1 } } }
  | none => s

/-- CUE_BIT (R146, R151). With the reset input held the clock is not read (entry 11). -/
def execCueBit (b : Bool) (s : State) : Host.Outcome State Fault Refusal :=
  if s.startup.phase = .held then .next s
  else if s.cue.gen = .writing then .next s.writeBit
  else .next (s.readBit b).settle.handOver

/-! ### The capture sample event -/

/-- A captured signal as it is stored, before the clamp (R160). -/
def State.signal (s : State) : Signal → Int
  | .armTensionL => s.armL.tension
  | .armTensionR => s.armR.tension
  | .torqueL => s.reelL.torque
  | .torqueR => s.reelR.torque
  | .capstanCode => s.capstan.code
  | .measuredSpeed => Int.tdiv s.speed.v 1000
  | .referenceSpeed => Int.tdiv s.motion.vRef 1000
  | .radiusL => (s.reelL.rEst / 100 : Nat)
  | .radiusR => (s.reelR.rEst / 100 : Nat)
  | .positionLow => wrapHalf s.position.pos 65536

/-- The value of a channel (R160). -/
def State.sampleOf (s : State) (x : Signal) : Int := clampInt (-32768) 32767 (s.signal x)

/-- The samples the capture memory holds for a number of channels (9.4). -/
def captureCapacity (n : Nat) : Nat := 8192 / n

/-- The capture with a sample stored (R160, R162, R163): in a ring a full memory loses its oldest sample. -/
def Capture.sampled (c : Capture) (v : List Int) : Capture :=
  let cap := captureCapacity c.channels.length
  let kept := if c.samples.length < cap then c.samples else c.samples.drop 1
  { c with
    samples := kept ++ [v]
    taken := min 4294967295 (c.taken + 1)
    postTaken := if c.state = .triggered then c.postTaken + 1 else c.postTaken }

/-- The reason for which a capture is DONE after a sample (R162, R163). -/
def Capture.ending (c : Capture) : Option DoneReason :=
  match c.mode with
  | .ring => if c.state = .triggered ∧ c.post ≤ c.postTaken then some .postCount else none
  | .oneShot =>
    match c.stop with
    | .count n => if n ≤ c.samples.length then some .count else none
    | .atPosition _ _ | .full => if captureCapacity c.channels.length ≤ c.samples.length then some .full else none

/-- A sample taken, which may end the capture. All channels are read from one state: they never differ in being from before or from
after an event that falls together with the sample event, as R160 lets them (DESIGN CHOICE, entry 66). -/
def State.takeSample (s : State) : State :=
  let s1 := { s with capture := s.capture.sampled (s.capture.channels.map s.sampleOf) }
  match s1.capture.ending with
  | some r => s1.captureDone r
  | none => s1

/-- The decimation phase advanced (R160). -/
def Capture.advancePhase (c : Capture) : Capture := { c with phase := (c.phase + 1) % c.decim }

/-- CAPTURE_SAMPLE_EVENT (R160). -/
def execCaptureSampleEvent (s : State) : Host.Outcome State Fault Refusal :=
  let s1 := s.reach (s.capture.lastEvent + Config.updateTime)
  let s2 := { s1 with capture := { s1.capture with lastEvent := s1.now } }
  match s2.capture.state with
  | .running | .triggered =>
    let s3 := { s2 with capture := s2.capture.advancePhase }
    .next (if s2.capture.phase = 0 then s3.takeSample else s3).handOver
  | .idle | .armed | .done => .next s2

end Sys2Proof.Machine
end

