-- ==== Sys2Proof/Machine/Links.lean ====
section
/-! DEFINITION. The Link Controller: receivers (R179), the transmitters' choice (R182, R86), position reports (R185), the end of
a store write (R193), and how a request is taken, checked and answered (R180). -/

namespace Sys2Proof.Machine

/-! ### Receivers (R179) -/

/-- How many frames a link's receive queue holds: those not yet processed, and those whose reply waits (R179). -/
def LinkPort.occupancy (p : LinkPort) : Nat := p.rx.length + p.replies.length

/-- The supervision timer restarted by a frame of the owning link, when it runs (R177). -/
def State.heard (s : State) (l : Link) : State :=
  if s.ctl.owner = Link.owner l then
    { s with faults := { s.faults with supervision := s.faults.supervision.map (fun _ => s.now) } }
  else s

/-- A complete frame at a link's receiver: taken into the receive queue when it holds fewer than 4, else discarded (R179). -/
def State.deliver (s : State) (l : Link) (f : Frame) : State :=
  if (s.port l).occupancy < 4 then (s.withPort l { s.port l with rx := (s.port l).rx ++ [f] }).heard l else s

/-- FRAME_RECEIVED (R179): a complete frame whose CRC agrees. -/
def execFrameReceived (l : Link) (kind tag : Byte) (body : Bytes) (s : State) : Host.Outcome State Fault Refusal :=
  if maxBody < body.length then .refused .illFormed
  else if s.receiving then .next (s.deliver l ⟨kind, tag, body⟩)
  else .next s

/-- The partial frame of a link replaced, at the moment of a byte. -/
def State.withPart (s : State) (l : Link) (b : Option Bytes) : State :=
  s.withPort l { s.port l with part := b, lastByte := s.now }

/-- The bytes of a finished frame after its start byte (length, kind, tag, body, CRC), judged by the CRC (R179). -/
def frameOf (b : Bytes) : Option Frame :=
  let covered := b.take (b.length - 2)
  if b.drop (b.length - 2) = crcBytes (crc16 covered) then some ⟨b.getD 1 0, b.getD 2 0, covered.drop 3⟩ else none

/-- A byte joining a partial frame (R179): a length above 120 discards it, and the last CRC byte finishes it. -/
def State.collect (s : State) (l : Link) (b : Bytes) : State :=
  if maxBody < bodyU8 b 0 then s.withPart l none
  else if b.length < 5 + bodyU8 b 0 then s.withPart l (some b)
  else
    let s1 := s.withPart l none
    match frameOf b with
    | some f => s1.deliver l f
    | none => s1

/-- BYTE_RECEIVED (R179). -/
def execByteReceived (l : Link) (b : Byte) (stopBit : Bool) (s : State) : Host.Outcome State Fault Refusal :=
  if s.receiving then
    if stopBit then
      match (s.port l).part with
      | some part => .next (s.collect l (part ++ [b]))
      | none => .next (if b = 0xA5 then s.withPart l (some []) else s)
    else .next (s.withPart l none)
  else .next s

/-- FRAME_GAP_TIMEOUT (R179): more than 5 ms between two bytes of a partial frame. -/
def execFrameGapTimeout (l : Link) (s : State) : Host.Outcome State Fault Refusal :=
  match (s.port l).part with
  | some _ =>
    let s1 := s.reach ((s.port l).lastByte + Config.msec 5)
    .next (s1.withPort l { s1.port l with part := none })
  | none => .next s

/-! ### Position reports and the transmitters (R182, R185, 11.4) -/

/-- The number of the anchor state: NONE 0, PRESET 1, TAPE 2 (11.4). -/
def anchorNum : Option Anchor → Nat
  | none => 0
  | some a => match a.kind with
    | .preset => 1
    | .tape => 2

/-- The Position Report body (11.4, R21). -/
def State.positionReport (s : State) : Bytes :=
  enc4 s.position.pos ++ enc1 ((if s.position.atRest then 1 else 0) + 2 * anchorNum s.position.anchor) ++
    encTime (s.timeAt s.position.pos)

/-- TRANSMIT_DONE (R182, R188): the frame being sent has gone; an at-rest Reset Part whose reply it was is performed, and else
the idle transmitter chooses what it sends next (entry 10). -/
def execTransmitDone (l : Link) (s : State) : Host.Outcome State Fault Refusal :=
  let s1 := s.idleTransmitter l
  match (s.port l).sending with
  | some o => if o.resets then .next (s1.linkReset (Link.resetKind l)) else .next (s1.chooseNext l)
  | none => .next (s1.chooseNext l)

/-- The period of position reports at a rate (R185), in units of the clock. -/
def reportPeriod (rate : Nat) : Nat := Config.msec 1000 / rate

/-- POSITION_REPORT_PERIOD (R185): a report becomes the notice link's pending report. -/
def execPositionReportPeriod (s : State) : Host.Outcome State Fault Refusal :=
  if s.ctl.rate = 0 then .next s
  else
    let s1 := s.reach (s.ctl.lastReport + reportPeriod s.ctl.rate)
    let s2 := { s1 with ctl := { s1.ctl with lastReport := s1.now } }
    .next (s2.withPort s2.noticeLink { s2.port s2.noticeLink with report := some s2.positionReport }).handOver

/-- PROFILE_WRITE_DONE (R193): the store holds its new check, and PROFILE_WRITTEN is reported. -/
def execProfileWriteDone (s : State) : Host.Outcome State Fault Refusal :=
  if s.store.busy then
    .next (State.report { s with store := { s.store with
      check := some (crc16 s.store.bytes), busy := false, invalid := false } } .profileWritten 0).handOver
  else .next s

/-! ### Requests (R180) -/

/-- What a processed request comes to: the state it leaves, the status and what follows it, and whether its reply, once sent,
performs a reset (R188). -/
structure Answer where
  state  : State
  status : Status
  data   : Bytes
  resets : Bool

/-- OK with reply data. -/
def State.ok (s : State) (data : Bytes) : Answer := ⟨s, .ok, data, false⟩

/-- A refusal that changes nothing. -/
def State.refuse (s : State) (st : Status) : Answer := ⟨s, st, [], false⟩

/-- A check of R180: none when it passes, else the status and what follows it. -/
abbrev Check := Option (Status × Bytes)

/-- A check that a condition holds. -/
def check (b : Bool) (st : Status) : Check := if b then none else some (st, [])

/-- The check of the fields in their order: BAD_FIELD with the index of the first that fails (R180). -/
def checkFields (fields : List Bool) : Check := (firstBad fields).map (fun i => (.badField, enc1 i))

/-- A request's checks in their order, the first that fails deciding the reply, and then what it does (R180). -/
def State.checked (s : State) (checks : List Check) (act : Answer) : Answer :=
  match checks.findSome? id with
  | some (st, data) => ⟨s, st, data, false⟩
  | none => act

/-- Check 1 for a request that bears on motion: the requesting link owns the transport. -/
def State.owns (s : State) (l : Link) : Check := check (decide (s.ctl.owner = Link.owner l)) .notOwner

/-- Check 2: no reset is pending. -/
def State.noReset (s : State) : Check := check s.ctl.resetPending.isNone .resetPending

/-- Check 3: the body length. -/
def sized (r : Request) (n : Nat) : Check := check (decide (r.body.length = n)) .badLength

/-- How a request's frame stands at its link (entry 9): it is processed when it is the oldest unprocessed frame; with none
unprocessed the command brings the frame, which is taken in and processed; behind another frame it only joins the queue. The
flag says whether it is processed. -/
def State.takeFrame (s : State) (kind : Byte) (r : Request) : State × Bool :=
  let p := s.port r.link
  let f : Frame := ⟨kind, r.tag, r.body⟩
  if s.receiving then
    match p.rx with
    | g :: rest => if g = f then (s.withPort r.link { p with rx := rest }, true) else (s.deliver r.link f, false)
    | [] => if p.occupancy < 4 then (s.heard r.link, true) else (s, false)
  else (s, false)

/-- A reply joining its link's pending replies (R180). -/
def State.reply (s : State) (l : Link) (o : Outgoing) : State :=
  s.withPort l { s.port l with replies := (s.port l).replies ++ [o] }

/-- An answer as the state it leaves, its reply pending: the request's kind plus 80h, its tag, the status and the data (R180). -/
def Answer.replied (a : Answer) (kind : Byte) (r : Request) : State :=
  a.state.reply r.link ⟨⟨kind + 0x80, r.tag, a.status.code :: a.data⟩, a.resets⟩

/-- A request command: taken at its link, answered and its reply pending (R180). -/
def State.request (s : State) (kind : Byte) (r : Request) (answer : State → Answer) : Host.Outcome State Fault Refusal :=
  if maxBody < r.body.length then .refused .illFormed
  else
    let t := s.takeFrame kind r
    if t.2 then .next ((answer t.1).replied kind r).handOver else .next t.1

/-- UNKNOWN_KIND (R180): the reply carries the kind FFh. A kind that 11.4 lists makes the term no command of this row
(entry 38). -/
def execUnknownKind (kind : Byte) (r : Request) (s : State) : Host.Outcome State Fault Refusal :=
  if maxBody < r.body.length ∨ requestKinds.contains kind = true then .refused .illFormed
  else
    let t := s.takeFrame kind r
    if t.2 then .next (t.1.reply r.link ⟨⟨0xFF, r.tag, [Status.unknownKind.code]⟩, false⟩).handOver else .next t.1

end Sys2Proof.Machine
end

