-- ==== Sys2Proof/Machine/Operands.lean ====
section
/-! DEFINITION. The operand forms of the requests: the bodies of 11.4 as fields, the judgement of each field (R50, R68, R116,
R145, R150, R161, R181, R192), and the move record completed by R69. -/

namespace Sys2Proof.Machine

/-! ### Single fields (R181) -/

/-- Whether a field lies in ±2,000,000,000. -/
def positionField (b : Bytes) (i : Nat) : Bool := posOk (bodyI32 b i)

/-- Whether an enumerated field names one of `n` values. -/
def enumField (b : Bytes) (i n : Nat) : Bool := decide (bodyU8 b i < n)

/-- Whether a field is a flag. -/
def flagField (b : Bytes) (i : Nat) : Bool := enumField b i 2

/-- Whether an index field lies below a limit or is FFh, ALL. -/
def indexOrAll (b : Bytes) (i n : Nat) : Bool := decide (bodyU8 b i < n) || decide (bodyU8 b i = 255)

/-- Whether a timecode field is valid (R5). -/
def timeField (p : Profile) (b : Bytes) (i : Nat) : Bool := (timecodeFrames p (bodyTime b i)).isSome

/-- The direction with a number. -/
def directionOf : Nat → Direction
  | 0 => .forward
  | _ => .reverse

/-- The sense with a number: FORWARD 0, REVERSE 1, EITHER 2. -/
def senseOf : Nat → Sense
  | 0 => .forward
  | 1 => .reverse
  | _ => .either

/-! ### The schedule (R50, R51) -/

/-- The names of the converter's table, by number (R50). -/
def slotNames : List Slot := [.armL, .armR, .curL, .curR, .curC, .supply, .idle]

/-- The list of slots a body names. -/
def scheduleOf (b : Bytes) : List Slot := b.map (fun x => slotNames.getD x.toNat .idle)

/-- How many slots a name holds. -/
def slotCount (l : List Slot) (x : Slot) : Nat := l.count x

/-- Whether a schedule's counts meet the table of R50. -/
def scheduleCounts (l : List Slot) : Bool :=
  inRange 4 8 (slotCount l .armL) && inRange 4 8 (slotCount l .armR) && inRange 1 5 (slotCount l .curL) &&
    inRange 1 5 (slotCount l .curR) && inRange 1 5 (slotCount l .curC) && inRange 1 5 (slotCount l .supply) &&
    inRange 0 4 (slotCount l .idle)

/-- Whether the slot list of a body is valid (R50). -/
def scheduleField (b : Bytes) : Bool := b.all (fun x => decide (x.toNat < 7)) && scheduleCounts (scheduleOf b)

/-! ### The move record (R67 to R69, 11.4) -/

/-- The fields of a move record after its first three bytes: their presence bit, index and size. -/
def moveFieldSizes : List Nat := [1, 5, 4, 4, 2, 2, 2, 4]

/-- Whether the presence byte of a move record shows a bit. -/
def present (b : Bytes) (bit : Nat) : Bool := (b.getD 2 0).getLsbD bit

/-- The offset of the field of a presence bit. -/
def moveOffset (b : Bytes) (bit : Nat) : Nat :=
  3 + (((List.range bit).map (fun i => if present b i then moveFieldSizes.getD i 0 else 0)).sum)

/-- The length a move record's presence byte declares (11.4). -/
def moveLength (b : Bytes) : Nat := moveOffset b 8

/-- Whether the body of Submit Move has the length it declares. -/
def moveSized (b : Bytes) : Bool := decide (3 ≤ b.length) && decide (b.length = moveLength b)

/-- The kind with a number (11.4). -/
def moveKindOf : Nat → MoveKind
  | 0 => .wind
  | 1 => .locate
  | 2 => .play
  | 3 => .chase
  | _ => .hold

/-- A move record's kind. -/
def moveKind (b : Bytes) : MoveKind := moveKindOf (bodyU8 b 1)

/-- The target of a move record, if present; the first three value bytes of an ENTRY are ignored (DESIGN CHOICE, entry 53). -/
def moveTarget (b : Bytes) : Option MoveTarget :=
  if present b 1 then
    let i := moveOffset b 1
    some (match bodyU8 b i with
      | 0 => .position (bodyI32 b (i + 1))
      | 1 => .timecode (bodyTime b (i + 1))
      | 2 => .entry (bodyU8 b (i + 4))
      | _ => .nextCue)
  else none

/-- Whether a direction field is right for the kind (R68). -/
def directionOk (b : Bytes) : Bool :=
  match moveKind b with
  | .wind => present b 0 && enumField b (moveOffset b 0) 2
  | .locate | .play | .chase | .hold => !present b 0

/-- Whether a target is right for the kind and valid (R68). -/
def targetOk (p : Profile) (b : Bytes) : Bool :=
  let value := (match moveTarget b with
    | none => true
    | some (.position x) => posOk x
    | some (.timecode t) => (timecodeFrames p t).isSome
    | some (.entry i) => decide (i < 32)
    | some .nextCue => decide (bodyU8 b (moveOffset b 1) = 3) && decide (moveKind b ≠ .locate))
  match moveKind b with
  | .locate => present b 1 && value
  | .wind | .play => value
  | .chase | .hold => !present b 1

/-- Whether a duration is right for the kind and in range (R68). -/
def durationOk (b : Bytes) : Bool :=
  let value := !present b 2 || inRange 1 3600000 (bodyU32 b (moveOffset b 2))
  match moveKind b with
  | .hold => present b 2 && value
  | .wind | .play | .chase => value
  | .locate => !present b 2

/-- Whether a varispeed is present only for PLAY (R68). -/
def variOk (b : Bytes) : Bool := !present b 6 || decide (moveKind b = .play)

/-- Whether a chase offset is present only for CHASE and in range (R68). -/
def offsetOk (p : Profile) (b : Bytes) : Bool :=
  !present b 7 ||
    (decide (moveKind b = .chase) && decide ((bodyI32 b (moveOffset b 7)).natAbs ≤ dayFrames p / 2))

/-- The eleven fields of a move record, judged (R68). -/
def moveFields (p : Profile) (b : Bytes) : List Bool :=
  [true, enumField b 1 5, true, directionOk b, targetOk p b, durationOk b, true, true, true, variOk b, offsetOk p b]

/-- The tension of a kind when a record gives none (R69). -/
def defaultTension (p : Profile) : MoveKind → Nat
  | .wind | .locate => p.windTension
  | .play | .chase => p.playTension
  | .hold => p.stopTension

/-- The record of a valid Submit Move, completed and clamped (R69), in a queue slot, not yet resolved and without a
comparator. -/
def moveRecord (p : Profile) (b : Bytes) (slot : Nat) : MoveRecord where
  slot := slot
  id := b.getD 0 0
  kind := moveKind b
  dir := if present b 0 then some (directionOf (bodyU8 b (moveOffset b 0))) else none
  target := moveTarget b
  resolved := none
  duration := if present b 2 then some (bodyU32 b (moveOffset b 2)) else none
  ceiling := if present b 3 then clampNat p.creep p.shuttle (bodyU32 b (moveOffset b 3)) else p.shuttle
  accel := if present b 4 then clampNat 100 8000 (bodyU16 b (moveOffset b 4)) / 4 * 4 else p.accel
  tension := if present b 5 then clampNat 50 1500 (bodyU16 b (moveOffset b 5)) else defaultTension p (moveKind b)
  vari := if present b 6 then clampInt (-1250) 1250 (bodyI16 b (moveOffset b 6)) else 0
  offset := if present b 7 then bodyI32 b (moveOffset b 7) else 0
  comp := none

/-- Whether a move takes a comparator: a WIND or PLAY with a target that is a place (R71). -/
def MoveRecord.needsComp (r : MoveRecord) : Bool :=
  match r.kind with
  | .wind | .play =>
    match r.target with
    | some (.position _) | some (.timecode _) | some (.entry _) => true
    | some .nextCue | none => false
  | .locate | .chase | .hold => false

/-! ### Zones (R116) -/

/-- The kind with a number: SLOW 0, BARRIER 1, NOTIFY 2. -/
def zoneKindOf : Nat → ZoneKind
  | 0 => .slow
  | 1 => .barrier
  | _ => .notify

/-- The five fields of Set Zone, judged (R116). -/
def zoneFields (b : Bytes) : List Bool :=
  [decide (bodyU8 b 0 < 8), positionField b 1, positionField b 5 && decide (bodyI32 b 1 ≤ bodyI32 b 5), enumField b 9 3,
   if bodyU8 b 9 = 0 then inRange 10000 12000000 (bodyU32 b 10) else decide (bodyU32 b 10 = 0)]

/-- The exit direction a BARRIER takes at its acceptance, toward its nearer edge (R116). -/
def nearerExit (lo hi pos : Int) : Sense :=
  if pos - lo < hi - pos then .reverse else if hi - pos < pos - lo then .forward else .either

/-- The zone of a valid Set Zone, with its containment at a position (R116). -/
def zoneOf (b : Bytes) (pos : Int) : Zone :=
  let lo := bodyI32 b 1
  let hi := bodyI32 b 5
  let kind := zoneKindOf (bodyU8 b 9)
  let inside := decide (lo ≤ pos) && decide (pos ≤ hi)
  { base := lo, limit := hi, kind := kind, ceiling := bodyU32 b 10, contains := inside,
    exit := if inside && decide (kind = .barrier) then some (nearerExit lo hi pos) else none }

/-! ### Cue codes (R145) -/

/-- The first bits of a byte, bit 7 first (R181). -/
def codeBits (n : Nat) (b : Byte) : List Bool := (List.range n).map (fun i => b.getLsbD (7 - i))

/-- Whether a code's bits are not all alike (R145). -/
def codeMixed (c : List Bool) : Bool := c.any id && c.any (fun b => !b)

/-- Whether a code appears as consecutive bits of the endless repetition of another (R145). -/
def appearsIn (a b : List Bool) : Bool :=
  (List.range b.length).any (fun k => (List.range a.length).all (fun i => a.getD i false == b.getD ((k + i) % b.length) false))

/-- The Mark code of a Set Cue Codes body. -/
def bodyMark (b : Bytes) : List Bool := codeBits (bodyU8 b 0) (b.getD 1 0)

/-- The Clear code of a Set Cue Codes body. -/
def bodyClear (b : Bytes) : List Bool := codeBits (bodyU8 b 2) (b.getD 3 0)

/-- The five fields of Set Cue Codes, judged (R145). A Clear code that collides with the Mark code fails as field 4, its bits
(DESIGN CHOICE, entry 64). -/
def cueFields (b : Bytes) : List Bool :=
  [inRange 3 8 (bodyU8 b 0), codeMixed (bodyMark b), inRange 3 8 (bodyU8 b 2),
   codeMixed (bodyClear b) && decide (bodyClear b ≠ bodyMark b) && !(appearsIn (bodyMark b) (bodyClear b)) &&
     !(appearsIn (bodyClear b) (bodyMark b)),
   inRange 4 16 (bodyU8 b 4)]

/-- The three fields of Write Cue, judged (R150). -/
def writeCueFields (b : Bytes) : List Bool :=
  [enumField b 0 2, positionField b 1, positionField b 5 && decide (bodyI32 b 1 < bodyI32 b 5)]

/-! ### Captures (R161) -/

/-- The ten signals, by number (R160). -/
def signalNames : List Signal :=
  [.armTensionL, .armTensionR, .torqueL, .torqueR, .capstanCode, .measuredSpeed, .referenceSpeed, .radiusL, .radiusR,
   .positionLow]

/-- Whether a channel name is a signal or its channel unused (R161). -/
def channelField (b : Bytes) (i : Nat) : Bool := decide (bodyU8 b 2 ≤ i) || enumField b (3 + i) 10

/-- Whether an Arm Capture body is for RING. -/
def armRing (b : Bytes) : Bool := decide (bodyU8 b 0 = 1)

/-- Whether the start or trigger of an Arm Capture body is AT_POSITION. -/
def armAtStart (b : Bytes) : Bool := decide (bodyU8 b 8 = if armRing b then 2 else 1)

/-- Whether the end of an Arm Capture body is AT_POSITION. -/
def armAtEnd (b : Bytes) : Bool := !armRing b && decide (bodyU8 b 14 = 1)

/-- The sixteen fields of Arm Capture, judged; a field the mode and kinds do not use is ignored (R161, entry 29). -/
def armFields (b : Bytes) : List Bool :=
  [enumField b 0 2, flagField b 1, inRange 1 4 (bodyU8 b 2), channelField b 0, channelField b 1, channelField b 2,
   channelField b 3, true, enumField b 8 (if armRing b then 3 else 2), !armAtStart b || positionField b 9,
   !armAtStart b || enumField b 13 3, armRing b || enumField b 14 3, true, !armAtEnd b || positionField b 17,
   !armAtEnd b || enumField b 21 3, true]

/-- The comparators an Arm Capture needs (R161 to R163). -/
def armNeeds (b : Bytes) : Nat := (if armAtStart b then 1 else 0) + (if armAtEnd b then 1 else 0)

/-- The channels of an Arm Capture body. -/
def armChannels (b : Bytes) : List Signal :=
  (List.range (bodyU8 b 2)).map (fun i => signalNames.getD (bodyU8 b (3 + i)) .positionLow)

/-- The capture a valid Arm Capture describes, before its comparators and its state (R161). The settings of the other mode are those
of Capture.idle: a ONE_SHOT capture holds the post-trigger count 1 and post-trigger samples 0, and a RING capture start IMMEDIATE
and end FULL (DESIGN CHOICE, entry 65). -/
def armedCapture (b : Bytes) (l : Link) (lastEvent : Nat) : Capture :=
  let cap := captureCapacity (bodyU8 b 2)
  { Capture.idle lastEvent with
    holder := some l
    mode := if armRing b then .ring else .oneShot
    channels := armChannels b
    decim := clampNat 1 64 (bodyU8 b 7)
    start := if armRing b then .immediate
      else if armAtStart b then .atPosition (bodyI32 b 9) (senseOf (bodyU8 b 13)) else .immediate
    stop := if armRing b then .full
      else match bodyU8 b 14 with
        | 0 => .count (clampNat 1 cap (bodyU16 b 15))
        | 1 => .atPosition (bodyI32 b 17) (senseOf (bodyU8 b 21))
        | _ => .full
    trigger := if armRing b then
        match bodyU8 b 8 with
        | 0 => .command
        | 1 => .fault
        | _ => .atPosition (bodyI32 b 9) (senseOf (bodyU8 b 13))
      else .command
    post := if armRing b then clampNat 1 cap (bodyU16 b 22) else 1 }

/-! ### The remaining bodies -/

/-- The three fields of Set Locate Entry, judged (R17); the last is ignored under CURRENT (DESIGN CHOICE, entry 49). -/
def locateFields (p : Profile) (b : Bytes) : List Bool :=
  [decide (bodyU8 b 0 < 32), enumField b 1 3,
   match bodyU8 b 1 with
   | 1 => positionField b 2
   | 2 => timeField p b 2
   | _ => true]

/-- The report rate a request's rate rounds down to (R185). -/
def reportRate (n : Nat) : Nat := if n < 10 then 0 else if n < 25 then 10 else if n < 50 then 25 else if n < 100 then 50 else 100

end Sys2Proof.Machine
end

