-- ==== Sys2Proof/Machine/Reads.lean ====
section
/-! DEFINITION. The read requests (R16, R21, R46, R65, R88, R113, R127, R143, R154, R165, R167, R178, R184, R186, R191) and the
layout of their replies (R181; the choices it leaves are entry 28). -/

namespace Sys2Proof.Machine

/-! ### Items (R181) -/

/-- Fields that may be absent together, of a total size: a flag, then the fields or FFh bytes. -/
def encOpt (size : Nat) (x : Option Bytes) : Bytes :=
  match x with
  | some b => 1 :: b
  | none => 0 :: List.replicate size 0xFF

/-- The number of a side of a link: DECK 0, SERVICE 1. -/
def linkNum : Link → Nat
  | .deck => 0
  | .service => 1

/-- The number of a sense: FORWARD 0, REVERSE 1, EITHER 2. -/
def senseNum : Sense → Nat
  | .forward => 0
  | .reverse => 1
  | .either => 2

/-- The whole milliseconds since a moment. -/
def State.msSince (s : State) (t : Nat) : Nat := (s.now - t) / Config.msec 1

/-! ### Read Status (R113, R65, R143, R154, R167, R178, R186) -/

/-- The transport state a halt leads to. -/
def HaltDest.state : HaltDest → Transport
  | .stopped => .stopped
  | .unthreaded => .unthreaded

/-- Section 1, transport and moves (R113). The locate phase and direction are sent whenever a locate context stands: under a LOCATE,
in the RETURN of sizing and in a CHASE's seek (DESIGN CHOICE, entry 28). -/
def State.transportSection (s : State) : Bytes :=
  let m := s.motion
  enc1 m.state.num ++
    encOpt 2 (m.sizing.map (fun z => enc1 z.phase.ctorIdx ++ enc1 z.variant.ctorIdx)) ++
    encOpt 2 (m.locate.map (fun l => enc1 l.phase.ctorIdx ++ enc1 (dirNum l.dir))) ++
    encOpt 1 (m.haltPending.map (fun d => enc1 d.state.num)) ++
    enc4 m.vRef ++ enc2 m.aRef ++ enc2 s.accelInForce ++ enc4 s.speed.v ++
    encFlag m.pinchCmd ++ encFlag s.pins.pinchSense ++
    enc4 s.capstan.speed ++ enc2 s.capstan.code ++ enc2 s.capstan.integral ++
    encOpt 2 (m.active.map (fun a => enc1 a.id.toNat ++ enc1 a.kind.ctorIdx))

/-- An arm's part of section 2 (R65). -/
def Arm.bytes (a : Arm) : Bytes :=
  enc4u a.tension ++ enc1 a.state.num ++ enc1 a.slackRun ++ enc1 a.overRun ++ enc1 a.returnRun

/-- The slots of a schedule as their names' numbers. -/
def scheduleBytes (l : List Slot) : Bytes := l.flatMap (fun x => enc1 x.ctorIdx)

/-- Section 2, sensors (R65). Whether the standby watch is active is one byte, which is also the flag byte of the snapshot and the
counters (DESIGN CHOICE, entry 28). -/
def State.sensorSection (s : State) : Bytes :=
  let c := s.conv
  scheduleBytes c.schedule ++ encOpt 16 (c.pendingSchedule.map scheduleBytes) ++ enc1 c.ptr ++
    enc2 c.armL ++ enc2 c.armR ++ enc2 c.curL ++ enc2 c.curR ++ enc2 c.curC ++ enc2 c.supply ++
    enc2 c.codeL ++ enc2 c.codeR ++ enc2 c.codeC ++ s.armL.bytes ++ s.armR.bytes ++
    encOpt 6 (s.watch.map (fun w => enc2 w.snapL ++ enc2 w.snapR ++ enc1 w.cntL ++ enc1 w.cntR))

/-- The seek's part of section 3, given while the chase state is SEEK (R143). -/
def Chase.seekBytes (c : Chase) : Option Bytes :=
  if c.state = .seek then
    c.seek.map (fun k => enc4u k.rendezvous ++ enc4u k.targetFrame ++ enc4 k.targetPos ++ encFlag k.parked)
  else none

/-- Section 3, chase (R143). -/
def State.chaseSection (s : State) : Bytes :=
  let c := s.chase
  encFlag c.present ++ enc1 c.run ++ encTime (c.lastFrame.map (framesTimecode s.profile)) ++
    encOpt 4 (c.lastWord.map (fun t => enc4u (s.msSince t))) ++
    enc1 c.state.num ++ encOpt 1 (c.origin.map (fun o => enc1 o.ctorIdx)) ++ encOpt 4 (c.e.map enc4) ++ enc2 c.c ++
    enc1 c.lock ++ enc1 c.unlock ++ encOpt 13 c.seekBytes

/-- A code as its length and its bits from bit 7 on (R181). -/
def codeBytes (c : List Bool) : Bytes :=
  enc1 c.length ++ enc1 (c.zipIdx.foldl (fun n x => n + (if x.1 then 2 ^ (7 - x.2) else 0)) 0 : Nat)

/-- A detector's part of section 4 (R154). -/
def Detector.bytes (x : Detector) : Bytes := enc1 x.run ++ enc1 x.dist ++ encFlag x.reported

/-- The write context's part of section 4 (R154). -/
def WriteCtx.bytes (w : WriteCtx) : Bytes :=
  enc1 w.kind.ctorIdx ++ enc4 w.start ++ enc4 w.stop ++ enc1 w.startComp ++ enc1 w.stopComp ++ enc1 w.bitIndex ++
    enc4u w.written

/-- Section 4, cue (R154). -/
def State.cueSection (s : State) : Bytes :=
  let c := s.cue
  codeBytes c.mark ++ codeBytes c.clear ++ enc1 c.threshold ++ enc1 (if c.auto then 0 else 1) ++
    enc1 c.hist.length ++ encOpt 1 (if c.hist = [] then none else some (enc1 (dirNum c.histDir))) ++
    c.detMark.bytes ++ c.detClear.bytes ++ enc1 c.gen.ctorIdx ++ encOpt 16 (c.write.map WriteCtx.bytes)

/-- A comparator's part of section 5 (R167). -/
def Comparator.bytes (c : Comparator) : Bytes :=
  enc1 c.user.ctorIdx ++ encOpt 1 (c.slot.map (fun i => enc1 i)) ++ enc4 c.target ++ enc1 (senseNum c.sense) ++
    enc1 c.state.ctorIdx

/-- A position, a sense and a comparator of a capture's start, end or trigger, when it is AT_POSITION. -/
def placeBytes (x : Option (Int × Sense)) (comp : Option Nat) : Bytes :=
  encOpt 5 (x.map (fun y => enc4 y.1 ++ enc1 (senseNum y.2))) ++ encOpt 1 (comp.map (fun i => enc1 i))

/-- A start in section 5. -/
def CapStart.bytes (x : CapStart) (comp : Option Nat) : Bytes :=
  match x with
  | .immediate => enc1 0 ++ placeBytes none comp
  | .atPosition p d => enc1 1 ++ placeBytes (some (p, d)) comp

/-- An end in section 5. -/
def CapEnd.bytes (x : CapEnd) (comp : Option Nat) : Bytes :=
  match x with
  | .count n => enc1 0 ++ encOpt 2 (some (enc2 n)) ++ placeBytes none comp
  | .atPosition p d => enc1 1 ++ encOpt 2 none ++ placeBytes (some (p, d)) comp
  | .full => enc1 2 ++ encOpt 2 none ++ placeBytes none comp

/-- A trigger in section 5. -/
def CapTrigger.bytes (x : CapTrigger) (comp : Option Nat) : Bytes :=
  match x with
  | .command => enc1 0 ++ placeBytes none comp
  | .fault => enc1 1 ++ placeBytes none comp
  | .atPosition p d => enc1 2 ++ placeBytes (some (p, d)) comp

/-- A channel list: its count in one byte and its names; R181 gives a count for the beginning of a reply only (DESIGN CHOICE, entry
28). -/
def channelBytes (l : List Signal) : Bytes := enc1 l.length ++ l.flatMap (fun x => enc1 x.ctorIdx)

/-- The start and end of a ONE_SHOT capture, or the trigger of a RING capture; nothing stands for those of the other mode (DESIGN
CHOICE, entry 65). -/
def Capture.modeBytes (c : Capture) : Bytes :=
  match c.mode with
  | .oneShot => c.start.bytes c.startComp ++ c.stop.bytes c.endComp
  | .ring => c.trigger.bytes c.endComp

/-- Section 5, comparators and capture (R167). The post-trigger count and samples are sent for either mode without a flag byte, so
as 1 and 0 for ONE_SHOT (DESIGN CHOICE, entry 65); a comparator's flag byte is its FREE item too (DESIGN CHOICE, entry 28). -/
def State.captureSection (s : State) : Bytes :=
  let c := s.capture
  s.comps.flatMap (fun x => encOpt 9 (x.map Comparator.bytes)) ++
    enc1 c.state.ctorIdx ++ enc1 (holderNum c.holder) ++ enc1 c.mode.ctorIdx ++ channelBytes c.channels ++ enc1 c.decim ++
    c.modeBytes ++ enc2 c.post ++ enc4u c.taken ++ enc2 c.samples.length ++ enc2 c.postTaken ++
    encOpt 1 (c.reason.map (fun x => enc1 x.num))

/-- The fault kinds of a set, their count first, which R181 gives for the beginning of a reply only (DESIGN CHOICE, entry 28). -/
def faultBytes (l : List FaultKind) : Bytes := enc1 l.length ++ l.flatMap (fun k => enc1 k.num)

/-- The time a running supervision timer has left, in ms (R178). -/
def State.supervisionLeft (s : State) (t : Nat) : Nat :=
  (t + Config.msec s.profile.supervision - s.now) / Config.msec 1

/-- Section 6, faults (R178). The flag byte of a timer's time or of the primary record is the item that tells whether it is stopped
or absent (DESIGN CHOICE, entry 28). -/
def State.faultSection (s : State) : Bytes :=
  let f := s.faults
  faultBytes f.set ++
    encOpt 6 (f.primary.map (fun x => enc1 x.kind.num ++ enc4 x.pos ++ enc1 x.state.num)) ++
    enc1 f.mismL ++ enc1 f.mismR ++ enc1 f.mismC ++ enc1 f.supply ++
    encFlag s.pins.faultL ++ encFlag s.pins.faultR ++ encFlag s.pins.faultC ++ encFlag s.pins.supplyWarning ++
    encFlag s.pins.pinchSense ++
    encOpt 2 (f.slip.map (fun t => enc2 (s.msSince t))) ++
    encOpt 2 (s.motion.brakingTimer.map (fun t => enc2 (s.msSince t))) ++
    encOpt 2 (f.supervision.map (fun t => enc2 (s.supervisionLeft t)))

/-- Section 7, links and profile (R186), as the link that asks sees it: its request stands in its receive queue. The reset-pending
flag is followed by a presence flag of the kind (DESIGN CHOICE, entry 28). -/
def State.linkSection (s : State) (asker : Link) : Bytes :=
  let held := fun (l : Link) => (s.port l).occupancy + (if l = asker then 1 else 0)
  enc1 s.ctl.owner.ctorIdx ++ enc1 (linkNum s.noticeLink) ++
    encFlag s.ctl.resetPending.isSome ++ encOpt 1 (s.ctl.resetPending.map (fun k => enc1 k.ctorIdx)) ++
    enc1 s.ctl.rate ++ enc1 (held .deck) ++ enc1 (held .service) ++ encFlag s.store.invalid ++ encFlag s.store.busy

/-- A section of Read Status (11.4). -/
def State.statusSection (s : State) (n : Nat) (asker : Link) : Bytes :=
  match n with
  | 1 => s.transportSection
  | 2 => s.sensorSection
  | 3 => s.chaseSection
  | 4 => s.cueSection
  | 5 => s.captureSection
  | 6 => s.faultSection
  | _ => s.linkSection asker

/-- READ_STATUS (R113, R65, R143, R154, R167, R178, R186). -/
def execReadStatus (r : Request) (s : State) : Host.Outcome State Fault Refusal :=
  s.request 0x01 r (fun t =>
    t.checked [sized r 1, checkFields [inRange 1 7 (bodyU8 r.body 0)]]
      (t.ok (t.statusSection (bodyU8 r.body 0) r.link)))

/-! ### Read Position, Read Reel Model -/

/-- The reply of Read Position (R21). -/
def State.positionReply (s : State) : Bytes :=
  let p := s.position
  enc4 p.pos ++ enc1 (anchorNum p.anchor) ++ encFlag p.atRest ++ enc4 p.tachL.toInt ++ enc4 p.tachR.toInt ++
    encOpt 8 (p.anchor.map (fun a => enc4 a.pos ++ enc4u a.frame)) ++ encTime (s.timeAt p.pos) ++
    encOpt 4 ((s.subframeAt p.pos).map enc4)

/-- READ_POSITION (R21). -/
def execReadPosition (r : Request) (s : State) : Host.Outcome State Fault Refusal :=
  s.request 0x02 r (fun t => t.checked [sized r 0] (t.ok t.positionReply))

/-- A reel's part of the reply of Read Reel Model (R46). -/
def Reel.bytes (x : Reel) (tach : BitVec 32) : Bytes :=
  enc4u x.rEst ++ enc1 x.conf ++ enc1 x.streak ++
    encOpt 6 (x.window.map (fun w => enc1 (dirNum w.dir) ++ enc1 w.angle ++ enc4 w.roll)) ++
    enc4u x.inertia ++ enc4u x.remaining ++ enc2 x.torque ++ enc2 x.code ++ enc1 x.sat ++ enc4 tach.toInt

/-- The reply of Read Reel Model (R46): the left reel's values, then the right's (DESIGN CHOICE, entry 28). -/
def State.reelReply (s : State) : Bytes :=
  s.reelL.bytes s.position.tachL ++ s.reelR.bytes s.position.tachR ++ enc4 s.speed.v ++
    enc2 (if s.motion.state.braked then 0 else s.speed.aCmd)

/-- READ_REEL_MODEL (R46). -/
def execReadReelModel (r : Request) (s : State) : Host.Outcome State Fault Refusal :=
  s.request 0x03 r (fun t => t.checked [sized r 0] (t.ok t.reelReply))

/-! ### Read Moves (R88) -/

/-- A target as its type and four bytes (11.4); the bytes that an ENTRY and a NEXT_CUE do not use are 0 (DESIGN CHOICE, entry 53).
-/
def MoveTarget.bytes : MoveTarget → Bytes
  | .position p => enc1 0 ++ enc4 p
  | .timecode t => enc1 1 ++ encTime (some t)
  | .entry i => enc1 2 ++ [0, 0, 0] ++ enc1 i
  | .nextCue => enc1 3 ++ [0, 0, 0, 0]

/-- The presence byte of a record as it stands after R69 (11.4). -/
def MoveRecord.presence (r : MoveRecord) : Nat :=
  (if r.dir.isSome then 1 else 0) + (if r.target.isSome then 2 else 0) + (if r.duration.isSome then 4 else 0) + 8 + 16 + 32 +
    (if r.kind = .play then 64 else 0) + (if r.kind = .chase then 128 else 0)

/-- A queued record in the layout of 11.4 with its resolved position, its comparator and the final flags byte (R88), whose bits 0 to
6 are 0 (DESIGN CHOICE, entry 28). -/
def MoveRecord.bytes (r : MoveRecord) : Bytes :=
  enc1 r.id.toNat ++ enc1 r.kind.ctorIdx ++ enc1 r.presence ++
    (r.dir.map (fun d => enc1 (dirNum d))).getD [] ++ (r.target.map MoveTarget.bytes).getD [] ++
    (r.duration.map enc4u).getD [] ++ enc4u r.ceiling ++ enc2 r.accel ++ enc2 r.tension ++
    (if r.kind = .play then enc2 r.vari else []) ++ (if r.kind = .chase then enc4 r.offset else []) ++
    (r.resolved.map enc4).getD (List.replicate 4 0xFF) ++ enc1 (r.comp.getD 255) ++
    enc1 (if r.resolved.isSome then 128 else 0)

/-- The active move context (R75, R88), with its activation and elapsed times in ms. The activation time is counted from the moment
0 of the clock, that of State.reset, which no later reset returns to; the varispeed and the chase offset are always sent, 0 for a
kind that has none (DESIGN CHOICE, entry 28). -/
def State.activeBytes (s : State) (a : ActiveMove) : Bytes :=
  enc1 a.id.toNat ++ enc1 a.kind.ctorIdx ++ encOpt 1 (a.dir.map (fun d => enc1 (dirNum d))) ++ encOpt 4 (a.target.map enc4) ++
    encOpt 1 (a.comp.map (fun i => enc1 i)) ++ enc2 a.accel ++ enc4u a.ceiling ++ enc2 a.tension ++ enc2 a.vari ++
    enc4 a.offset ++ enc4u (a.start / Config.msec 1) ++ enc4u (s.elapsedSince a.start) ++ encFlag a.derated ++
    enc1 a.reversals

/-- The items of a part of Read Moves: queue 0, active move 1, completion list 2 (R88). -/
def State.moveItems (s : State) (part : Nat) : List Bytes :=
  match part with
  | 0 => s.motion.queue.map MoveRecord.bytes
  | 1 => s.motion.active.toList.map s.activeBytes
  | _ => s.motion.completions.map Completion.bytes

/-- A list of items with their number before them (R181). -/
def listed (l : List Bytes) : Bytes := enc1 l.length ++ l.flatten

/-- READ_MOVES (R88). -/
def execReadMoves (r : Request) (s : State) : Host.Outcome State Fault Refusal :=
  s.request 0x04 r (fun t =>
    t.checked [sized r 2, checkFields [enumField r.body 0 3]]
      (t.ok (listed (((t.moveItems (bodyU8 r.body 0)).drop (bodyU8 r.body 1)).take 3))))

/-! ### Read Locate Table, Read Zones -/

/-- An entry of the locate table with its index (R16). -/
def entryBytes (i : Nat) (x : Option LocateEntry) : Bytes :=
  enc1 i ++ encOpt 9 (x.map (fun e => enc1 e.kind.ctorIdx ++ enc4 e.pos ++ encTime e.time))

/-- The entries Read Locate Table lists (R16). -/
def State.locateItems (s : State) (first count : Nat) : List Bytes :=
  (List.range (min 10 (min count (32 - first)))).map (fun k => entryBytes (first + k) (s.position.locate.getD (first + k) none))

/-- READ_LOCATE_TABLE (R16). -/
def execReadLocateTable (r : Request) (s : State) : Host.Outcome State Fault Refusal :=
  s.request 0x05 r (fun t =>
    t.checked [sized r 2, checkFields [decide (bodyU8 r.body 0 < 32)]]
      (t.ok (listed (t.locateItems (bodyU8 r.body 0) (bodyU8 r.body 1)))))

/-- An entry of the zone table (R127). -/
def zoneBytes (x : Option Zone) : Bytes :=
  encOpt 16 (x.map (fun z => enc4 z.base ++ enc4 z.limit ++ enc1 z.kind.ctorIdx ++ enc4u z.ceiling ++ encFlag z.contains ++
    encOpt 1 (z.exit.map (fun e => enc1 (senseNum e)))))

/-- The guard of a direction with its paying reel (R127). -/
def State.guardBytes (s : State) (d : Direction) : Bytes :=
  let r := s.reel (payingReel d)
  encOpt 4 ((s.guard d).map enc4u) ++ enc4u r.remaining ++ enc1 r.conf

/-- A part of Read Zones (R127). -/
def State.zonePart (s : State) (part : Nat) : Bytes :=
  match part with
  | 0 => (s.zones.entries.take 4).flatMap zoneBytes
  | 1 => (s.zones.entries.drop 4).flatMap zoneBytes
  | _ =>
    s.guardBytes .forward ++ s.guardBytes .reverse ++ encOpt 4 (s.zones.ceilF.map enc4u) ++
      encOpt 4 (s.zones.ceilR.map enc4u) ++ encFlag s.zones.descent ++ encFlag s.zones.guardReported

/-- READ_ZONES (R127). -/
def execReadZones (r : Request) (s : State) : Host.Outcome State Fault Refusal :=
  s.request 0x06 r (fun t =>
    t.checked [sized r 1, checkFields [enumField r.body 0 3]] (t.ok (t.zonePart (bodyU8 r.body 0))))

/-! ### Read Capture, Read Profile, Read Events -/

/-- The holder check of the requests that only a holder makes: WRONG_STATE in IDLE takes its place (R164, R165). -/
def State.holds (s : State) (l : Link) : Check :=
  if s.capture.state = .idle then some (.wrongState, []) else check (decide (s.capture.holder = some l)) .notOwner

/-- The values of the capture memory, oldest sample first (R165). -/
def Capture.values (c : Capture) : List Int := c.samples.flatten

/-- The reply of Read Capture (R165): the number of values listed, the items, the values. The post-trigger samples are sent for a
ONE_SHOT capture too, as 0 (DESIGN CHOICE, entry 65). -/
def Capture.reply (c : Capture) (offset count : Nat) : Bytes :=
  let v := (c.values.drop offset).take (min 48 count)
  enc1 v.length ++ enc1 c.mode.ctorIdx ++ channelBytes c.channels ++ enc1 c.decim ++ enc4u c.taken ++ enc2 c.samples.length ++
    enc2 c.postTaken ++ c.reasonByte ++ v.flatMap enc2

/-- READ_CAPTURE (R165). -/
def execReadCapture (r : Request) (s : State) : Host.Outcome State Fault Refusal :=
  s.request 0x07 r (fun t =>
    t.checked [t.holds r.link, sized r 3, checkFields [decide (bodyU16 r.body 0 ≤ t.capture.values.length)],
        check (decide (t.capture.state = .done)) .wrongState]
      (t.ok (t.capture.reply (bodyU16 r.body 0) (bodyU8 r.body 2))))

/-- READ_PROFILE (R191). -/
def execReadProfile (r : Request) (s : State) : Host.Outcome State Fault Refusal :=
  s.request 0x08 r (fun t =>
    t.checked [sized r 0] (t.ok (encFlag t.store.invalid ++ encFlag t.store.busy ++ profileBytes t.profile)))

/-- A latch in Read Events (R184). -/
def latchBytes (x : Option Latch) : Bytes :=
  encOpt 10 (x.map (fun l => enc1 l.count ++ enc4 l.value ++ enc4 l.pos ++ encFlag l.notice))

/-- The mask of a link as it is sent (11.4). -/
def LinkPort.maskBytes (p : LinkPort) : Bytes := enc2 p.mask.toNat

/-- READ_EVENTS (R184). -/
def execReadEvents (r : Request) (s : State) : Host.Outcome State Fault Refusal :=
  s.request 0x09 r (fun t =>
    t.checked [sized r 1, checkFields [enumField r.body 0 2]]
      (t.ok ((t.port r.link).maskBytes ++ (((t.port r.link).latches.drop (8 * bodyU8 r.body 0)).take 8).flatMap latchBytes)))

end Sys2Proof.Machine
end

