-- ==== Sys2Proof/Machine/MoveRequests.lean ====
section
/-! DEFINITION. The requests about motion: Submit Move, Flush Moves, Stop, Size Reels, Enter Standby, Wake, Clear Fault (R67 to
R72, R83, R105, R106, R109, R110, R176). -/

namespace Sys2Proof.Machine

/-! ### Submit Move (R67 to R72) -/

/-- The transport states in which a Submit Move is accepted (R67). -/
def Transport.submits : Transport → Bool
  | .stopped | .winding | .engaging | .playing | .releasing => true
  | .unthreaded | .sizing | .halting | .braking | .fault | .standby => false

/-- The lowest number that no record of the queue has as its slot (entry 42). -/
def freeSlot (q : List MoveRecord) : Nat := ((List.range 16).find? (fun i => q.all (fun r => r.slot ≠ i))).getD 0

/-- The position a TIMECODE target has at the acceptance, when an anchor exists (R72). -/
def State.resolvedAtOnce (s : State) (r : MoveRecord) : Option Int :=
  match r.target with
  | some (.timecode t) => (timecodeFrames s.profile t).bind s.framePos
  | some (.position _) | some (.entry _) | some .nextCue | none => none

/-- A record joining the tail of the queue, with the lowest free comparator when it needs one (R70 to R72). -/
def State.join (s : State) (r : MoveRecord) : State :=
  let comp := if r.needsComp then (freeIndices s.comps).head? else none
  let q := { r with comp := comp, resolved := s.resolvedAtOnce r }
  let s1 := match comp with
    | some i => s.allocMove i r.slot
    | none => s
  { s1 with motion := { s1.motion with queue := s1.motion.queue ++ [q] } }

/-- What an acceptance brings about after the record has joined (R70): a supersession, or an activation in STOPPED. -/
def State.afterJoin (s : State) : State :=
  let s1 := s.supersede
  if s1.motion.state = .stopped ∧ s1.motion.active = none then s1.activate else s1

/-- The record a Submit Move brings, in its slot. -/
def State.submitted (s : State) (body : Bytes) : MoveRecord := moveRecord s.profile body (freeSlot s.motion.queue)

/-- SUBMIT_MOVE (R67 to R72, R79). -/
def execSubmitMove (r : Request) (s : State) : Host.Outcome State Fault Refusal :=
  s.request 0x12 r (fun t =>
    t.checked
      [t.owns r.link, t.noReset, check (moveSized r.body) .badLength, checkFields (moveFields t.profile r.body),
       check t.motion.state.submits .wrongState, check (decide (t.motion.queue.length < 16)) .queueFull,
       check (!(t.submitted r.body).needsComp || !(freeIndices t.comps).isEmpty) .noComparator]
      ((t.join (t.submitted r.body)).afterJoin.settle.ok (enc1 (t.motion.queue.length + 1))))

/-! ### Flush Moves (R83) -/

/-- The records that wait behind the active move; all of them when none is active (entry 23). -/
def State.waiting (s : State) : List MoveRecord :=
  match s.motion.active with
  | some _ => s.motion.queue.drop 1
  | none => s.motion.queue

/-- The waiting records leave, oldest first, and the active move goes on (R83). -/
def State.flushWaiting (s : State) : State :=
  let s1 := s.waiting.foldl State.dropRecord s
  { s1 with motion := { s1.motion with
    queue := match s1.motion.active with
      | some _ => s1.motion.queue.take 1
      | none => [] } }

/-- Every record leaves and the transport comes to rest as after a Stop; with an empty queue nothing happens (R83). -/
def State.flushAll (s : State) : State :=
  match s.motion.queue with
  | [] => s
  | _ :: _ => (s.endAll .aborted).stopTransport

/-- FLUSH_MOVES (R83). -/
def execFlushMoves (r : Request) (s : State) : Host.Outcome State Fault Refusal :=
  s.request 0x13 r (fun t =>
    t.checked [t.owns r.link, t.noReset, sized r 1, checkFields [flagField r.body 0]]
      (if bodyU8 r.body 0 = 1 then t.flushAll.settle.ok (enc1 t.motion.queue.length)
       else t.flushWaiting.ok (enc1 t.waiting.length)))

/-! ### Stop, Size Reels, Enter Standby, Wake -/

/-- STOP (R82, R105): from either link, whatever the ownership and while a reset is pending. -/
def execStop (r : Request) (s : State) : Host.Outcome State Fault Refusal :=
  s.request 0x14 r (fun t => t.checked [sized r 0] (((t.endAll .aborted).stopTransport).settle.ok []))

/-- SIZING entered in THREAD_CHECK with a variant (R106, R110). -/
def State.enterSizing (s : State) (v : SizingVariant) : State :=
  ({ s with motion := { s.motion with
      sizing := some ⟨.threadCheck, v, s.position.pos, s.now, 0⟩, accel := s.profile.accel } }).enter .sizing

/-- Whether Size Reels finds a state that may begin sizing (R106). -/
def State.maySize (s : State) : Bool :=
  decide (s.motion.state = .unthreaded) || (decide (s.motion.state = .stopped) && s.motion.queue.isEmpty)

/-- SIZE_REELS (R106, R32). -/
def execSizeReels (r : Request) (s : State) : Host.Outcome State Fault Refusal :=
  s.request 0x15 r (fun t =>
    t.checked [t.owns r.link, t.noReset, sized r 0, check (!t.store.invalid) .profileInvalid, check t.maySize .wrongState]
      ((t.restartReels.enterSizing .size).settle.ok []))

/-- Whether Enter Standby finds a state that may park (R109). -/
def State.mayPark (s : State) : Bool :=
  decide (s.motion.state = .unthreaded) ||
    (decide (s.motion.state = .stopped) && s.motion.queue.isEmpty && s.position.atRest)

/-- ENTER_STANDBY (R109, R62). -/
def execEnterStandby (r : Request) (s : State) : Host.Outcome State Fault Refusal :=
  s.request 0x16 r (fun t =>
    t.checked [t.owns r.link, t.noReset, sized r 0, check t.mayPark .wrongState] ((t.enter .standby).settle.ok []))

/-- WAKE (R110, R62, R64). -/
def execWake (r : Request) (s : State) : Host.Outcome State Fault Refusal :=
  s.request 0x17 r (fun t =>
    t.checked [t.owns r.link, t.noReset, sized r 0, check (decide (t.motion.state = .standby)) .wrongState]
      ((t.enterSizing .wake).settle.ok []))

/-! ### Clear Fault (R176) -/

/-- The standing condition of a fault kind (R176). -/
def State.stands (s : State) : FaultKind → Bool
  | .driveL => s.pins.faultL || decide (s.faults.mismL = 64)
  | .driveR => s.pins.faultR || decide (s.faults.mismR = 64)
  | .driveC => s.pins.faultC || decide (s.faults.mismC = 64)
  | .supplyLow => s.pins.supplyWarning || decide (s.faults.supply = 16)
  | .overTension => decide (s.armL.state = .over) || decide (s.armR.state = .over)
  | .pinchTimeout => s.pins.pinchSense
  | .tapeBreak | .slackLoop | .radiusLost | .rollerSlip => false

/-- The kinds that remain at a Clear Fault (R176). -/
def State.remaining (s : State) : List FaultKind := s.faults.set.filter s.stands

/-- The set after a Clear Fault, with the reels' estimates started again when it held TAPE_BREAK or RADIUS_LOST (R32, R176). -/
def State.clearKinds (s : State) : State :=
  let s1 := if .tapeBreak ∈ s.faults.set ∨ .radiusLost ∈ s.faults.set then s.restartReels else s
  { s1 with faults := { s1.faults with set := s.remaining } }

/-- What an accepted Clear Fault comes to (R176). -/
def State.clearFault (s : State) : Answer :=
  match s.remaining with
  | [] =>
    let s1 := s.clearKinds
    (({ s1 with faults := { s1.faults with primary := none } }).enter .unthreaded).settle.ok []
  | k :: l => ⟨s.clearKinds, .faultPersists, faultBytes (k :: l), false⟩

/-- CLEAR_FAULT (R176). -/
def execClearFault (r : Request) (s : State) : Host.Outcome State Fault Refusal :=
  s.request 0x18 r (fun t =>
    t.checked [t.owns r.link, t.noReset, sized r 0, check (decide (t.motion.state = .fault)) .wrongState] t.clearFault)

end Sys2Proof.Machine
end

