-- ==== Sys2Proof/Machine/TableRequests.lean ====
section
/-! DEFINITION. The requests about zones, the locate table, the anchor and the sample schedule (R14, R17, R18, R51, R52, R116,
R117). -/

namespace Sys2Proof.Machine

/-- SET_ZONE (R116). -/
def execSetZone (r : Request) (s : State) : Host.Outcome State Fault Refusal :=
  s.request 0x20 r (fun t =>
    t.checked [t.owns r.link, t.noReset, sized r 14, checkFields (zoneFields r.body)]
      (State.ok { t with zones := { t.zones with
        entries := t.zones.entries.set (bodyU8 r.body 0) (some (zoneOf r.body t.position.pos)) } } []))

/-- The zone table with one entry emptied, or all of them under FFh (R117). -/
def clearedZones (l : List (Option Zone)) (i : Nat) : List (Option Zone) :=
  if i = 255 then List.replicate l.length none else l.set i none

/-- CLEAR_ZONE (R117). -/
def execClearZone (r : Request) (s : State) : Host.Outcome State Fault Refusal :=
  s.request 0x21 r (fun t =>
    t.checked [t.owns r.link, t.noReset, sized r 1, checkFields [indexOrAll r.body 0 8]]
      (State.ok { t with zones := { t.zones with entries := clearedZones t.zones.entries (bodyU8 r.body 0) } } []))

/-- The entry a Set Locate Entry stores (R17); none when a timecode cannot be placed, the anchor being NONE. -/
def State.entryFor (s : State) (b : Bytes) : Option LocateEntry :=
  match bodyU8 b 1 with
  | 0 => some ⟨.user, s.position.pos, s.timeAt s.position.pos⟩
  | 1 => some ⟨.user, bodyI32 b 2, s.timeAt (bodyI32 b 2)⟩
  | _ =>
    ((timecodeFrames s.profile (bodyTime b 2)).bind s.framePos).map (fun p => ⟨.user, p, some (bodyTime b 2)⟩)

/-- The locate table with an entry replaced. -/
def State.withEntry (s : State) (i : Nat) (e : Option LocateEntry) : State :=
  { s with position := { s.position with locate := s.position.locate.set i e } }

/-- SET_LOCATE_ENTRY (R17). The body has 6 bytes under every source, CURRENT among them (DESIGN CHOICE, entry 49). -/
def execSetLocateEntry (r : Request) (s : State) : Host.Outcome State Fault Refusal :=
  s.request 0x22 r (fun t =>
    t.checked [t.owns r.link, t.noReset, sized r 6, checkFields (locateFields t.profile r.body),
        check (t.entryFor r.body).isSome .wrongState]
      ((t.withEntry (bodyU8 r.body 0) (t.entryFor r.body)).ok []))

/-- The locate table with one entry emptied, or all of them under FFh (R18). -/
def clearedEntries (l : List (Option LocateEntry)) (i : Nat) : List (Option LocateEntry) :=
  if i = 255 then List.replicate l.length none else l.set i none

/-- CLEAR_LOCATE_ENTRY (R18). -/
def execClearLocateEntry (r : Request) (s : State) : Host.Outcome State Fault Refusal :=
  s.request 0x23 r (fun t =>
    t.checked [t.owns r.link, t.noReset, sized r 1, checkFields [indexOrAll r.body 0 32]]
      (State.ok { t with position := { t.position with
        locate := clearedEntries t.position.locate (bodyU8 r.body 0) } } []))

/-- The anchor set to a frame at the tape position, with every stored timecode recomputed through it (R14). -/
def State.setAnchor (s : State) (f : Nat) : State :=
  let s1 := s.withAnchor ⟨.preset, s.position.pos, f⟩
  { s1 with position := { s1.position with locate := s1.retimed } }

/-- SET_ANCHOR (R14). -/
def execSetAnchor (r : Request) (s : State) : Host.Outcome State Fault Refusal :=
  s.request 0x24 r (fun t =>
    t.checked [t.owns r.link, t.noReset, sized r 4, checkFields [timeField t.profile r.body 0]]
      ((t.setAnchor ((timecodeFrames t.profile (bodyTime r.body 0)).getD 0)).ok []))

/-- The transport states in which a Set Schedule is accepted (R51). -/
def Transport.settable : Transport → Bool
  | .unthreaded | .stopped | .standby | .fault => true
  | .sizing | .winding | .engaging | .playing | .releasing | .halting | .braking => false

/-- SET_SCHEDULE (R50 to R52). -/
def execSetSchedule (r : Request) (s : State) : Host.Outcome State Fault Refusal :=
  s.request 0x25 r (fun t =>
    t.checked [t.owns r.link, t.noReset, sized r 16, checkFields [scheduleField r.body],
        check t.motion.state.settable .wrongState]
      (State.ok { t with conv := { t.conv with pendingSchedule := some (scheduleOf r.body) } } []))

end Sys2Proof.Machine
end

