-- ==== Sys2Proof/Machine/UnitRequests.lean ====
section
/-! DEFINITION. The requests about watches, captures and the cue track (R145, R149, R150, R153, R156, R159, R161 to R164). -/

namespace Sys2Proof.Machine

/-! ### Watches (R159) -/

/-- The lowest free comparator. -/
def State.lowestFree (s : State) : Nat := (freeIndices s.comps).headD 0

/-- WATCH_POSITION (R159). -/
def execWatchPosition (r : Request) (s : State) : Host.Outcome State Fault Refusal :=
  s.request 0x29 r (fun t =>
    t.checked [t.owns r.link, t.noReset, sized r 5, checkFields [positionField r.body 0, enumField r.body 4 3],
        check (!(freeIndices t.comps).isEmpty) .noComparator]
      ((t.setComp t.lowestFree ⟨.watch, none, bodyI32 r.body 0, senseOf (bodyU8 r.body 4), .armed⟩).ok (enc1 t.lowestFree)))

/-- Whether a comparator is allocated to WATCH. -/
def isWatch (x : Option Comparator) : Bool :=
  match x with
  | some c => decide (c.user = .watch)
  | none => false

/-- Every watch freed (R159). -/
def State.freeWatches (s : State) : State := { s with comps := s.comps.map (fun x => if isWatch x then none else x) }

/-- CANCEL_WATCH (R159). By index the reply's number freed is 1. -/
def execCancelWatch (r : Request) (s : State) : Host.Outcome State Fault Refusal :=
  s.request 0x2A r (fun t =>
    t.checked [t.owns r.link, t.noReset, sized r 1, checkFields [indexOrAll r.body 0 4],
        check (decide (bodyU8 r.body 0 = 255) || isWatch (t.comps.getD (bodyU8 r.body 0) none)) .wrongState]
      (if bodyU8 r.body 0 = 255 then t.freeWatches.ok (enc1 (t.comps.countP isWatch))
       else (t.freeComp (some (bodyU8 r.body 0))).ok (enc1 1)))

/-! ### Captures (R161 to R164) -/

/-- The holder check of Arm Capture (R161). -/
def State.mayArm (s : State) (r : Request) : Check :=
  check (decide (s.capture.state = .idle) || decide (s.capture.holder = some r.link) ||
    (decide (r.link = .service) && decide (bodyU8 r.body 1 = 1))) .notOwner

/-- Whether a capture is under way. -/
def CapState.busy : CapState → Bool
  | .armed | .running | .triggered => true
  | .idle | .done => false

/-- Whether an Arm Capture seizes the deck's capture (R161). -/
def State.seizes (s : State) (r : Request) : Bool :=
  decide (r.link = .service) && decide (bodyU8 r.body 1 = 1) && decide (s.capture.holder = some .deck)

/-- The capture that stood given up: a deck's capture seized, or an own one in DONE replaced (R161). -/
def State.giveUpCapture (s : State) (r : Request) : State :=
  if s.seizes r then s.captureIdle.reportTo .deck .ownership 1 s.position.pos else s.captureIdle

/-- A comparator allocated to a capture at the lowest free index (R156, R162, R163), and its index. -/
def State.allocCapture (s : State) (u : CompUser) (p : Int) (d : Sense) (x : CompState) : State × Option Nat :=
  (s.setComp s.lowestFree ⟨u, none, p, d, x⟩, some s.lowestFree)

/-- The start comparator of a capture (R162). -/
def State.takeStartComp (s : State) (c : Capture) : State × Option Nat :=
  match c.mode, c.start with
  | .oneShot, .atPosition p d => s.allocCapture .captureStart p d .armed
  | _, _ => (s, none)

/-- The end comparator of a capture: UNARMED for a ONE_SHOT end, ARMED for a RING trigger (R162, R163). -/
def State.takeEndComp (s : State) (c : Capture) : State × Option Nat :=
  match c.mode, c.stop, c.trigger with
  | .oneShot, .atPosition p d, _ => s.allocCapture .captureEnd p d .unarmed
  | .ring, _, .atPosition p d => s.allocCapture .captureEnd p d .armed
  | _, _, _ => (s, none)

/-- A new capture begun (R161 to R163): a start AT_POSITION waits in ARMED, every other enters RUNNING. -/
def State.beginCapture (s : State) (c : Capture) : State :=
  let a := s.takeStartComp c
  let b := a.1.takeEndComp c
  let s1 := { b.1 with capture := { c with state := .armed, startComp := a.2, endComp := b.2 } }
  match a.2 with
  | some _ => s1
  | none => s1.captureRun

/-- ARM_CAPTURE (R161 to R163). -/
def execArmCapture (r : Request) (s : State) : Host.Outcome State Fault Refusal :=
  s.request 0x30 r (fun t =>
    t.checked [t.mayArm r, t.noReset, sized r 24, checkFields (armFields r.body),
        check (!(decide (t.capture.holder = some r.link) && t.capture.state.busy)) .busy,
        check (decide (armNeeds r.body ≤ (freeIndices (t.giveUpCapture r).comps).length)) .noComparator]
      (((t.giveUpCapture r).beginCapture (armedCapture r.body r.link t.capture.lastEvent)).ok []))

/-- A Trigger Capture of the holder (R162, R163, R164). -/
def State.triggerCapture (s : State) : State :=
  match s.capture.mode, s.capture.state with
  | .oneShot, .armed =>
    let s1 := s.captureRun
    { s1 with capture := { s1.capture with startComp := none } }.freeComp s1.capture.startComp
  | .ring, .running => s.captureTrigger
  | _, _ => s

/-- TRIGGER_CAPTURE (R164). -/
def execTriggerCapture (r : Request) (s : State) : Host.Outcome State Fault Refusal :=
  s.request 0x31 r (fun t =>
    t.checked [t.holds r.link, t.noReset, sized r 0, check (decide (t.capture.state ≠ .done)) .wrongState]
      (t.triggerCapture.ok []))

/-- ABORT_CAPTURE (R164). -/
def execAbortCapture (r : Request) (s : State) : Host.Outcome State Fault Refusal :=
  s.request 0x32 r (fun t =>
    t.checked [t.holds r.link, t.noReset, sized r 0]
      (State.ok (if t.capture.state.busy then t.captureDone .aborted else t) []))

/-- RELEASE_CAPTURE (R164). -/
def execReleaseCapture (r : Request) (s : State) : Host.Outcome State Fault Refusal :=
  s.request 0x33 r (fun t => t.checked [t.holds r.link, t.noReset, sized r 0] (t.captureIdle.ok []))

/-! ### The cue track (R145, R149, R150, R153) -/

/-- SET_CUE_CODES (R145). -/
def execSetCueCodes (r : Request) (s : State) : Host.Outcome State Fault Refusal :=
  s.request 0x34 r (fun t =>
    t.checked [t.owns r.link, t.noReset, sized r 5, checkFields (cueFields r.body),
        check (decide (t.cue.gen = .idle)) .busy]
      (State.ok { t with cue := { t.cue.clearDetection with
        mark := bodyMark r.body, clear := bodyClear r.body, threshold := bodyU8 r.body 4 } } []))

/-- SET_AUTO_CUE (R149): ON 0, OFF 1. -/
def execSetAutoCue (r : Request) (s : State) : Host.Outcome State Fault Refusal :=
  s.request 0x35 r (fun t =>
    t.checked [t.owns r.link, t.noReset, sized r 1, checkFields [enumField r.body 0 2]]
      (State.ok { t with cue := { t.cue with auto := decide (bodyU8 r.body 0 = 0) } } []))

/-- The code a Write Cue names, and its bits as they stand (R150). -/
def CueUnit.codeFor (c : CueUnit) (n : Nat) : CueKind × List Bool := if n = 0 then (.mark, c.mark) else (.clear, c.clear)

/-- The write of a Write Cue armed, with its two comparators (R150). -/
def State.armWrite (s : State) (b : Bytes) : State :=
  let lo := bodyI32 b 1
  let hi := bodyI32 b 5
  let code := s.cue.codeFor (bodyU8 b 0)
  let i := s.lowestFree
  let s1 := s.setComp i ⟨.cueStart, none, lo, .forward, .armed⟩
  let j := s1.lowestFree
  let s2 := s1.setComp j ⟨.cueStop, none, hi, .forward, .armed⟩
  { s2 with cue := { s2.cue with gen := .armed, write := some ⟨code.1, code.2, lo, hi, i, j, 0, 0⟩ } }

/-- WRITE_CUE (R150, R151). -/
def execWriteCue (r : Request) (s : State) : Host.Outcome State Fault Refusal :=
  s.request 0x36 r (fun t =>
    t.checked [t.owns r.link, t.noReset, sized r 9, checkFields (writeCueFields r.body),
        check (decide (t.motion.state = .playing) || decide (t.motion.state = .stopped)) .wrongState,
        check (decide (t.cue.gen = .idle)) .busy, check (decide (2 ≤ (freeIndices t.comps).length)) .noComparator]
      ((t.armWrite r.body).tryCueWrite.ok []))

/-- CANCEL_CUE_WRITE (R153). -/
def execCancelCueWrite (r : Request) (s : State) : Host.Outcome State Fault Refusal :=
  s.request 0x37 r (fun t => t.checked [t.owns r.link, t.noReset, sized r 0] ((t.endCueWrite 4).ok []))

end Sys2Proof.Machine
end

