-- ==== Sys2Proof/Machine/LinkRequests.lean ====
section
/-! DEFINITION. The requests about ownership, events, reports, the profile and resets (R15, R33, R59, R115, R128, R184 to R188,
R192, R193). -/

namespace Sys2Proof.Machine

/-! ### Ownership (R186, R187) -/

/-- A change of the ownership (R185, R186): a running supervision timer restarts for the new owner, or stops with none
(entry 33), and an unsent report of the old notice link is dropped. -/
def State.withOwner (s : State) (o : Owner) : State :=
  let s1 := { s with
    ctl := { s.ctl with owner := o }
    faults := { s.faults with
      supervision := if o = .free then none else s.faults.supervision.map (fun _ => s.now) } }
  if s.noticeLink = s1.noticeLink then s1
  else s1.withPort s.noticeLink { s1.port s.noticeLink with report := none }

/-- A seizure of the transport (R187). -/
def State.seize (s : State) : State :=
  let s1 := ((s.withOwner .service).endAll .aborted).stopTransport
  (s1.reportTo .deck .ownership 0 s1.position.pos).settle

/-- What an accepted claim comes to (R186). -/
def State.claim (s : State) (l : Link) : State :=
  match s.ctl.owner, l with
  | .free, .deck => s.withOwner .deck
  | .free, .service => s.withOwner .service
  | .deck, .service => s.seize
  | .deck, .deck | .service, _ => s

/-- Whether a claim is accepted (R186). -/
def State.mayClaim (s : State) (l : Link) (seize : Bool) : Bool :=
  match s.ctl.owner, l with
  | .free, _ | .deck, .deck | .service, .service => true
  | .deck, .service => seize
  | .service, .deck => false

/-- CLAIM_TRANSPORT (R186, R187). -/
def execClaimTransport (r : Request) (s : State) : Host.Outcome State Fault Refusal :=
  s.request 0x10 r (fun t =>
    t.checked [t.noReset, sized r 1, checkFields [flagField r.body 0],
        check (t.mayClaim r.link (decide (bodyU8 r.body 0 = 1))) .notOwner]
      ((t.claim r.link).ok (enc1 (t.claim r.link).ctl.owner.ctorIdx)))

/-- RELEASE_TRANSPORT (R186). -/
def execReleaseTransport (r : Request) (s : State) : Host.Outcome State Fault Refusal :=
  s.request 0x11 r (fun t =>
    t.checked [t.noReset, sized r 0, t.owns r.link, check (t.motion.queue.isEmpty && t.position.atRest) .wrongState]
      ((t.withOwner .free).ok []))

/-! ### Events (R184) -/

/-- A link with a new mask, FAULT added (R184). -/
def LinkPort.withMask (p : LinkPort) (m : Nat) : LinkPort := { p with mask := BitVec.ofNat 16 m ||| 1 }

/-- SET_EVENT_MASK (R184). -/
def execSetEventMask (r : Request) (s : State) : Host.Outcome State Fault Refusal :=
  s.request 0x26 r (fun t =>
    let p := (t.port r.link).withMask (bodyU16 r.body 0)
    t.checked [t.noReset, sized r 2] ((t.withPort r.link p).ok p.maskBytes))

/-- A latch table with the named latches cleared (R184). -/
def acknowledged (l : List (Option Latch)) (m : Nat) : List (Option Latch) :=
  l.zipIdx.map (fun x => if m.testBit x.2 then none else x.1)

/-- ACKNOWLEDGE_EVENTS (R184). -/
def execAcknowledgeEvents (r : Request) (s : State) : Host.Outcome State Fault Refusal :=
  s.request 0x27 r (fun t =>
    t.checked [t.noReset, sized r 2]
      ((t.withPort r.link { t.port r.link with latches := acknowledged (t.port r.link).latches (bodyU16 r.body 0) }).ok []))

/-! ### Position reports (R185) -/

/-- A report rate put in force; an off rate drops the pending report (R185). -/
def State.withRate (s : State) (n : Nat) : State :=
  let s1 := { s with ctl := { s.ctl with rate := n, lastReport := s.now } }
  if n = 0 then { s1 with deck := { s1.deck with report := none }, service := { s1.service with report := none } } else s1

/-- SET_REPORT_RATE (R185). -/
def execSetReportRate (r : Request) (s : State) : Host.Outcome State Fault Refusal :=
  s.request 0x28 r (fun t =>
    t.checked [t.noReset, sized r 1, check (decide (t.noticeLink = r.link)) .notOwner]
      ((t.withRate (reportRate (bodyU8 r.body 0))).ok (enc1 (reportRate (bodyU8 r.body 0)))))

/-! ### Write Profile (R15, R33, R59, R115, R128, R192, R193) -/

/-- Whether the mapping of the anchor changes (R15). -/
def mappingChanged (p q : Profile) : Bool :=
  decide (p.rate ≠ q.rate) || decide (p.vPlay ≠ q.vPlay) || decide (p.cRoll ≠ q.cRoll)

/-- The Position Unit under a new profile (R15). -/
def PositionUnit.reprofiled (u : PositionUnit) (p q : Profile) : PositionUnit :=
  if mappingChanged p q then
    { u with
      anchor := none
      chain := ⟨0, 0, .forward⟩
      locate := u.locate.map (fun x => x.map (fun e => { e with time := none })) }
  else u

/-- Whether the fields change that start the reels' estimates again (R33). -/
def reelsChanged (p q : Profile) : Bool :=
  decide (p.rHub ≠ q.rHub) || decide (p.rFlange ≠ q.rFlange) || decide (p.cRoll ≠ q.cRoll) ||
    decide (p.jHub ≠ q.jHub) || decide (p.kPack ≠ q.kPack)

/-- A reel under a new profile (R33 to R35). -/
def Reel.reprofiled (r : Reel) (p q : Profile) : Reel :=
  if reelsChanged p q then r.restart q
  else r.estimate q (if r.conf = 0 ∧ p.rSizing ≠ q.rSizing then q.rSizing else r.rEst)

/-- Whether a detector or calibration field of the arms changes (R59). -/
def detectorsChanged (p q : Profile) : Bool :=
  decide (p.slackAt ≠ q.slackAt) || decide (p.overAt ≠ q.overAt) || decide (p.hysteresis ≠ q.hysteresis) ||
    decide (p.nSlack ≠ q.nSlack) || decide (p.nOver ≠ q.nOver) || decide (p.nClear ≠ q.nClear) ||
    decide (p.restL ≠ q.restL) || decide (p.gainL ≠ q.gainL) || decide (p.restR ≠ q.restR) || decide (p.gainR ≠ q.gainR)

/-- An arm under a new profile (R59). -/
def Arm.reprofiled (a : Arm) (p q : Profile) : Arm :=
  if detectorsChanged p q then { a with slackRun := 0, overRun := 0, returnRun := 0 } else a

/-- A new working copy in force with what the chapters have follow (R15, R33, R59, R115, R128), and the store write begun
(R193). -/
def State.writeProfile (s : State) (b : Bytes) : State :=
  let p := s.profile
  let q := profileOfBytes b
  State.reformGuards { s with
    profile := q
    store := { s.store with bytes := b, check := none, busy := true }
    position := s.position.reprofiled p q
    reelL := s.reelL.reprofiled p q
    reelR := s.reelR.reprofiled p q
    armL := s.armL.reprofiled p q
    armR := s.armR.reprofiled p q
    chase := s.chase.reprofiled p q }

/-- Whether a Write Profile finds a state that takes it (R192). -/
def State.mayReprofile (s : State) : Bool :=
  match s.motion.state with
  | .unthreaded | .standby | .fault => true
  | .stopped => s.motion.queue.all (fun r => decide (r.kind ≠ .chase))
  | .sizing | .winding | .engaging | .playing | .releasing | .halting | .braking => false

/-- WRITE_PROFILE (R192, R193). -/
def execWriteProfile (r : Request) (s : State) : Host.Outcome State Fault Refusal :=
  s.request 0x3C r (fun t =>
    t.checked [t.owns r.link, t.noReset, sized r 110, checkFields (profileChecks (profileOfBytes r.body)),
        check t.mayReprofile .wrongState, check (!t.store.busy) .busy]
      ((t.writeProfile r.body).ok []))

/-! ### Reset Part (R188) -/

/-- Whether a link may reset the part (R188). -/
def State.mayReset (s : State) (l : Link) : Bool :=
  match l with
  | .deck => decide (s.ctl.owner ≠ .service)
  | .service => true

/-- A reset deferred behind a halt (R188). -/
def State.deferReset (s : State) (l : Link) : State :=
  ((({ s with ctl := { s.ctl with resetPending := some (Link.resetKind l) } }).endAll .halted).stopTransport).settle

/-- What an accepted Reset Part comes to (R188): at rest the reset follows its reply, else it is deferred. -/
def State.resetPart (s : State) (l : Link) : Answer :=
  if s.position.atRest then ⟨s, .ok, [], true⟩ else (s.deferReset l).ok []

/-- RESET_PART (R188). -/
def execResetPart (r : Request) (s : State) : Host.Outcome State Fault Refusal :=
  s.request 0x3D r (fun t =>
    t.checked [t.noReset, sized r 0, check (t.mayReset r.link) .notOwner] (t.resetPart r.link))

end Sys2Proof.Machine
end

