-- ==== Sys2Proof/Machine/Dispatch.lean ====
section
/-! DEFINITION. The one meaning of every command: one arm for each constructor of `Instr`. -/

namespace Sys2Proof.Machine

/-- The effect of a command on everything but the queue of waiting commands. -/
def exec (i : Instr) (s : State) : Host.Outcome State Fault Refusal :=
  match i with
  | .powerOn => Sys2Proof.Machine.execPowerOn s
  | .resetLine => Sys2Proof.Machine.execResetLine s
  | .settlePeriodEnd => Sys2Proof.Machine.execSettlePeriodEnd s
  | .profileLoadDone => Sys2Proof.Machine.execProfileLoadDone s
  | .rollerCount d => Sys2Proof.Machine.execRollerCount d s
  | .reelCount r d => Sys2Proof.Machine.execReelCount r d s
  | .capstanCount d => Sys2Proof.Machine.execCapstanCount d s
  | .windowTimeout r => Sys2Proof.Machine.execWindowTimeout r s
  | .restTimerExpiry => Sys2Proof.Machine.execRestTimerExpiry s
  | .tapeTimecodeWord w rev => Sys2Proof.Machine.execTapeTimecodeWord w rev s
  | .conversionComplete raw => Sys2Proof.Machine.execConversionComplete raw s
  | .driveFaultInput m asserted => Sys2Proof.Machine.execDriveFaultInput m asserted s
  | .supplyWarningInput asserted => Sys2Proof.Machine.execSupplyWarningInput asserted s
  | .reelServoUpdate => Sys2Proof.Machine.execReelServoUpdate s
  | .rollerSlipTimeout => Sys2Proof.Machine.execRollerSlipTimeout s
  | .referenceUpdate => Sys2Proof.Machine.execReferenceUpdate s
  | .capstanUpdate => Sys2Proof.Machine.execCapstanUpdate s
  | .pinchEngagedSense engaged => Sys2Proof.Machine.execPinchEngagedSense engaged s
  | .pinchTimeout => Sys2Proof.Machine.execPinchTimeout s
  | .durationExpiry => Sys2Proof.Machine.execDurationExpiry s
  | .threadCheckTimeout => Sys2Proof.Machine.execThreadCheckTimeout s
  | .measureTimeout => Sys2Proof.Machine.execMeasureTimeout s
  | .brakingTimeout => Sys2Proof.Machine.execBrakingTimeout s
  | .supervisionExpiry => Sys2Proof.Machine.execSupervisionExpiry s
  | .referenceWord w rev => Sys2Proof.Machine.execReferenceWord w rev s
  | .lossTimerExpiry => Sys2Proof.Machine.execLossTimerExpiry s
  | .freewheelExpiry => Sys2Proof.Machine.execFreewheelExpiry s
  | .cueBit b => Sys2Proof.Machine.execCueBit b s
  | .captureSampleEvent => Sys2Proof.Machine.execCaptureSampleEvent s
  | .positionReportPeriod => Sys2Proof.Machine.execPositionReportPeriod s
  | .frameReceived l kind tag body => Sys2Proof.Machine.execFrameReceived l kind tag body s
  | .frameGapTimeout l => Sys2Proof.Machine.execFrameGapTimeout l s
  | .transmitDone l => Sys2Proof.Machine.execTransmitDone l s
  | .deferredReset => Sys2Proof.Machine.execDeferredReset s
  | .profileWriteDone => Sys2Proof.Machine.execProfileWriteDone s
  | .unknownKind kind r => Sys2Proof.Machine.execUnknownKind kind r s
  | .readStatus r => Sys2Proof.Machine.execReadStatus r s
  | .readPosition r => Sys2Proof.Machine.execReadPosition r s
  | .readReelModel r => Sys2Proof.Machine.execReadReelModel r s
  | .readMoves r => Sys2Proof.Machine.execReadMoves r s
  | .readLocateTable r => Sys2Proof.Machine.execReadLocateTable r s
  | .readZones r => Sys2Proof.Machine.execReadZones r s
  | .readCapture r => Sys2Proof.Machine.execReadCapture r s
  | .readProfile r => Sys2Proof.Machine.execReadProfile r s
  | .readEvents r => Sys2Proof.Machine.execReadEvents r s
  | .claimTransport r => Sys2Proof.Machine.execClaimTransport r s
  | .releaseTransport r => Sys2Proof.Machine.execReleaseTransport r s
  | .submitMove r => Sys2Proof.Machine.execSubmitMove r s
  | .flushMoves r => Sys2Proof.Machine.execFlushMoves r s
  | .stop r => Sys2Proof.Machine.execStop r s
  | .sizeReels r => Sys2Proof.Machine.execSizeReels r s
  | .enterStandby r => Sys2Proof.Machine.execEnterStandby r s
  | .wake r => Sys2Proof.Machine.execWake r s
  | .clearFault r => Sys2Proof.Machine.execClearFault r s
  | .setZone r => Sys2Proof.Machine.execSetZone r s
  | .clearZone r => Sys2Proof.Machine.execClearZone r s
  | .setLocateEntry r => Sys2Proof.Machine.execSetLocateEntry r s
  | .clearLocateEntry r => Sys2Proof.Machine.execClearLocateEntry r s
  | .setAnchor r => Sys2Proof.Machine.execSetAnchor r s
  | .setSchedule r => Sys2Proof.Machine.execSetSchedule r s
  | .setEventMask r => Sys2Proof.Machine.execSetEventMask r s
  | .acknowledgeEvents r => Sys2Proof.Machine.execAcknowledgeEvents r s
  | .setReportRate r => Sys2Proof.Machine.execSetReportRate r s
  | .watchPosition r => Sys2Proof.Machine.execWatchPosition r s
  | .cancelWatch r => Sys2Proof.Machine.execCancelWatch r s
  | .armCapture r => Sys2Proof.Machine.execArmCapture r s
  | .triggerCapture r => Sys2Proof.Machine.execTriggerCapture r s
  | .abortCapture r => Sys2Proof.Machine.execAbortCapture r s
  | .releaseCapture r => Sys2Proof.Machine.execReleaseCapture r s
  | .setCueCodes r => Sys2Proof.Machine.execSetCueCodes r s
  | .setAutoCue r => Sys2Proof.Machine.execSetAutoCue r s
  | .writeCue r => Sys2Proof.Machine.execWriteCue r s
  | .cancelCueWrite r => Sys2Proof.Machine.execCancelCueWrite r s
  | .writeProfile r => Sys2Proof.Machine.execWriteProfile r s
  | .resetPart r => Sys2Proof.Machine.execResetPart r s
  | .resetInputRelease => Sys2Proof.Machine.execResetInputRelease s
  | .byteReceived l b stopBit => Sys2Proof.Machine.execByteReceived l b stopBit s

end Sys2Proof.Machine
end

