-- ==== Sys2Proof/Safety.lean ====
section
/-! DEFINITION. The words in which claims are stated: when nothing more is due of itself, when a link takes a request, what its
answer is, and the invariants of the part (what no command, in whatever order, may break). -/

namespace Sys2Proof.Machine

/-! ### Standing reactions -/

/-- Nothing more is due of itself: no standing condition of R73, R96, R99, R100, R102 to R104, R106 to R108, R171 and R175 calls
for a reaction, and the capstan loop is running or idle as R102 gives. -/
def State.Settled (s : State) : Prop := s.react = none ∧ s.syncLoop = s

/-! ### Requests (R180) -/

/-- The request's frame is the one its link processes now, and the link is left at `t`: its body is at most 120 bytes, the
receivers take frames, and it is the oldest unprocessed frame, or comes with none before it (entry 9). -/
def State.Takes (s : State) (kind : Byte) (r : Request) (t : State) : Prop :=
  r.body.length ≤ maxBody ∧ s.takeFrame kind r = (t, true)

/-- The link may make the requests that bear on motion: it owns the transport and no reset is pending (R180, checks 1 and 2). -/
def State.Grants (s : State) (l : Link) : Prop := s.ctl.owner = Link.owner l ∧ s.ctl.resetPending = none

/-- The state with the answer to a request among its link's pending replies: the request's kind plus 80h, its tag, the status
and what follows it (R180); an idle transmitter then takes what waits for it (R182). -/
def State.answered (s : State) (kind : Byte) (r : Request) (st : Status) (data : Bytes) : State :=
  (s.reply r.link ⟨⟨kind + 0x80, r.tag, st.code :: data⟩, false⟩).handOver

/-- The kinds of the requests that bear on motion (R180). -/
def motionKinds : List Byte :=
  [0x12, 0x13, 0x15, 0x16, 0x17, 0x18, 0x20, 0x21, 0x22, 0x23, 0x24, 0x25, 0x29, 0x2A, 0x34, 0x35, 0x36, 0x37, 0x3C]

/-- The kinds of the reads, and of Stop, which a pending reset does not refuse (R180). -/
def readKinds : List Byte := [0x01, 0x02, 0x03, 0x04, 0x05, 0x06, 0x07, 0x08, 0x09]

/-- The kinds of the requests that a capture's holder alone may make (R161, R164, R165). -/
def captureKinds : List Byte := [0x07, 0x30, 0x31, 0x32, 0x33]

/-- The other kinds that a pending reset refuses (R184, R185, R186, R188). -/
def sharedKinds : List Byte := [0x10, 0x11, 0x26, 0x27, 0x28, 0x3D]

/-- The body lengths that the message table's fields declare (11.4); Submit Move's depends on its presence byte. -/
def bodyLengths : List (Byte × Nat) :=
  [(0x01, 1), (0x02, 0), (0x03, 0), (0x04, 2), (0x05, 2), (0x06, 1), (0x07, 3), (0x08, 0), (0x09, 1), (0x10, 1), (0x11, 0),
   (0x13, 1), (0x14, 0), (0x15, 0), (0x16, 0), (0x17, 0), (0x18, 0), (0x20, 14), (0x21, 1), (0x22, 6), (0x23, 1), (0x24, 4)] ++
  [(0x25, 16), (0x26, 2), (0x27, 2), (0x28, 1), (0x29, 5), (0x2A, 1), (0x30, 24), (0x31, 0), (0x32, 0), (0x33, 0), (0x34, 5),
   (0x35, 1), (0x36, 9), (0x37, 0), (0x3C, 110), (0x3D, 0)]

/-! ### Moves and events -/

/-- Both arms are NORMAL and no fault is latched: nothing outside the moves themselves acts on the transport. -/
def State.Calm (s : State) : Prop := s.armL.state = .normal ∧ s.armR.state = .normal ∧ s.faults.set = []

/-- The completion record of an active move that ends with a result, `n` records being discarded behind it (R80, R81). -/
def State.recordFor (s : State) (r : MoveRecord) (a : ActiveMove) (res : MoveResult) (n : Nat) : Completion :=
  ⟨r.id, res, s.position.pos, s.timeAt s.position.pos, min 4294967295 ((s.now - a.start) / 8000), a.derated, n, false⟩

/-- A reporting leaves the event in the notice link's table (R183). -/
def State.Reported (t s : State) (src : Source) (value : Int) : Prop :=
  t.port s.noticeLink = (s.port s.noticeLink).offer src value s.position.pos

/-! ### Invariants -/

/-- Nothing waits for a link's transmitter: no Start-up Notice, reply, pending event or position report, and on the notice link
no completion record (R182, R189). -/
structure State.NothingWaits (s : State) (l : Link) : Prop where
  notice      : (s.port l).notice = none
  replies     : (s.port l).replies = []
  completions : s.noticeLink = l → s.motion.completions = []
  latches     : ∀ x, some x ∈ (s.port l).latches → x.notice = false
  report      : (s.port l).report = none

/-- The tables and lists have the sizes their chapters give them (1.1.1, 2.1, 3.1, R50, R66, R85, 5.1, 6.1, 8.1, 9.1, 9.4,
11.1), and in a running part nothing waits for a transmitter that is idle (R182). -/
structure State.TablesWf (s : State) : Prop where
  locate      : s.position.locate.length = 32
  zones       : s.zones.entries.length = 8
  comps       : s.comps.length = 4
  latchesD    : s.deck.latches.length = 16
  latchesS    : s.service.latches.length = 16
  framesD     : s.deck.occupancy ≤ 4
  framesS     : s.service.occupancy ≤ 4
  queue       : s.motion.queue.length ≤ 16
  completions : s.motion.completions.length ≤ 16
  rollerHist  : s.speed.hist.length = 32
  capstanHist : s.capstan.hist.length = 32
  schedule    : s.conv.schedule.length = 16
  waiting     : ∀ l, s.conv.pendingSchedule = some l → l.length = 16
  slot        : s.conv.ptr < 16
  cueHist     : s.cue.hist.length ≤ 8
  channels    : s.capture.state ≠ .idle → 1 ≤ s.capture.channels.length ∧ s.capture.channels.length ≤ 4
  samples     : s.capture.samples.length ≤ captureCapacity s.capture.channels.length
  arbiter     : s.startup.phase = .running → ∀ l, (s.port l).sending = none → s.NothingWaits l

/-- What a braked state means (5.1, R23, R42, R90, R92, R112): brakes engaged, drives and reference at 0, no window open, the
capstan loop idle, no halt pending. -/
structure State.Braked (s : State) : Prop where
  codeL    : s.reelL.code = 0
  codeR    : s.reelR.code = 0
  torqueL  : s.reelL.torque = 0
  torqueR  : s.reelR.torque = 0
  satL     : s.reelL.sat = 0
  satR     : s.reelR.sat = 0
  windowL  : s.reelL.window = none
  windowR  : s.reelR.window = none
  capstan  : s.capstan.code = 0
  integral : s.capstan.integral = 0
  loop     : s.capstan.running = false
  vRef     : s.motion.vRef = 0
  aRef     : s.motion.aRef = 0
  pending  : s.motion.haltPending = none

/-- The outputs follow the transport state (R41, R42, R90, R102, R103): the brakes are released in exactly the driven states, the
pinch is commanded engaged in ENGAGING, in PLAYING and in a HALTING entered from PLAYING until its release begins, and in no other
state, a braked state has its drives at 0, and every drive code lies in −2047 to +2047. -/
structure State.OutputsOk (s : State) : Prop where
  brakes  : s.motion.brakeRelease = !s.motion.state.braked
  pinch   : s.motion.pinchCmd = true → s.motion.state = .engaging ∨ s.motion.state = .playing ∨
    (s.motion.state = .halting ∧ ∃ h, s.motion.halt = some h ∧ h.fromPlaying = true)
  engaged : s.motion.state = .engaging ∨ s.motion.state = .playing → s.motion.pinchCmd = true
  held    : ∀ h, s.motion.state = .halting → s.motion.halt = some h → h.fromPlaying = true → h.pinchDone = false →
    s.motion.pinchTimer = none → s.motion.pinchCmd = true
  braked  : s.motion.state.braked = true → s.Braked
  codeL   : s.reelL.code.natAbs ≤ 2047
  codeR   : s.reelR.code.natAbs ≤ 2047
  capstan : s.capstan.code.natAbs ≤ 2047

/-- The transport states in which a move may be in the queue (R67, R83, R96, R112). -/
def Transport.holdsMoves : Transport → Bool
  | .stopped | .winding | .engaging | .playing | .releasing => true
  | .unthreaded | .sizing | .halting | .braking | .fault | .standby => false

/-- The contexts stand only in the states they belong to, the active move is the oldest record, and a halt is pending only in a
pinch transition with no move active (R66, R67, R83, 5.1, R96, R174). While a fault kind is latched the transport is HALTING,
BRAKING or FAULT and the queue is empty. A locate context stands in sizing RETURN, or under a LOCATE or a CHASE whose seek is not
parked, in WINDING or in a pinch transition on the way there (R95, R98, R107, R134, R135); a seek context stands under a CHASE alone
(R134, R141). -/
structure State.MovesOk (s : State) : Prop where
  active   : ∀ a, s.motion.active = some a → ∃ r rest, s.motion.queue = r :: rest ∧ a.id = r.id ∧ a.kind = r.kind
  queue    : s.motion.queue ≠ [] → s.motion.state.holdsMoves = true
  sizing   : s.motion.sizing.isSome = true → s.motion.state = .sizing
  halting  : s.motion.halt.isSome = true ↔ s.motion.state = .halting
  pending  : s.motion.haltPending.isSome = true → s.motion.state = .engaging ∨ s.motion.state = .releasing
  dropped  : s.motion.haltPending.isSome = true → s.motion.active = none
  braking  : s.motion.brakingTimer.isSome = true → s.motion.state = .braking
  pinch    : s.motion.pinchTimer.isSome = true →
    s.motion.state = .engaging ∨ s.motion.state = .releasing ∨ s.motion.state = .halting
  watch    : s.watch.isSome = true → s.motion.state = .standby
  latched  : s.faults.set ≠ [] → s.motion.state = .halting ∨ s.motion.state = .braking ∨ s.motion.state = .fault
  stopped  : s.motion.state = .braking ∨ s.motion.state = .fault → s.faults.set ≠ []
  locate   : s.motion.locate.isSome = true →
    (s.motion.state = .sizing ∧ ∃ z, s.motion.sizing = some z ∧ z.phase = .returning) ∨
    ((s.motion.state = .winding ∨ s.motion.state = .engaging ∨ s.motion.state = .releasing) ∧
      ∃ a, s.motion.active = some a ∧
        (a.kind = .locate ∨ (a.kind = .chase ∧ ∃ k, s.chase.seek = some k ∧ k.parked = false)))
  seek     : s.chase.seek.isSome = true → ∃ a, s.motion.active = some a ∧ a.kind = .chase

/-- The working copy is a valid profile, and both radius estimates lie within its hub and flange radii (R29, R192). -/
structure State.ProfileOk (s : State) : Prop where
  valid : profileOk s.profile = true
  left  : s.profile.rHub ≤ s.reelL.rEst ∧ s.reelL.rEst ≤ s.profile.rFlange
  right : s.profile.rHub ≤ s.reelR.rEst ∧ s.reelR.rEst ≤ s.profile.rFlange

/-- A reel's counters lie in the ranges of the tables of 2.1. -/
structure Reel.CountsOk (r : Reel) : Prop where
  conf   : r.conf ≤ 8
  streak : r.streak ≤ 2
  sat    : r.sat ≤ 39
  angle  : ∀ w, r.window = some w → w.angle ≤ 255

/-- An arm's persistence counters lie below the greatest count that a profile may ask for (R57, R58, R192). -/
structure Arm.CountsOk (a : Arm) : Prop where
  slackRun  : a.slackRun ≤ 254
  overRun   : a.overRun ≤ 254
  returnRun : a.returnRun ≤ 254

/-- A detector's run count is at most the threshold, and its distance lies within its code (8.1, R147). -/
structure Detector.CountsOk (x : Detector) (threshold : Nat) (code : List Bool) : Prop where
  run  : x.run ≤ threshold
  dist : x.dist < code.length

/-- The counts of a capture: the decimation and its phase, the post-trigger count, which a RING capture in TRIGGERED has not
reached, and the samples taken (R160 to R163). -/
structure Capture.CountsOk (c : Capture) : Prop where
  decim     : 1 ≤ c.decim ∧ c.decim ≤ 64
  phase     : c.phase < c.decim
  post      : 1 ≤ c.post ∧ c.post ≤ 8192
  postTaken : c.postTaken ≤ c.post
  triggered : c.state = .triggered → c.mode = .ring ∧ c.postTaken < c.post
  taken     : c.taken ≤ 4294967295

/-- The counters lie in the ranges their state tables give them (R1, 1.1, 2.1, 3.4, R63, 4.1, 5.1, 7.1, 8.1, 9.5, 10.1, R183). -/
structure State.CountsOk (s : State) : Prop where
  position  : -2000000000 ≤ s.position.pos ∧ s.position.pos ≤ 2000000000
  chain     : s.position.chain.len ≤ 2
  left      : s.reelL.CountsOk
  right     : s.reelR.CountsOk
  mismL     : s.faults.mismL ≤ 64
  mismR     : s.faults.mismR ≤ 64
  mismC     : s.faults.mismC ≤ 64
  supply    : s.faults.supply ≤ 16
  integral  : s.capstan.integral.natAbs ≤ 1024
  run       : s.chase.run ≤ 3
  frame     : ∀ f, s.chase.lastFrame = some f → f < 86400 * s.profile.rate
  c         : s.chase.c.natAbs ≤ 300
  lock      : s.chase.lock ≤ 9
  unlock    : s.chase.unlock ≤ 2
  armL      : s.armL.CountsOk
  armR      : s.armR.CountsOk
  watch     : ∀ w, s.watch = some w → w.cntL ≤ 3 ∧ w.cntR ≤ 3
  threshold : 4 ≤ s.cue.threshold ∧ s.cue.threshold ≤ 16
  codes     : 3 ≤ s.cue.mark.length ∧ s.cue.mark.length ≤ 8 ∧ 3 ≤ s.cue.clear.length ∧ s.cue.clear.length ≤ 8
  mark      : s.cue.detMark.CountsOk s.cue.threshold s.cue.mark
  clear     : s.cue.detClear.CountsOk s.cue.threshold s.cue.clear
  capture   : s.capture.CountsOk
  latches   : ∀ l x, some x ∈ (s.port l).latches → 1 ≤ x.count ∧ x.count ≤ 255
  passes    : ∀ a, s.motion.active = some a → a.reversals ≤ 3
  sizing    : ∀ z, s.motion.sizing = some z → z.reversals ≤ 3

/-- What the Reel Model derives from a reel's estimate and the working copy: J and L_rem follow the estimate (R34, R35), and with
confidence 0 the estimate is the sizing radius (R29). -/
structure Reel.DerivedOk (r : Reel) (p : Profile) : Prop where
  inertia   : r.inertia = p.jHub + p.kPack * ((r.rEst / 1000) ^ 4 - (p.rHub / 1000) ^ 4) / 10000000
  remaining : r.remaining = 355 * (r.rEst ^ 2 - p.rHub ^ 2) / (113 * p.thickness)
  sizing    : r.conf = 0 → r.rEst = p.rSizing

/-- The guard ceiling of R124 for a paying reel: none at confidence 0, else the integer square root of
2 × a_stop × 1,000 × max(0, L_rem − M). -/
def guardSpec (p : Profile) (r : Reel) : Option Nat :=
  if r.conf = 0 then none else some (Nat.sqrt (2 * p.aStop * 1000 * (r.remaining - p.leader)))

/-- What is derived stands as its source gives it: J, L_rem and both guard ceilings (R34, R35, R124). -/
structure State.DerivedOk (s : State) : Prop where
  left   : s.reelL.DerivedOk s.profile
  right  : s.reelR.DerivedOk s.profile
  guardF : s.zones.guardF = guardSpec s.profile s.reelL
  guardR : s.zones.guardR = guardSpec s.profile s.reelR

/-! ### What each command may write -/

/-- The registers of the part in groups: those of one group are written by the same commands. The clock and the queue of commands
are in none. -/
inductive Group where
  | start | pins | position | tachs | rest | anchor | locateTable
  | speed | interval | command | estimates | windows | drive | converter | arms | watch
  | sequencer | moves | updateTime | capstanSpeed | capstanInterval | capstanLoop
  | zones | zoneCeilings | guardReport | reader | chase | cueCodes | autoCue | cueHistory | cueWriter
  | comparators | captureSetup | captureState | samples | sampleTime | faults | counters | slip | supervision
  | receivers | replies | latches | masks | reports | transmitters | ownership | reportRate | resetPending
  | profile | store | free
  deriving DecidableEq, Repr

/-- What the Reel Model keeps of a reel, its window apart, is the same. -/
def Reel.SameModel (r q : Reel) : Prop :=
  r.rEst = q.rEst ∧ r.conf = q.conf ∧ r.streak = q.streak ∧ r.inertia = q.inertia ∧ r.remaining = q.remaining

/-- The drive of a reel is the same. -/
def Reel.SameDrive (r q : Reel) : Prop := r.torque = q.torque ∧ r.code = q.code ∧ r.sat = q.sat

/-- The registers of a group hold in `t` what they held in `s`. -/
def Group.Same (g : Group) (s t : State) : Prop :=
  match g with
  | .start => t.startup = s.startup
  | .pins => t.pins = s.pins
  | .position => t.position.pos = s.position.pos
  | .tachs => t.position.tachL = s.position.tachL ∧ t.position.tachR = s.position.tachR
  | .rest => t.position.atRest = s.position.atRest ∧ t.position.restStart = s.position.restStart
  | .anchor => t.position.anchor = s.position.anchor ∧ t.position.chain = s.position.chain
  | .locateTable => t.position.locate = s.position.locate
  | .speed => t.speed.hist = s.speed.hist ∧ t.speed.v = s.speed.v ∧ t.speed.lastUpdate = s.speed.lastUpdate
  | .interval => t.speed.cur = s.speed.cur
  | .command => t.speed.aCmd = s.speed.aCmd
  | .estimates => t.reelL.SameModel s.reelL ∧ t.reelR.SameModel s.reelR ∧ t.zones.guardF = s.zones.guardF ∧
      t.zones.guardR = s.zones.guardR
  | .windows => t.reelL.window = s.reelL.window ∧ t.reelR.window = s.reelR.window
  | .drive => t.reelL.SameDrive s.reelL ∧ t.reelR.SameDrive s.reelR
  | .converter => t.conv = s.conv
  | .arms => t.armL = s.armL ∧ t.armR = s.armR
  | .watch => t.watch = s.watch
  | .sequencer => t.motion = { s.motion with
      queue := t.motion.queue, active := t.motion.active, completions := t.motion.completions, lastUpdate := t.motion.lastUpdate }
  | .moves => t.motion.queue = s.motion.queue ∧ t.motion.active = s.motion.active ∧ t.motion.completions = s.motion.completions
  | .updateTime => t.motion.lastUpdate = s.motion.lastUpdate
  | .capstanSpeed => t.capstan.hist = s.capstan.hist ∧ t.capstan.speed = s.capstan.speed ∧
      t.capstan.lastUpdate = s.capstan.lastUpdate
  | .capstanInterval => t.capstan.cur = s.capstan.cur
  | .capstanLoop => t.capstan.integral = s.capstan.integral ∧ t.capstan.code = s.capstan.code ∧
      t.capstan.running = s.capstan.running
  | .zones => t.zones.entries = s.zones.entries
  | .zoneCeilings => t.zones.ceilF = s.zones.ceilF ∧ t.zones.ceilR = s.zones.ceilR
  | .guardReport => t.zones.guardReported = s.zones.guardReported ∧ t.zones.updated = s.zones.updated ∧
      t.zones.descent = s.zones.descent
  | .reader => t.chase.present = s.chase.present ∧ t.chase.run = s.chase.run ∧ t.chase.lastFrame = s.chase.lastFrame ∧
      t.chase.lastSub = s.chase.lastSub ∧ t.chase.lossTimer = s.chase.lossTimer ∧ t.chase.lastWord = s.chase.lastWord
  | .chase => t.chase = { s.chase with
      present := t.chase.present, run := t.chase.run, lastFrame := t.chase.lastFrame, lastSub := t.chase.lastSub
      lossTimer := t.chase.lossTimer, lastWord := t.chase.lastWord }
  | .cueCodes => t.cue.mark = s.cue.mark ∧ t.cue.clear = s.cue.clear ∧ t.cue.threshold = s.cue.threshold
  | .autoCue => t.cue.auto = s.cue.auto
  | .cueHistory => t.cue.hist = s.cue.hist ∧ t.cue.histDir = s.cue.histDir ∧ t.cue.detMark = s.cue.detMark ∧
      t.cue.detClear = s.cue.detClear
  | .cueWriter => t.cue.gen = s.cue.gen ∧ t.cue.write = s.cue.write ∧ t.cue.out = s.cue.out
  | .comparators => t.comps = s.comps
  | .captureSetup => t.capture.holder = s.capture.holder ∧ t.capture.mode = s.capture.mode ∧
      t.capture.channels = s.capture.channels ∧ t.capture.decim = s.capture.decim ∧ t.capture.start = s.capture.start ∧
      t.capture.stop = s.capture.stop ∧ t.capture.trigger = s.capture.trigger ∧ t.capture.post = s.capture.post
  | .captureState => t.capture.state = s.capture.state ∧ t.capture.phase = s.capture.phase ∧
      t.capture.startComp = s.capture.startComp ∧ t.capture.endComp = s.capture.endComp ∧
      t.capture.postTaken = s.capture.postTaken ∧ t.capture.reason = s.capture.reason
  | .samples => t.capture.samples = s.capture.samples ∧ t.capture.taken = s.capture.taken
  | .sampleTime => t.capture.lastEvent = s.capture.lastEvent
  | .faults => t.faults.set = s.faults.set ∧ t.faults.primary = s.faults.primary
  | .counters => t.faults.mismL = s.faults.mismL ∧ t.faults.mismR = s.faults.mismR ∧ t.faults.mismC = s.faults.mismC ∧
      t.faults.supply = s.faults.supply
  | .slip => t.faults.slip = s.faults.slip
  | .supervision => t.faults.supervision = s.faults.supervision
  | .receivers => ∀ l, (t.port l).rx = (s.port l).rx ∧ (t.port l).part = (s.port l).part ∧
      (t.port l).lastByte = (s.port l).lastByte
  | .replies => ∀ l, (t.port l).replies = (s.port l).replies
  | .latches => ∀ l, (t.port l).latches = (s.port l).latches
  | .masks => ∀ l, (t.port l).mask = (s.port l).mask
  | .reports => ∀ l, (t.port l).report = (s.port l).report
  | .transmitters => ∀ l, (t.port l).notice = (s.port l).notice ∧ (t.port l).sending = (s.port l).sending
  | .ownership => t.ctl.owner = s.ctl.owner
  | .reportRate => t.ctl.rate = s.ctl.rate ∧ t.ctl.lastReport = s.ctl.lastReport
  | .resetPending => t.ctl.resetPending = s.ctl.resetPending
  | .profile => t.profile = s.profile
  | .store => t.store = s.store
  | .free => t.free = s.free

/-- What may change when the transport changes state, a move ends or begins, or a fault is latched: the sequencer with its queue and
drives, and the units that move with it (R71, R81, R90, R102, R112, R141, R152, R158, R174, R183). -/
def transportGroups : List Group :=
  [.command, .windows, .drive, .watch, .sequencer, .moves, .capstanLoop, .guardReport, .chase, .cueHistory, .cueWriter,
    .comparators, .captureState, .faults, .slip, .supervision, .latches]

/-- What every request may change: its link's frame is taken and its reply pends, and the owner's frame restarts the supervision
timer (R177, R180). -/
def requestGroups : List Group := [.receivers, .replies, .supervision]

/-- The groups of registers that a command may write; `none` for the four commands that may reset the part, which write all. -/
def writable : Instr → Option (List Group)
  | .powerOn | .resetLine | .deferredReset | .transmitDone _ => none
  | .settlePeriodEnd => some (.start :: transportGroups)
  | .resetInputRelease => some [.start, .converter]
  | .profileLoadDone => some [.start, .profile, .store, .estimates, .windows, .drive, .sequencer, .reader, .transmitters]
  | .rollerCount _ => some ([.position, .rest, .interval, .zones] ++ transportGroups)
  | .reelCount _ _ => some ([.tachs, .estimates] ++ transportGroups)
  | .capstanCount _ => some [.capstanInterval]
  | .windowTimeout _ => some [.windows]
  | .restTimerExpiry => some (.rest :: transportGroups)
  | .tapeTimecodeWord _ _ => some [.anchor, .locateTable, .latches]
  | .conversionComplete _ => some ([.converter, .arms, .counters, .estimates] ++ transportGroups)
  | .driveFaultInput _ _ | .supplyWarningInput _ | .pinchEngagedSense _ => some (.pins :: transportGroups)
  | .reelServoUpdate => some [.speed, .interval, .command, .drive, .slip, .moves, .sequencer, .latches]
  | .referenceUpdate => some ([.updateTime, .zoneCeilings] ++ transportGroups)
  | .capstanUpdate => some [.capstanSpeed, .capstanInterval, .capstanLoop]
  | .rollerSlipTimeout | .pinchTimeout | .durationExpiry | .threadCheckTimeout | .measureTimeout | .brakingTimeout
  | .supervisionExpiry | .freewheelExpiry => some transportGroups
  | .referenceWord _ _ | .lossTimerExpiry => some (.reader :: transportGroups)
  | .cueBit _ => some (.locateTable :: transportGroups)
  | .captureSampleEvent => some [.sampleTime, .samples, .captureState, .comparators, .latches]
  | .positionReportPeriod => some [.reportRate, .reports]
  | .frameReceived _ _ _ _ | .byteReceived _ _ _ => some [.receivers, .supervision]
  | .frameGapTimeout _ => some [.receivers]
  | .profileWriteDone => some [.store, .latches]
  | .unknownKind _ _ | .readStatus _ | .readPosition _ | .readReelModel _ | .readMoves _ | .readLocateTable _ | .readZones _
  | .readCapture _ | .readProfile _ | .readEvents _ => some requestGroups
  | .claimTransport _ => some ([.ownership, .reports] ++ requestGroups ++ transportGroups)
  | .releaseTransport _ => some ([.ownership, .reports] ++ requestGroups)
  | .submitMove _ => some (.free :: requestGroups ++ transportGroups)
  | .flushMoves _ | .stop _ | .enterStandby _ | .wake _ => some (requestGroups ++ transportGroups)
  | .sizeReels _ | .clearFault _ => some (.estimates :: requestGroups ++ transportGroups)
  | .setZone _ | .clearZone _ => some (.zones :: requestGroups)
  | .setLocateEntry _ | .clearLocateEntry _ => some (.locateTable :: requestGroups)
  | .setAnchor _ => some ([.anchor, .locateTable] ++ requestGroups)
  | .setSchedule _ => some (.converter :: requestGroups)
  | .setEventMask _ => some (.masks :: requestGroups)
  | .acknowledgeEvents _ => some (.latches :: requestGroups)
  | .setReportRate _ => some ([.reportRate, .reports] ++ requestGroups)
  | .watchPosition _ | .cancelWatch _ => some (.comparators :: requestGroups)
  | .armCapture _ => some ([.captureSetup, .captureState, .samples, .comparators, .latches] ++ requestGroups)
  | .triggerCapture _ => some ([.captureState, .comparators] ++ requestGroups)
  | .abortCapture _ => some ([.captureState, .comparators, .latches] ++ requestGroups)
  | .releaseCapture _ => some ([.captureSetup, .captureState, .samples, .comparators] ++ requestGroups)
  | .setCueCodes _ => some ([.cueCodes, .cueHistory] ++ requestGroups)
  | .setAutoCue _ => some (.autoCue :: requestGroups)
  | .writeCue _ => some ([.cueWriter, .cueHistory, .comparators] ++ requestGroups)
  | .cancelCueWrite _ => some ([.cueWriter, .comparators, .latches] ++ requestGroups)
  | .writeProfile _ => some ([.profile, .store, .anchor, .locateTable, .estimates, .windows, .arms, .reader] ++ requestGroups)
  | .resetPart _ => some (.resetPending :: requestGroups ++ transportGroups)

/-! ### Frames (11.2) -/

/-- The bytes of a frame on the wire: start, length, kind, tag, body, and the CRC over what follows the start, high byte first. -/
def frameBytes (kind tag : Byte) (body : Bytes) : Bytes :=
  let covered := BitVec.ofNat 8 body.length :: kind :: tag :: body
  0xA5 :: (covered ++ [(crc16 covered).extractLsb' 8 8, (crc16 covered).extractLsb' 0 8])

/-- A run of bytes received on a link with their stop bits, one command each; none when one of them is no next state. -/
def receive (l : Link) (s : State) (bs : Bytes) : Option State :=
  bs.foldlM (fun t b => match exec (.byteReceived l b true) t with
    | .next u => some u
    | .fault _ | .refused _ => none) s

/-! ### Resets -/

/-- The Start-up Notice a link reset hands over: its six bytes are the kind, the class before, the profile valid flag and the
Capture Unit's state, done reason and holder after it (R190, 11.4). -/
def noticeAfter (s t : State) (k : ResetKind) : Frame :=
  ⟨0x40, 0, [BitVec.ofNat 8 k.ctorIdx, BitVec.ofNat 8 s.motion.state.class.ctorIdx, if t.store.invalid then 0 else 1,
    BitVec.ofNat 8 t.capture.state.ctorIdx,
    match t.capture.state, t.capture.reason with
      | .done, some x => BitVec.ofNat 8 x.ctorIdx
      | _, _ => 0xFF,
    match t.capture.holder with
      | none => 0
      | some .deck => 1
      | some .service => 2]⟩

/-- A link after a reset that hands a Start-up Notice over: everything dropped, the mask FAULT alone; a frame on its way goes on,
and the notice follows it (R189, R190). -/
def LinkPort.restarted (p : LinkPort) (f : Frame) : LinkPort :=
  match p.sending with
  | none => { LinkPort.fresh with lastByte := p.lastByte, sending := some ⟨f, false⟩ }
  | some o => { LinkPort.fresh with lastByte := p.lastByte, sending := some ⟨o.frame, false⟩, notice := some f }

/-- `t` is the part after a link-request reset of `s` with a fault input asserted: started again with each kind latched whose input
is asserted, and braking (R168, R174, R190). -/
structure State.RestartedInFault (t s : State) (k : ResetKind) : Prop where
  now      : t.now = s.now
  startup  : t.startup = ⟨.running, s.now, k, s.motion.state.class⟩
  position : t.position = PositionUnit.fresh s.now
  state    : t.motion.state = .braking
  braked   : t.Braked
  moves    : t.motion.queue = [] ∧ t.motion.active = none
  profile  : t.profile = s.profile
  set      : ∀ x, x ∈ t.faults.set ↔ (x = .driveL ∧ s.pins.faultL = true) ∨ (x = .driveR ∧ s.pins.faultR = true) ∨
    (x = .driveC ∧ s.pins.faultC = true) ∨ (x = .supplyLow ∧ s.pins.supplyWarning = true)

/-- `t` is the part after a link-request reset of `s` with no fault input asserted: every block at the values its chapter gives
after any reset (R4, R22, R49, R56, R89, R91, R115, R128, R144, R155, R168, R189), the working copy kept (R191). -/
structure State.RestartedFrom (t s : State) (k : ResetKind) : Prop where
  now      : t.now = s.now
  startup  : t.startup = ⟨.running, s.now, k, s.motion.state.class⟩
  pins     : t.pins = s.pins
  position : t.position = PositionUnit.fresh s.now
  speed    : t.speed = { State.reset.speed with lastUpdate := s.speed.lastUpdate }
  reelL    : t.reelL = Reel.fresh s.profile
  reelR    : t.reelR = Reel.fresh s.profile
  conv     : t.conv = Converter.fresh s.now
  armL     : t.armL = Arm.fresh
  armR     : t.armR = Arm.fresh
  watch    : t.watch = none
  motion   : t.motion = Motion.fresh s.profile s.motion.lastUpdate
  capstan  : t.capstan = { State.reset.capstan with lastUpdate := s.capstan.lastUpdate }
  zones    : t.zones = ZoneTable.fresh
  chase    : t.chase = Chase.fresh
  cue      : t.cue = CueUnit.fresh
  comps    : t.comps = [none, none, none, none]
  capture  : k = .serviceRequest ∨ s.capture.holder ≠ some .service → t.capture = Capture.idle s.capture.lastEvent
  faults   : t.faults = Faults.fresh
  deck     : t.deck = s.deck.restarted (noticeAfter s t k)
  service  : t.service = s.service.restarted (noticeAfter s t k)
  ctl      : t.ctl = ⟨if k = .deckRequest ∧ s.ctl.owner = .service then .service else .free, 0, s.ctl.lastReport, none⟩
  profile  : t.profile = s.profile
  store    : t.store = if s.store.busy then { s.store with check := none, busy := false, invalid := true } else s.store
  pending  : t.pending = s.pending

end Sys2Proof.Machine
end

