-- ==== Sys2Proof/WellFormed.lean ====
section
/-! DEFINITION. Which terms of `Instr` are commands: a frame's body holds at most 120 bytes (R179), and UNKNOWN_KIND carries a
kind that is not among the request kinds of 11.4 (R180). Every other operand is in its range by its type. -/

namespace Sys2Proof

/-- Whether a term of `Instr` is a command of its row. -/
def Instr.wellFormed (i : Instr) : Bool :=
  match i with
  | .frameReceived _ _ _ body => decide (body.length ≤ maxBody)
  | .unknownKind k r => decide (r.body.length ≤ maxBody) && !(requestKinds.contains k)
  | i => match i.request? with
    | some (_, r) => decide (r.body.length ≤ maxBody)
    | none => true

end Sys2Proof
end

