-- ==== Sys2Proof/Certificates/Slice0/Obligations.lean ====
section
/-! DEFINITION. What is claimed of the model: one `def Obligations.<Name> : Prop` for each statement. The rules named are those of
spec/; a statement that rests on an entry of the assumption log says so. -/

open Sys2Proof Sys2Proof.Machine

/-! ### The block and its queue of commands -/

/-- The command at the front of the queue is the one a step runs, on the state with the queue's rest; with no command waiting a step
only lets the clock count one unit. How time passes is the model's choice (entry 1). -/
def Obligations.StepRunsFront : Prop :=
  (∀ (c : Instr) (rest : List Instr) (s : State), step (s.withPending (c :: rest)) = exec c (s.withPending rest)) ∧
    ∀ s : State, s.pending = [] → step s = .next { s with now := s.now + 1 }

/-- Every command completes in every state; a term that is no command of its row is refused by name. The refusal is the model's
choice (entry 38). -/
def Obligations.CommandsComplete : Prop :=
  ∀ (c : Instr) (s : State),
    (c.wellFormed = true → ∃ t, exec c s = .next t) ∧ (c.wellFormed = false → exec c s = .refused .illFormed)

/-- No command changes the queue of commands, and none turns the clock back (entry 1). -/
def Obligations.CommandsKeepQueue : Prop :=
  ∀ (c : Instr) (s t : State), exec c s = .next t → t.pending = s.pending ∧ s.now ≤ t.now

/-- The frame of every command: a group of registers that the table `writable` does not list for a command holds after it what it
held before, the transmitters' own choice at its end apart (R182, entry 10), and the four commands that may reset the part apart.
Within its group the position moves by a roller count alone, by at most one, and a reset alone returns it to 0 (R1, R2, R13, R14).
-/
def Obligations.OnlyOwnCommandsWrite : Prop :=
  ∀ (c : Instr) (s t : State), exec c s = .next t →
    (∃ u : State, (t = u ∨ t = u.handOver) ∧ ∀ w g, writable c = some w → g ∉ w → g.Same s u) ∧
      (∀ d, c = .rollerCount d → t.position.pos = s.position.pos ∨ t.position.pos = s.position.pos + dirSign d) ∧
      (writable c = none → t.position.pos = s.position.pos ∨ t.position.pos = 0)

/-- Outside a reference update the speed reference changes only by becoming 0 at the entry into a braked state (R92). -/
def Obligations.OnlyUpdateMovesReference : Prop :=
  ∀ (c : Instr) (s t : State), c ≠ .referenceUpdate → exec c s = .next t →
    t.motion.vRef = s.motion.vRef ∨ (t.motion.vRef = 0 ∧ t.motion.state.braked = true)

/-! ### Invariants -/

/-- The invariants stated below hold right after reset, with the values that the model chooses where the spec gives none (entries 4
to 8). -/
def Obligations.InvariantsAtReset : Prop :=
  State.reset.TablesWf ∧ State.reset.OutputsOk ∧ State.reset.MovesOk ∧ State.reset.ProfileOk ∧ State.reset.CountsOk ∧
    State.reset.DerivedOk

/-- Every step keeps the tables, queues and histories at the sizes their chapters give them, and in a running part nothing waits for
an idle transmitter (R182, entry 10). -/
def Obligations.StepKeepsTables : Prop :=
  ∀ s t : State, s.TablesWf → step s = .next t → t.TablesWf

/-- Every step keeps the outputs as the transport state gives them: the brakes; the pinch, commanded engaged in ENGAGING and
PLAYING, and in a HALTING entered from PLAYING until its release begins, and in no other state (R90, R103); and the drive codes at 0
in a braked state and within −2047 to +2047 elsewhere. -/
def Obligations.StepKeepsOutputs : Prop :=
  ∀ s t : State, s.OutputsOk → step s = .next t → t.OutputsOk

/-- Every step keeps the move queue and the contexts in the transport states they belong to: the active move is the oldest record,
and while a fault is latched the transport is HALTING, BRAKING or FAULT and the queue is empty. A locate context stands in the
RETURN of sizing, or under a LOCATE or a CHASE whose seek is LOCATING, in WINDING or in a pinch transition on the way there (R95,
R98, R107, R134); a seek context stands under a CHASE alone (R134). -/
def Obligations.StepKeepsMoves : Prop :=
  ∀ s t : State, s.MovesOk → step s = .next t → t.MovesOk

/-- Every step keeps the working copy a valid profile, and both radius estimates within its hub and flange radii. -/
def Obligations.StepKeepsProfile : Prop :=
  ∀ s t : State, s.ProfileOk → step s = .next t → t.ProfileOk

/-- Every step keeps the counters in the ranges of their state tables: the position, the chain, the reels' counters, the tension
runs, the watch counters, the fault counters, the capstan's integral, the chase's counts, the reference frame below D (R6), the
detectors, the capture's counts, the latch counts and the reversals. The working copy bounds the persistence counts (R192). -/
def Obligations.StepKeepsCounts : Prop :=
  ∀ s t : State, s.ProfileOk → s.CountsOk → step s = .next t → t.CountsOk

/-- Every step keeps J, L_rem and both guard ceilings as the estimates and the working copy give them. That R124's value is not
clamped to the range that 6.1 gives a guard ceiling is the model's choice (entry 62). -/
def Obligations.StepKeepsDerived : Prop :=
  ∀ s t : State, s.DerivedOk → step s = .next t → t.DerivedOk

/-! ### Encodings -/

/-- A timecode and its frame count agree: every frame count of the day is that of the timecode it converts to, and every valid
timecode converts back from its own frame count (R5, R6). -/
def Obligations.TimecodeRoundTrip : Prop :=
  ∀ (p : Profile), p.rate = 24 ∨ p.rate = 25 ∨ p.rate = 30 →
    (∀ n, n < 86400 * p.rate → timecodeFrames p (framesTimecode p n) = some n) ∧
      (∀ t n, timecodeFrames p t = some n → n < 86400 * p.rate ∧ framesTimecode p n = t)

/-- The 110 bytes of a valid profile read back as that profile (11.10, R181, R191). -/
def Obligations.ProfileRoundTrip : Prop :=
  ∀ p : Profile, profileOk p = true → (profileBytes p).length = 110 ∧ profileOfBytes (profileBytes p) = p

/-- A frame and its bytes agree: receiving the bytes of a frame one by one, from a receiver that holds no partial frame, is
receiving the complete frame (11.2, R179). -/
def Obligations.FrameRoundTrip : Prop :=
  ∀ (l : Link) (kind tag : Byte) (body : Bytes) (s : State),
    body.length ≤ 120 → s.startup.phase = .running → (s.port l).part = none →
      ∃ t, receive l s (frameBytes kind tag body) = some t ∧
        exec (.frameReceived l kind tag body) (s.withPart l none) = .next t

/-! ### Requests in general (R180) -/

/-- When a request's frame is the one its link processes, and what taking it leaves: the oldest unprocessed frame leaves the receive
queue; with none unprocessed the command brings the frame, and a frame of the owner restarts a running supervision timer (R177,
R179, R180). How a row's command meets the receive queue is the model's choice (entry 9). -/
def Obligations.RequestsTaken : Prop :=
  ∀ (s : State) (kind : Byte) (r : Request), s.startup.phase = .running → r.body.length ≤ 120 →
    (∀ rest, (s.port r.link).rx = ⟨kind, r.tag, r.body⟩ :: rest →
      s.Takes kind r (s.withPort r.link { s.port r.link with rx := rest })) ∧
    ((s.port r.link).rx = [] → (s.port r.link).replies.length < 4 →
      s.Takes kind r (if s.ctl.owner = Link.owner r.link then
          { s with faults := { s.faults with supervision := s.faults.supervision.map (fun _ => s.now) } }
        else s))

/-- A processed request produces one reply, last among its link's pending replies before the transmitters choose (R182), with its
tag and its kind plus 80h (FFh for an unknown kind); a request whose reply is neither OK nor FAULT_PERSISTS changes nothing else,
and a kind outside 11.4 is answered UNKNOWN_KIND (R180). -/
def Obligations.OneReplyEach : Prop :=
  (∀ (c : Instr) (kind : Byte) (r : Request) (s t : State),
    c.request? = some (kind, r) → c.wellFormed = true → s.Takes kind r t →
      ∃ (u : State) (o : Outgoing), exec c s = .next u.handOver ∧ (u.port r.link).replies = (t.port r.link).replies ++ [o] ∧
        o.frame.tag = r.tag ∧
        o.frame.kind = (if kind ∈ requestKinds then kind + 0x80 else 0xFF) ∧
        (o.frame.body.head? = some 0x00 ∨ o.frame.body.head? = some 0x0A ∨ u = t.reply r.link o)) ∧
  ∀ (kind : Byte) (r : Request) (s t : State), kind ∉ requestKinds → s.Takes kind r t →
    exec (.unknownKind kind r) s = .next (t.reply r.link ⟨⟨0xFF, r.tag, [0x01]⟩, false⟩).handOver

/-- From a link that does not own the transport every request that bears on motion is refused NOT_OWNER and changes nothing; while
the ownership is FREE that is so on both links (R180). -/
def Obligations.NotOwnerRefused : Prop :=
  ∀ (c : Instr) (kind : Byte) (r : Request) (s t : State),
    c.request? = some (kind, r) → c.wellFormed = true → kind ∈ motionKinds → s.Takes kind r t →
      t.ctl.owner ≠ Link.owner r.link → exec c s = .next (t.answered kind r .notOwner [])

/-- While a reset is pending every request but the reads and Stop is refused RESET_PENDING and changes nothing: those that bear on
motion from the owner, those about captures from the holder, and those about claims, events, reports and resets (R180, R188). A body
whose length is not the one the message's fields declare is refused BAD_LENGTH, when the earlier checks pass (R180); an Arm Capture
may come to both from IDLE. The places of these two checks where R180 gives none, before the ownership of 11.9 and behind the holder
of a capture, are the model's choice (entry 30). -/
def Obligations.PendingAndLength : Prop :=
  ∀ (c : Instr) (kind : Byte) (r : Request) (s t : State),
    c.request? = some (kind, r) → c.wellFormed = true → s.Takes kind r t →
      (t.ctl.resetPending ≠ none →
        (kind ∈ motionKinds ∧ t.ctl.owner = Link.owner r.link) ∨ kind ∈ sharedKinds ∨
          (kind ∈ [0x30, 0x31, 0x32, 0x33] ∧ t.capture.state ≠ .idle ∧ t.capture.holder = some r.link) ∨
          (kind = 0x30 ∧ t.capture.state = .idle) →
        exec c s = .next (t.answered kind r .resetPending [])) ∧
      (∀ n : Nat, (kind, n) ∈ bodyLengths → t.Grants r.link →
        (kind ∈ captureKinds →
          (t.capture.state ≠ .idle ∧ t.capture.holder = some r.link) ∨ (kind = 0x30 ∧ t.capture.state = .idle)) →
        r.body.length ≠ n →
        exec c s = .next (t.answered kind r .badLength []))

/-- What the reads answer, and that they change nothing: eight of them OK from either link in every state, Read Capture from the
holder with the capture DONE (R165). Given are the data of Read Position with an anchor and with none (R21), Read Reel Model (R46),
the completion list of Read Moves and an empty part (R88), Read Locate Table (R16), Read Zones (R127), the values Read Capture lists
(R165), Read Profile (R191), Read Events (R184), and of Read Status the sections of the moves, the faults and the links (R113, R178,
R186); the other sections, the queued records and the active move context are not given here. The layout of a reply that 11.4 leaves
to R181's general rule is the model's choice (entry 28; post-trigger samples of a ONE_SHOT capture: entry 65). -/
def Obligations.ReadsAnswer : Prop :=
  ∀ (s t : State) (r : Request),
    (∀ n, s.Takes 0x01 r t → r.body = [BitVec.ofNat 8 n] → 1 ≤ n → n ≤ 7 →
      ∃ data, exec (.readStatus r) s = .next (t.answered 0x01 r .ok data) ∧
        (n = 1 → ∃ accel, data = enc1 t.motion.state.ctorIdx ++
          encOpt 2 (t.motion.sizing.map (fun z => enc1 z.phase.ctorIdx ++ enc1 z.variant.ctorIdx)) ++
          encOpt 2 (t.motion.locate.map (fun l => enc1 l.phase.ctorIdx ++ enc1 (if l.dir = .forward then 0 else 1))) ++
          encOpt 1 (t.motion.haltPending.map (fun d => enc1 (match d with
            | .stopped => Transport.stopped
            | .unthreaded => Transport.unthreaded).ctorIdx)) ++
          enc4 t.motion.vRef ++ enc2 t.motion.aRef ++ accel ++ enc4 t.speed.v ++ encFlag t.motion.pinchCmd ++
          encFlag t.pins.pinchSense ++ enc4 t.capstan.speed ++ enc2 t.capstan.code ++ enc2 t.capstan.integral ++
          encOpt 2 (t.motion.active.map (fun a => [a.id] ++ enc1 a.kind.ctorIdx)) ∧
          (t.motion.state = .halting → accel = enc2 t.profile.aStop) ∧
          (t.motion.state = .sizing → accel = enc2 t.profile.accel) ∧
          (∀ a, t.motion.active = some a → t.motion.state = .stopped ∨ t.motion.state = .playing ∨
            (t.motion.state = .winding ∧ t.zones.descent = false) → accel = enc2 a.accel)) ∧
        (n = 6 → data = enc1 t.faults.set.length ++ t.faults.set.map (fun k => BitVec.ofNat 8 k.ctorIdx) ++
          encOpt 6 (t.faults.primary.map (fun x => enc1 x.kind.ctorIdx ++ enc4 x.pos ++ enc1 x.state.ctorIdx)) ++
          enc1 t.faults.mismL ++ enc1 t.faults.mismR ++ enc1 t.faults.mismC ++ enc1 t.faults.supply ++ encFlag t.pins.faultL ++
          encFlag t.pins.faultR ++ encFlag t.pins.faultC ++ encFlag t.pins.supplyWarning ++ encFlag t.pins.pinchSense ++
          encOpt 2 (t.faults.slip.map (fun x => enc2 ((t.now - x) / 8000 : Nat))) ++
          encOpt 2 (t.motion.brakingTimer.map (fun x => enc2 ((t.now - x) / 8000 : Nat))) ++
          encOpt 2 (t.faults.supervision.map (fun x => enc2 ((x + 8000 * t.profile.supervision - t.now) / 8000 : Nat)))) ∧
        (n = 7 → data = enc1 t.ctl.owner.ctorIdx ++ enc1 (if t.ctl.owner = .service then 1 else 0) ++
          encFlag t.ctl.resetPending.isSome ++ encOpt 1 (t.ctl.resetPending.map (fun k => enc1 k.ctorIdx)) ++
          enc1 t.ctl.rate ++
          enc1 (t.deck.rx.length + t.deck.replies.length + (if r.link = .deck then 1 else 0) : Nat) ++
          enc1 (t.service.rx.length + t.service.replies.length + (if r.link = .service then 1 else 0) : Nat) ++
          encFlag t.store.invalid ++ encFlag t.store.busy)) ∧
    (s.Takes 0x02 r t → r.body = [] → t.position.anchor = none → -2000000000 ≤ t.position.pos → t.position.pos ≤ 2000000000 →
      exec (.readPosition r) s = .next (t.answered 0x02 r .ok
        (wordBytes (BitVec.ofInt 32 t.position.pos) ++ [0, if t.position.atRest then 1 else 0] ++ wordBytes t.position.tachL ++
          wordBytes t.position.tachR ++ 0 :: List.replicate 8 0xFF ++ List.replicate 4 0xFF ++ 0 :: List.replicate 4 0xFF))) ∧
    (∀ (a : Anchor) (x : BcdTime) (sub : Int), s.Takes 0x02 r t → r.body = [] → t.position.anchor = some a →
      -2000000000 ≤ t.position.pos → t.position.pos ≤ 2000000000 →
      x = framesTimecode t.profile ((a.frame + (t.position.pos - a.pos) * t.profile.rate * t.profile.cRoll /
        (1000 * t.profile.vPlay)) % (86400 * t.profile.rate)).toNat →
      sub = a.frame * 100 +
        (t.position.pos - a.pos) * t.profile.rate * t.profile.cRoll * 100 / (1000 * t.profile.vPlay) →
      exec (.readPosition r) s = .next (t.answered 0x02 r .ok
        (wordBytes (BitVec.ofInt 32 t.position.pos) ++
          [if a.kind = .preset then 1 else 2, if t.position.atRest then 1 else 0] ++ wordBytes t.position.tachL ++
          wordBytes t.position.tachR ++ 1 :: (enc4 a.pos ++ enc4u a.frame) ++ [x.hh, x.mm, x.ss, x.ff] ++ 1 :: enc4 sub))) ∧
    (∀ part : Reel → BitVec 32 → Bytes, s.Takes 0x03 r t → r.body = [] →
      (∀ x n, part x n = enc4u x.rEst ++ enc1 x.conf ++ enc1 x.streak ++
        encOpt 6 (x.window.map (fun w => enc1 (if w.dir = .forward then 0 else 1) ++ enc1 w.angle ++ enc4 w.roll)) ++
        enc4u x.inertia ++ enc4u x.remaining ++ enc2 x.torque ++ enc2 x.code ++ enc1 x.sat ++ wordBytes n) →
      exec (.readReelModel r) s = .next (t.answered 0x03 r .ok
        (part t.reelL t.position.tachL ++ part t.reelR t.position.tachR ++ enc4 t.speed.v ++
          enc2 (if t.motion.state.braked = true then 0 else t.speed.aCmd)))) ∧
    (∀ n first : Nat, s.Takes 0x04 r t → r.body = [BitVec.ofNat 8 n, BitVec.ofNat 8 first] → n < 3 → first < 256 →
      ∃ data, exec (.readMoves r) s = .next (t.answered 0x04 r .ok data) ∧
        ((n = 0 ∧ t.motion.queue.length ≤ first) ∨ (n = 1 ∧ (t.motion.active = none ∨ 1 ≤ first)) → data = [0]) ∧
        (n = 2 → ∀ l, l = (t.motion.completions.drop first).take 3 → data = enc1 l.length ++ l.flatMap (fun c =>
          [c.id] ++ enc1 c.result.ctorIdx ++ enc1 ((if c.derated then 1 else 0) + (if c.earlierLost then 2 else 0)) ++
            enc1 c.discarded ++ enc4 c.endPos ++ (match c.endTime with
              | some x => [x.hh, x.mm, x.ss, x.ff]
              | none => [0xFF, 0xFF, 0xFF, 0xFF]) ++ enc4u c.elapsed))) ∧
    (∀ first count n : Nat, s.Takes 0x05 r t → r.body = [BitVec.ofNat 8 first, BitVec.ofNat 8 count] → first < 32 →
      count < 256 → n = min 10 (min count (32 - first)) → t.position.locate.length = 32 →
      exec (.readLocateTable r) s = .next (t.answered 0x05 r .ok (enc1 n ++
        (((t.position.locate.zipIdx).drop first).take n).flatMap (fun x => enc1 x.2 ++ (match x.1 with
          | some e => 1 :: (enc1 e.kind.ctorIdx ++ enc4 e.pos ++ (match e.time with
            | some x => [x.hh, x.mm, x.ss, x.ff]
            | none => [0xFF, 0xFF, 0xFF, 0xFF]))
          | none => 0 :: List.replicate 9 0xFF))))) ∧
    (∀ (n : Nat) (guard : Option Nat → Reel → Bytes), s.Takes 0x06 r t → r.body = [BitVec.ofNat 8 n] → n < 3 →
      (∀ g x, guard g x = encOpt 4 (g.map enc4u) ++ enc4u x.remaining ++ enc1 x.conf) →
      exec (.readZones r) s = .next (t.answered 0x06 r .ok (if n = 2 then
          guard t.zones.guardF t.reelL ++ guard t.zones.guardR t.reelR ++ encOpt 4 (t.zones.ceilF.map enc4u) ++
            encOpt 4 (t.zones.ceilR.map enc4u) ++ encFlag t.zones.descent ++ encFlag t.zones.guardReported
        else ((t.zones.entries.drop (if n = 0 then 0 else 4)).take (if n = 0 then 4 else t.zones.entries.length)).flatMap (fun o =>
          encOpt 16 (o.map (fun z => enc4 z.base ++ enc4 z.limit ++ enc1 z.kind.ctorIdx ++ enc4u z.ceiling ++ encFlag z.contains ++
            encOpt 1 (z.exit.map (fun e => enc1 e.ctorIdx)))))))) ∧
    (s.Takes 0x07 r t → r.body.length = 3 → t.capture.state = .done → t.capture.holder = some r.link →
      bodyU16 r.body 0 ≤ t.capture.samples.flatten.length →
      ∃ items, exec (.readCapture r) s = .next (t.answered 0x07 r .ok
        (BitVec.ofNat 8 (min (min 48 (bodyU8 r.body 2)) (t.capture.samples.flatten.length - bodyU16 r.body 0)) :: items ++
          ((t.capture.samples.flatten.drop (bodyU16 r.body 0)).take (min 48 (bodyU8 r.body 2))).flatMap enc2))) ∧
    (s.Takes 0x08 r t → r.body = [] →
      exec (.readProfile r) s = .next (t.answered 0x08 r .ok
        ((if t.store.invalid then 1 else 0) :: (if t.store.busy then 1 else 0) :: profileBytes t.profile))) ∧
    (∀ n : Nat, s.Takes 0x09 r t → r.body = [BitVec.ofNat 8 n] → n < 2 →
      exec (.readEvents r) s = .next (t.answered 0x09 r .ok
        ([(t.port r.link).mask.extractLsb' 8 8, (t.port r.link).mask.extractLsb' 0 8] ++
          (((t.port r.link).latches.drop (8 * n)).take 8).flatMap (fun o => match o with
            | some l => 1 :: (enc1 l.count ++ enc4 l.value ++ enc4 l.pos ++ [if l.notice then 1 else 0])
            | none => 0 :: List.replicate 10 0xFF))))

/-! ### Resets and start-up (R188 to R193) -/

/-- POWER_ON and RESET_LINE: every block at its reset values, the built-in defaults in force until the load (entry 5), a cut store
write without a valid check; a frame on its way goes on (R189, R190, R193). The settle period begins at once after POWER_ON, and
at the release of the reset input after RESET_LINE. Where the spec gives no value after a reset the value is the model's choice
(entries 4 to 8, 34, 35); so is that a frame on its way no longer asks for a reset (entry 12), that the moments of the last updates,
samples and bytes are kept (entry 1), and the counter of the free values (entry 26). -/
def Obligations.HardResets : Prop :=
  ∀ (s t : State),
    t = { State.reset with
      now := s.now
      startup := ⟨.settle, s.now, .powerOn, .unknown⟩
      pins := s.pins
      position := PositionUnit.fresh s.now
      speed := { State.reset.speed with lastUpdate := s.speed.lastUpdate }
      conv := Converter.fresh s.now
      motion := { State.reset.motion with lastUpdate := s.motion.lastUpdate }
      capstan := { State.reset.capstan with lastUpdate := s.capstan.lastUpdate }
      capture := Capture.idle s.capture.lastEvent
      deck := { LinkPort.fresh with
        lastByte := s.deck.lastByte, sending := s.deck.sending.map (fun o => ⟨o.frame, false⟩) }
      service := { LinkPort.fresh with
        lastByte := s.service.lastByte, sending := s.service.sending.map (fun o => ⟨o.frame, false⟩) }
      ctl := ⟨.free, 0, s.ctl.lastReport, none⟩
      store := if s.store.busy then { s.store with check := none, busy := false } else s.store
      free := s.free
      pending := s.pending } →
    exec .powerOn s = .next t ∧
      exec .resetLine s = .next { t with startup := ⟨.held, s.now, .resetLine, s.motion.state.class⟩ }

/-- RESET_INPUT_RELEASE begins the settle period, with it the conversions from slot 0 (R49, R190), and else does nothing.
SETTLE_PERIOD_END: 200 ms after its start the settle period ends, the load begins, and the four inputs are read: with none
asserted nothing else happens, and each that is found asserted latches its kind, which takes the transport to BRAKING and at rest
to FAULT (R168, R174, R175, R190). Outside the settle period the command has no effect (entry 2), and the release does not start the
rest timer again (entry 55). How the clock comes to its moments is the model's choice (entry 1). -/
def Obligations.SettlePeriod : Prop :=
  ∀ s u : State,
    (s.startup.phase = .held → exec .resetInputRelease s = .next { s with
      startup := { s.startup with phase := .settle, start := s.now }, conv := { s.conv with lastDone := s.now } }) ∧
    (s.startup.phase ≠ .held → exec .resetInputRelease s = .next s) ∧
    (s.startup.phase ≠ .settle → exec .settlePeriodEnd s = .next s) ∧
    (s.startup.phase = .settle →
      u = { s with
        now := max s.now (s.startup.start + Config.msec 200), startup := { s.startup with phase := .load } } →
      (s.pins.faultL = false → s.pins.faultR = false → s.pins.faultC = false → s.pins.supplyWarning = false → u.Settled →
        exec .settlePeriodEnd s = .next u) ∧
      (s.pins.faultL = true ∨ s.pins.faultR = true ∨ s.pins.faultC = true ∨ s.pins.supplyWarning = true →
        s.motion.state = .unthreaded → s.faults.set = [] →
        ∃ t, exec .settlePeriodEnd s = .next t ∧ t.now = u.now ∧ t.startup = u.startup ∧
          t.motion.state = (if s.position.atRest then .fault else .braking) ∧
          ∀ k, k ∈ t.faults.set ↔ (k = .driveL ∧ s.pins.faultL = true) ∨ (k = .driveR ∧ s.pins.faultR = true) ∨
            (k = .driveC ∧ s.pins.faultC = true) ∨ (k = .supplyLow ∧ s.pins.supplyWarning = true)))

/-- PROFILE_LOAD_DONE: the stored fields become the working copy when the check agrees and every field is valid, else the built-in
defaults with the invalid flag set; the reels start from its sizing radius, the receivers open, and each transmitter is handed the
Start-up Notice, at once when it is idle and behind the frame it is sending else (R22, R189, R190, R191). That a loaded frame rate
other than the one in force before makes the reference ABSENT, as R128 gives for a written one, is the model's choice (entry 5).
Outside the load the command has no effect (entry 2). -/
def Obligations.ProfileLoadDone : Prop :=
  ∀ s : State,
    (s.startup.phase ≠ .load → exec .profileLoadDone s = .next s) ∧
    (s.startup.phase = .load → s.capture = Capture.idle s.capture.lastEvent →
      ∃ t, exec .profileLoadDone s = .next t ∧ t.startup = { s.startup with phase := .running } ∧
        (∀ good f, good = decide (s.store.check = some (crc16 s.store.bytes) ∧ profileOk (profileOfBytes s.store.bytes) = true) →
          f = ⟨0x40, 0, [BitVec.ofNat 8 s.startup.kind.ctorIdx, BitVec.ofNat 8 s.startup.prior.ctorIdx,
            if good then 1 else 0, 0, 0xFF, 0]⟩ →
          t.profile = (if good then profileOfBytes s.store.bytes else Config.defaultProfile) ∧
          t.store = { s.store with invalid := !good } ∧
          t.deck = (match s.deck.sending with
            | none => { s.deck with sending := some ⟨f, false⟩ }
            | some _ => { s.deck with notice := some f }) ∧
          t.service = (match s.service.sending with
            | none => { s.service with sending := some ⟨f, false⟩ }
            | some _ => { s.service with notice := some f })) ∧
        t.reelL.conf = 0 ∧ t.reelL.rEst = t.profile.rSizing ∧ t.reelR.conf = 0 ∧ t.reelR.rEst = t.profile.rSizing ∧
        t.chase = (if s.profile.rate = t.profile.rate then s.chase else { s.chase with
          present := false, run := 0, lastFrame := none, lastSub := none, lossTimer := none }) ∧
        t.motion = { s.motion with accel := t.profile.accel } ∧ t.position = s.position ∧ t.now = s.now)

/-- DEFERRED_RESET: a pending reset is performed at rest with the transport neither HALTING nor BRAKING, and not before; a capture
of the service link outlives DECK_REQUEST, cut to DONE when it was under way (R166, R188, R189, R190). A fault input found asserted
latches its kind at the moment of the reset, which takes the transport to BRAKING (R168, R174). With no reset pending the command
has no effect (entry 2); where the spec gives no value after a reset the value is the model's choice (entries 4, 12, 34, 35). -/
def Obligations.DeferredReset : Prop :=
  ∀ (s : State) (k : ResetKind),
    (s.ctl.resetPending = none ∨ s.position.atRest = false ∨ s.motion.state = .halting ∨ s.motion.state = .braking →
      exec .deferredReset s = .next s) ∧
    (s.ctl.resetPending = some k → k = .deckRequest ∨ k = .serviceRequest → s.position.atRest = true →
      s.motion.state ≠ .halting → s.motion.state ≠ .braking →
      ∃ t, exec .deferredReset s = .next t ∧
        (s.pins.faultL = false → s.pins.faultR = false → s.pins.faultC = false → s.pins.supplyWarning = false →
          t.RestartedFrom s k) ∧
        (s.pins.faultL = true ∨ s.pins.faultR = true ∨ s.pins.faultC = true ∨ s.pins.supplyWarning = true →
          t.RestartedInFault s k) ∧
        (k = .deckRequest → s.capture.holder = some .service →
          (s.capture.state = .done → t.capture = s.capture) ∧
          (s.capture.state = .armed ∨ s.capture.state = .running ∨ s.capture.state = .triggered →
            t.capture = { s.capture with state := .done, reason := some .resetCut, startComp := none, endComp := none })))

/-! ### The transmitters (R182) -/

/-- The transmitters. A link whose transmitter is idle takes of what waits for it, in this order, a Start-up Notice, the oldest
pending reply, on the notice link the oldest completion record, which leaves the list, the lowest-numbered pending event, whose flag
clears, and the position report; with nothing waiting it stays idle, and a transmitter that is sending, or one of a part that is not
yet running, takes nothing (R86, R182, R189, R190). TRANSMIT_DONE makes its transmitter idle, which then takes; the reply of an
at-rest Reset Part is followed by the reset (R188). At the end of a step in which something may come to wait both links take in this
way, and that changes nothing but what waits and what is being sent. That what came to wait in one step is ranked together is the
model's choice (entry 10), as are the values after a reset that the spec does not give (entries 4, 12, 34, 35). -/
def Obligations.TransmitDone : Prop :=
  (∀ (s : State) (l : Link) (p : LinkPort),
    p = s.port l →
    (s.startup.phase = .running →
      (∀ f, p.sending = some ⟨f, true⟩ → ∃ t, exec (.transmitDone l) s = .next t ∧
        (s.pins.faultL = false → s.pins.faultR = false → s.pins.faultC = false → s.pins.supplyWarning = false →
          t.RestartedFrom (s.withPort l { p with sending := none }) (Link.resetKind l)) ∧
        (s.pins.faultL = true ∨ s.pins.faultR = true ∨ s.pins.faultC = true ∨ s.pins.supplyWarning = true →
          t.RestartedInFault s (Link.resetKind l))) ∧
      (p.sending = none →
        (∀ f, p.notice = some f → s.feed l = s.withPort l { p with notice := none, sending := some ⟨f, false⟩ }) ∧
        (p.notice = none →
          (∀ o rest, p.replies = o :: rest → s.feed l = s.withPort l { p with replies := rest, sending := some o }) ∧
          (p.replies = [] →
            (∀ c rest, s.motion.completions = c :: rest → s.noticeLink = l →
              s.feed l = ({ s with motion := { s.motion with completions := rest } }).withPort l
                { p with sending := some ⟨⟨0x41, 0, c.bytes⟩, false⟩ }) ∧
            (s.motion.completions = [] ∨ s.noticeLink ≠ l →
              (∀ i x, p.latches[i]? = some (some x) → x.notice = true →
                (∀ j y, j < i → p.latches[j]? = some (some y) → y.notice = false) →
                s.feed l = s.withPort l { p with
                  latches := p.latches.set i (some { x with notice := false })
                  sending := some ⟨⟨0x42, 0, enc1 i ++ enc1 x.count ++ enc4 x.value ++ enc4 x.pos⟩, false⟩ }) ∧
              ((∀ y, some y ∈ p.latches → y.notice = false) →
                (∀ b, p.report = some b →
                  s.feed l = s.withPort l { p with report := none, sending := some ⟨⟨0x43, 0, b⟩, false⟩ }) ∧
                (p.report = none → s.feed l = s))))))) ∧
    ((∀ f, p.sending ≠ some ⟨f, true⟩) →
      exec (.transmitDone l) s = .next ((s.withPort l { p with sending := none }).feed l)) ∧
    (p.sending ≠ none ∨ s.startup.phase ≠ .running → s.feed l = s)) ∧
  ∀ s : State, s.handOver = (s.feed .deck).feed .service ∧ ∃ (deck service : LinkPort) (left : List Completion),
    s.handOver = { s with deck := deck, service := service, motion := { s.motion with completions := left } } ∧
    (left = s.motion.completions ∨ left = s.motion.completions.drop 1) ∧
    ∀ old new : LinkPort, (old, new) ∈ [(s.deck, deck), (s.service, service)] →
      new.rx = old.rx ∧ new.part = old.part ∧ new.lastByte = old.lastByte ∧ new.mask = old.mask ∧
        new.latches.map (Option.map (fun x => { x with notice := false })) =
          old.latches.map (Option.map (fun x => { x with notice := false }))

/-! ### Counts, radius windows, rest (01, 02) -/

/-- ROLLER_COUNT: the count enters the open windows and the speed interval, the tape ceases to be at rest and the rest timer
restarts; the position moves by one, unless the limit absorbs the count. With no zone edge crossed, no comparator hit and nothing
due, that is all. With the reset input held the encoders are not read (R1, R3, R4, R24; entry 11). -/
def Obligations.RollerCount : Prop :=
  ∀ (s u v : State) (d : Direction) (x : Int),
    x = s.position.pos + dirSign d →
    u = { s with
      position := { s.position with atRest := false, restStart := s.now }
      speed := { s.speed with cur := s.speed.cur + dirSign d }
      reelL := { s.reelL with window := s.reelL.window.map (fun w => { w with roll := w.roll + dirSign d }) }
      reelR := { s.reelR with window := s.reelR.window.map (fun w => { w with roll := w.roll + dirSign d }) } } →
    v = { u with position := { u.position with pos := x } } →
    (s.startup.phase = .held → exec (.rollerCount d) s = .next s) ∧
    (s.startup.phase ≠ .held →
      (x < -2000000000 ∨ 2000000000 < x → exec (.rollerCount d) s = .next u) ∧
      (-2000000000 ≤ x → x ≤ 2000000000 →
        (∀ z, some z ∈ s.zones.entries → (z.contains = true ↔ z.base ≤ x ∧ x ≤ z.limit)) →
        (∀ c, some c ∈ s.comps → c.state = .armed → c.target = x →
          (c.sense = .forward ∧ d = .reverse) ∨ (c.sense = .reverse ∧ d = .forward)) →
        v.Settled → exec (.rollerCount d) s = .next v.handOver))

/-- A step of the position across a zone's edge: entry sets the containment flag and, for a BARRIER, the exit direction back
across that edge; exit clears both. When just one NOTIFY zone is crossed, no comparator is hit and nothing is due, the one other
effect is that ZONE is reported to the notice link's table with that index, ENTER or EXIT, and the position of the step (R118,
R183). -/
def Obligations.ZoneCrossing : Prop :=
  ∀ (s : State) (d : Direction) (x : Int) (entries : List (Option Zone)),
    x = s.position.pos + dirSign d → s.startup.phase ≠ .held → -2000000000 ≤ x → x ≤ 2000000000 →
    entries = s.zones.entries.map (fun o => o.map (fun z =>
      if z.contains = true then if z.base ≤ x ∧ x ≤ z.limit then z else { z with contains := false, exit := none }
      else if z.base ≤ x ∧ x ≤ z.limit then { z with
        contains := true
        exit := if z.kind = .barrier then some (if d = .forward then .reverse else .forward) else none }
      else z)) →
    (∃ t : State, exec (.rollerCount d) s = .next t.handOver ∧ t.position.pos = x ∧ t.zones.entries = entries) ∧
    (∀ (i : Nat) (z : Zone) (u : State), s.zones.entries[i]? = some (some z) → z.kind = .notify →
      (z.contains = true ↔ ¬(z.base ≤ x ∧ x ≤ z.limit)) →
      (∀ (j : Nat) (y : Zone), j ≠ i → s.zones.entries[j]? = some (some y) → y.kind = .notify →
        (y.contains = true ↔ y.base ≤ x ∧ x ≤ y.limit)) →
      (∀ c, some c ∈ s.comps → c.state ≠ .armed ∨ c.target ≠ x) →
      u = State.reportTo { s with
        position := { s.position with pos := x, atRest := false, restStart := s.now }
        speed := { s.speed with cur := s.speed.cur + dirSign d }
        reelL := { s.reelL with window := s.reelL.window.map (fun w => { w with roll := w.roll + dirSign d }) }
        reelR := { s.reelR with window := s.reelR.window.map (fun w => { w with roll := w.roll + dirSign d }) }
        zones := { s.zones with entries := entries } } s.noticeLink .zone (if z.contains = true then i * 2 + 1 else i * 2) x →
      u.Settled → exec (.rollerCount d) s = .next u.handOver)

/-- A watch that hits is freed and WATCH_HIT is reported to the notice link's table with its index and its target; a comparator
that is not ARMED, or whose sense does not admit the count, makes no hit (R157, R158, R159). A hit of the active WIND's comparator
ends it DONE at its target, and with the queue then empty the transport halts: the record joins the completion list, the
comparator is FREE, HALTING is entered toward STOPPED with a_stop in force (R77, R80, R96, R104). -/
def Obligations.ComparatorHits : Prop :=
  (∀ (s u : State) (d : Direction) (x : Int) (i : Nat) (c : Comparator),
    x = s.position.pos + dirSign d → s.startup.phase ≠ .held → -2000000000 ≤ x → x ≤ 2000000000 →
    (∀ z, some z ∈ s.zones.entries → (z.contains = true ↔ z.base ≤ x ∧ x ≤ z.limit)) →
    s.comps[i]? = some (some c) → c.user = .watch → c.state = .armed → c.target = x →
    c.sense = .either ∨ (c.sense = .forward ∧ d = .forward) ∨ (c.sense = .reverse ∧ d = .reverse) →
    (∀ (j : Nat) (e : Comparator), j ≠ i → s.comps[j]? = some (some e) → e.state = .armed → e.target = x →
      (e.sense = .forward ∧ d = .reverse) ∨ (e.sense = .reverse ∧ d = .forward)) →
    u = State.reportTo { s with
      position := { s.position with pos := x, atRest := false, restStart := s.now }
      speed := { s.speed with cur := s.speed.cur + dirSign d }
      reelL := { s.reelL with window := s.reelL.window.map (fun w => { w with roll := w.roll + dirSign d }) }
      reelR := { s.reelR with window := s.reelR.window.map (fun w => { w with roll := w.roll + dirSign d }) }
      comps := s.comps.set i none } s.noticeLink .watchHit i x →
    u.Settled → exec (.rollerCount d) s = .next u.handOver) ∧
  ∀ (s : State) (d : Direction) (x : Int) (i : Nat) (c : Comparator) (a : ActiveMove) (r : MoveRecord),
    x = s.position.pos + dirSign d → s.startup.phase ≠ .held → -2000000000 ≤ x → x ≤ 2000000000 →
    (∀ (j : Nat) (e : Comparator), j ≠ i → s.comps[j]? ≠ some (some e)) → s.comps[i]? = some (some c) → c.user = .move →
      c.slot = some r.slot →
    c.state = .armed → c.target = x → c.sense = (if d = .forward then .forward else .reverse) →
    s.motion.state = .winding → s.motion.active = some a → a.kind = .wind → s.motion.queue = [r] → r.comp = some i →
    s.motion.completions.length < 16 → s.armL.state = .normal → s.armR.state = .normal → s.faults.set = [] →
    ∃ t : State, exec (.rollerCount d) s = .next t.handOver ∧ t.position.pos = x ∧ t.motion.queue = [] ∧ t.motion.active = none ∧
      t.motion.completions = s.motion.completions ++
        [⟨r.id, .done, x, s.timeAt x, min 4294967295 ((s.now - a.start) / Config.msec 1), a.derated, 0, false⟩] ∧
      t.motion.state = .halting ∧ t.motion.halt = some ⟨false, .stopped, true⟩ ∧ t.motion.accel = s.profile.aStop ∧
      t.motion.vRef = s.motion.vRef ∧ t.comps = s.comps.set i none

/-- REEL_COUNT: the reel's tach count moves by one, wrapping at 32 bits. In a braked state that is all. Else a count with no window
open opens one, a count of the window's sign advances its angle, and one of the other sign discards the window and opens its own
(R2, R23, R24, R25).
That the encoders are not read while the reset input is held is the model's choice (entry 11). -/
def Obligations.ReelCount : Prop :=
  ∀ (s u : State) (r : Side) (d : Direction),
    u = { s with position := match r with
      | .left => { s.position with tachL := s.position.tachL + BitVec.ofInt 32 (dirSign d) }
      | .right => { s.position with tachR := s.position.tachR + BitVec.ofInt 32 (dirSign d) } } →
    (s.startup.phase = .held → exec (.reelCount r d) s = .next s) ∧
    (s.startup.phase ≠ .held →
      (s.motion.state.braked = true → exec (.reelCount r d) s = .next u) ∧
      (s.motion.state.braked = false → s.DerivedOk → ∀ w v : State,
        w = u.withReel r { s.reel r with window := some ⟨d, 0, 0, s.now⟩ } →
        ((s.reel r).window = none ∨ (∃ o, (s.reel r).window = some o ∧ o.dir ≠ d) → w.Settled →
          exec (.reelCount r d) s = .next w.handOver) ∧
        (∀ o, (s.reel r).window = some o → o.dir = d → o.angle < 255 →
          v = u.withReel r { s.reel r with window := some { o with angle := o.angle + 1 } } → v.Settled →
          exec (.reelCount r d) s = .next v.handOver)))

/-- The 256th count closes a window: the measurement is floor(|Δn_roll| × C_roll × 2 / 6,283). A plausible one, clamped to hub and
flange, replaces the estimate at confidence 0 and is averaged in with weight one quarter above; confidence rises to at most 8, J,
L_rem and the guard follow. An implausible one only lengthens the streak, and the third latches RADIUS_LOST (R27, R28, R29, R30,
R34, R35, R172). In the MEASURE of SIZING the window that brings the second of the reels to confidence 4 ends the phase: RETURN
begins, with a locate in REVERSE to the start position (R107). -/
def Obligations.WindowClose : Prop :=
  ∀ (s u : State) (r : Side) (d : Direction) (o : Window) (m : Nat) (q : Reel),
    s.startup.phase ≠ .held → s.motion.state.braked = false → s.DerivedOk → s.ProfileOk →
    (s.reel r).window = some o → o.dir = d → o.angle = 255 → m = o.roll.natAbs * s.profile.cRoll * 2 / 6283 →
    u = { s with position := match r with
      | .left => { s.position with tachL := s.position.tachL + BitVec.ofInt 32 (dirSign d) }
      | .right => { s.position with tachR := s.position.tachR + BitVec.ofInt 32 (dirSign d) } } →
    (s.profile.rHub * 95 / 100 ≤ m → m ≤ s.profile.rFlange * 105 / 100 →
      q.rEst = (if (s.reel r).conf = 0 then max s.profile.rHub (min s.profile.rFlange m)
        else (3 * (s.reel r).rEst + max s.profile.rHub (min s.profile.rFlange m)) / 4) →
      q = { s.reel r with
        rEst := q.rEst
        conf := min ((s.reel r).conf + 1) 8
        window := none
        streak := 0
        inertia := s.profile.jHub + s.profile.kPack * ((q.rEst / 1000) ^ 4 - (s.profile.rHub / 1000) ^ 4) / 10000000
        remaining := 355 * (q.rEst ^ 2 - s.profile.rHub ^ 2) / (113 * s.profile.thickness) } →
      ∀ v : State, v = { u.withReel r q with zones := match r with
        | .left => { s.zones with guardF := guardSpec s.profile q }
        | .right => { s.zones with guardR := guardSpec s.profile q } } →
      v.Settled → exec (.reelCount r d) s = .next v.handOver) ∧
    (m < s.profile.rHub * 95 / 100 ∨ s.profile.rFlange * 105 / 100 < m → (s.reel r).streak < 2 →
      ∀ v : State, v = u.withReel r { s.reel r with window := none, streak := (s.reel r).streak + 1 } → v.Settled →
      exec (.reelCount r d) s = .next v.handOver) ∧
    (m < s.profile.rHub * 95 / 100 ∨ s.profile.rFlange * 105 / 100 < m → (s.reel r).streak = 2 → s.Calm →
      ∃ t : State, exec (.reelCount r d) s = .next t.handOver ∧ t.faults.set = [.radiusLost] ∧
        t.faults.primary = some ⟨.radiusLost, s.position.pos, s.motion.state⟩ ∧ (t.reel r).streak = 0 ∧
        (t.reel r).rEst = (s.reel r).rEst ∧ (t.reel r).conf = (s.reel r).conf) ∧
    (∀ z, s.profile.rHub * 95 / 100 ≤ m → m ≤ s.profile.rFlange * 105 / 100 → s.motion.state = .sizing →
      s.motion.sizing = some z → z.phase = .measure → s.Calm → s.position.atRest = false → 3 ≤ (s.reel r).conf →
      4 ≤ (match r with
        | .left => s.reelR
        | .right => s.reelL).conf →
      ∃ (t : State) (l : LocateCtx), exec (.reelCount r d) s = .next t.handOver ∧ l.dir = .reverse ∧ l.target = z.startPos ∧
        t.motion = { s.motion with sizing := some { z with phase := .returning, reversals := 0 }, locate := some l } ∧
        (t.reel r).conf = min ((s.reel r).conf + 1) 8)

/-- A window still open 2,000 ms after its opening time is discarded; the estimate, the confidence and the streak are not changed,
and the reel has no window until its next reel count, which opens a new one (R26). How the clock comes to its moments is the
model's choice (entry 1). -/
def Obligations.WindowTimeout : Prop :=
  ∀ (s t : State) (r : Side) (o : Window),
    (s.reel r).window = some o →
    t = { s.withReel r { s.reel r with window := none } with now := max s.now (o.opened + Config.msec 2000) } →
    exec (.windowTimeout r) s = .next t ∧
      ∀ (d : Direction) (u : State), t.startup.phase ≠ .held → t.motion.state.braked = false → t.DerivedOk →
        u = { t.withReel r { t.reel r with window := some ⟨d, 0, 0, t.now⟩ } with
          position := match r with
            | .left => { t.position with tachL := t.position.tachL + BitVec.ofInt 32 (dirSign d) }
            | .right => { t.position with tachR := t.position.tachR + BitVec.ofInt 32 (dirSign d) } } →
        u.Settled → exec (.reelCount r d) t = .next u.handOver

/-- REST_TIMER_EXPIRY: 100 ms after the last roller count the tape becomes at rest. A tape already at rest makes the command do
nothing (entry 2). With nothing due of that, nothing else happens; BRAKING ends in FAULT (R175); HALTING with the reference at 0 and
no pinch to release ends in FAULT with a fault latched, and else at its destination (R3, R104). A SETTLE phase is left: within the
locate tolerance the LOCATE ends DONE and, with the queue then empty, the transport comes to STOPPED; short of the target in the
locate's direction the phase becomes CREEP in that direction with the passes counted unchanged (R96, R99). A tape that lies past the
target by more than the tolerance takes the pass in this step: the direction turns into CREEP and one pass is counted, or the fourth
pass ends the move OVERSHOOT and the transport, at rest, comes to STOPPED; R99 gives the pass test at the updates alone, and that it
is made here, as 95_what_each_step_holds.md lists it for this step, is the model's choice (entry 16). The RETURN of SIZING, whose
target is the start position, goes by the same phases: within the tolerance it ends in STOPPED with SIZING_DONE SIZED, short of the
start it creeps on, past it a pass is counted by the sizing context, and the fourth pass ends it early with SIZED by a halt that, at
rest, comes to STOPPED at once (R99, R104, R107). How the clock comes to its moments is the model's choice (entry 1), as is that the
timer runs while the reset input is held (entry 55). -/
def Obligations.RestTimerExpiry : Prop :=
  (∀ s u : State,
    u = { s with
      now := max s.now (s.position.restStart + Config.msec 100), position := { s.position with atRest := true } } →
    (s.position.atRest = true → exec .restTimerExpiry s = .next s) ∧
    (s.position.atRest = false →
      (s.motion.locate = none → u.Settled → exec .restTimerExpiry s = .next u.handOver) ∧
      (s.motion.locate = none → s.motion.state = .braking →
        ∃ t : State, exec .restTimerExpiry s = .next t.handOver ∧ t.motion.state = .fault ∧ t.motion.brakingTimer = none ∧
          t.motion.brakeRelease = false ∧ t.faults.set = s.faults.set) ∧
      (∀ h, s.motion.locate = none → s.motion.state = .halting → s.motion.halt = some h → h.pinchDone = true →
        s.motion.vRef = 0 → s.motion.pinchTimer = none → s.motion.queue = [] → s.motion.active = none →
        s.armL.state = .normal → s.armR.state = .normal →
        ∃ t : State, exec .restTimerExpiry s = .next t.handOver ∧ t.motion.halt = none ∧ t.faults.set = s.faults.set ∧
          t.motion.state = (if s.faults.set ≠ [] then .fault else
            match h.dest with
            | .stopped => .stopped
            | .unthreaded => .unthreaded)))) ∧
  (∀ (s : State) (l : LocateCtx) (a : ActiveMove) (r : MoveRecord),
    s.position.atRest = false → s.motion.state = .winding → s.motion.locate = some l → l.phase = .settle →
    s.motion.active = some a → a.kind = .locate → s.motion.queue = [r] → s.motion.sizing = none → s.chase.seek = none →
    s.armL.state = .normal → s.armR.state = .normal → s.faults.set = [] → s.motion.pinchTimer = none → s.motion.vRef = 0 →
    ((s.position.pos - l.target).natAbs ≤ s.profile.tolerance → s.motion.completions.length < 16 →
      ∃ t : State, exec .restTimerExpiry s = .next t.handOver ∧ t.motion.state = .stopped ∧ t.motion.queue = [] ∧
        t.motion.active = none ∧
        t.motion.locate = none ∧ t.motion.completions = s.motion.completions ++ [⟨r.id, .done, s.position.pos,
          s.timeAt s.position.pos,
          min 4294967295 ((max s.now (s.position.restStart + Config.msec 100) - a.start) / Config.msec 1), a.derated, 0,
          false⟩]) ∧
    ((l.dir = .forward ∧ s.position.pos + s.profile.tolerance < l.target) ∨
        (l.dir = .reverse ∧ l.target + s.profile.tolerance < s.position.pos) →
      ∃ t : State, exec .restTimerExpiry s = .next t.handOver ∧ t.motion.state = .winding ∧
        t.motion.locate = some { l with phase := .creep } ∧
        t.motion.queue = [r] ∧ t.motion.active = some a) ∧
    ((l.dir = .forward ∧ l.target + s.profile.tolerance < s.position.pos) ∨
        (l.dir = .reverse ∧ s.position.pos + s.profile.tolerance < l.target) →
      (a.reversals < 3 →
        ∃ t : State, exec .restTimerExpiry s = .next t.handOver ∧ t.motion.state = .winding ∧
          t.motion.locate = some ⟨.creep, if l.dir = .forward then .reverse else .forward, l.target⟩ ∧
          t.motion.queue = [r] ∧ t.motion.active = some { a with reversals := a.reversals + 1 }) ∧
      (a.reversals = 3 → s.motion.completions.length < 16 →
        ∃ t : State, exec .restTimerExpiry s = .next t.handOver ∧ t.motion.state = .stopped ∧ t.motion.vRef = 0 ∧
          t.motion.queue = [] ∧ t.motion.active = none ∧ t.motion.locate = none ∧
          t.motion.completions = s.motion.completions ++
            [({ s with now := max s.now (s.position.restStart + Config.msec 100) }).recordFor r a .overshoot 0]))) ∧
  ∀ (s : State) (l : LocateCtx) (z : SizingCtx),
    s.position.atRest = false → s.motion.state = .sizing → s.motion.sizing = some z → z.phase = .returning →
    s.motion.locate = some l → l.phase = .settle → s.motion.queue = [] → s.motion.active = none → s.motion.vRef = 0 → s.Calm →
    ((s.position.pos - l.target).natAbs ≤ s.profile.tolerance →
      ∃ t : State, exec .restTimerExpiry s = .next t.handOver ∧ t.motion.state = .stopped ∧ t.motion.sizing = none ∧
        t.motion.locate = none ∧ t.Reported s .sizingDone 0) ∧
    ((l.dir = .forward ∧ s.position.pos + s.profile.tolerance < l.target) ∨
        (l.dir = .reverse ∧ l.target + s.profile.tolerance < s.position.pos) →
      ∃ t : State, exec .restTimerExpiry s = .next t.handOver ∧
        t.motion = { s.motion with locate := some { l with phase := .creep } }) ∧
    ((l.dir = .forward ∧ l.target + s.profile.tolerance < s.position.pos) ∨
        (l.dir = .reverse ∧ s.position.pos + s.profile.tolerance < l.target) →
      (z.reversals < 3 →
        ∃ t : State, exec .restTimerExpiry s = .next t.handOver ∧ t.motion = { s.motion with
          sizing := some { z with reversals := z.reversals + 1 }
          locate := some ⟨.creep, if l.dir = .forward then .reverse else .forward, l.target⟩ }) ∧
      (z.reversals = 3 →
        ∃ t : State, exec .restTimerExpiry s = .next t.handOver ∧ t.motion.state = .stopped ∧ t.motion.sizing = none ∧
          t.motion.locate = none ∧ t.motion.vRef = 0 ∧ t.Reported s .sizingDone 0))

/-! ### Timecode words (R9 to R13) -/

/-- TAPE_TIMECODE_WORD. An unusable word only empties the chain (R9). A word within one frame of the anchor's prediction refreshes
the anchor to TAPE at the position and empties the chain (R10, R11). Any other extends the chain when it follows its last frame in
its direction and starts a new chain otherwise; the third in a row sets a TAPE anchor, recomputes every stored timecode and, when
there was an anchor, reports REANCHOR with the reduced, clamped jump (R12, R13). The last frame 0 and the direction FORWARD of an
emptied chain are the model's choice (entry 4). -/
def Obligations.TapeTimecodeWord : Prop :=
  ∀ (s : State) (w : BcdTime) (rev : Bool) (usable : Prop) (day : Nat),
    day = 86400 * s.profile.rate →
    (usable ↔ (timecodeFrames s.profile w).isSome = true ∧ (s.profile.vPlay : Int) ≤ 10 * |s.speed.v| ∧
      |s.speed.v| ≤ 10 * s.profile.vPlay ∧ (rev = false → 0 < s.speed.v) ∧ (rev = true → s.speed.v < 0)) →
    (¬usable → exec (.tapeTimecodeWord w rev) s =
      .next { s with position := { s.position with chain := { s.position.chain with len := 0 } } }) ∧
    (∀ f, usable → timecodeFrames s.profile w = some f →
      (∀ a fp, s.position.anchor = some a →
        fp = (a.frame + (s.position.pos - a.pos) * s.profile.rate * s.profile.cRoll / (1000 * s.profile.vPlay)) % day →
        |(f - fp + day / 2) % day - day / 2| ≤ 1 →
        exec (.tapeTimecodeWord w rev) s = .next { s with position := { s.position with
          anchor := some ⟨.tape, s.position.pos, f⟩, chain := ⟨0, 0, .forward⟩ } }) ∧
      (∀ n : Nat,
        (∀ a fp, s.position.anchor = some a →
          fp = (a.frame + (s.position.pos - a.pos) * s.profile.rate * s.profile.cRoll / (1000 * s.profile.vPlay)) % day →
          1 < |(f - fp + day / 2) % day - day / 2|) →
        n = (if s.position.chain.len ≠ 0 ∧ (s.position.chain.dir = .reverse ↔ rev = true) ∧
            (f : Int) = (s.position.chain.last + (if rev = true then -1 else 1)) % day then s.position.chain.len + 1 else 1) →
        (n < 3 → exec (.tapeTimecodeWord w rev) s = .next (State.handOver { s with position := { s.position with
          chain := ⟨n, f, if rev = true then .reverse else .forward⟩ } })) ∧
        (3 ≤ n → ∀ u : State,
          u = { s with position := { s.position with
            anchor := some ⟨.tape, s.position.pos, f⟩
            chain := ⟨0, 0, .forward⟩
            locate := s.position.locate.map (fun o => o.map (fun e => { e with
              time := some (framesTimecode s.profile
                (((f : Int) + (e.pos - s.position.pos) * s.profile.rate * s.profile.cRoll / (1000 * s.profile.vPlay)) %
                  day).toNat) })) } } →
          (s.position.anchor = none → exec (.tapeTimecodeWord w rev) s = .next u.handOver) ∧
          (∀ a fp, s.position.anchor = some a →
            fp = (a.frame + (s.position.pos - a.pos) * s.profile.rate * s.profile.cRoll / (1000 * s.profile.vPlay)) % day →
            exec (.tapeTimecodeWord w rev) s = .next (u.reportTo s.noticeLink .reanchor
              (max (-32767) (min 32767 ((f - fp + day / 2) % day - day / 2))) s.position.pos).handOver))))

/-! ### Samples and input lines (03, 10) -/

/-- CONVERSION_COMPLETE: 15.625 µs on, the pointer advances from 15 to 0, or a pending schedule takes over from its slot 0; an
IDLE slot hands nothing on (R48, R52). A current code becomes the motor's current code and counts as a mismatch when it differs by
more than 512 from the drive code standing; the counter saturates at 64, where the motor's DRIVE kind is latched (R53, R169). A
supply code counts when below the supply-low code, saturating at 16, where SUPPLY_LOW is latched (R54, R170). In the settle period
neither is judged (R168). That no conversion runs while the reset input is held is the
model's choice (entry 11), and so is how the clock comes to its moments (entry 1). -/
def Obligations.ConversionComplete : Prop :=
  ∀ (s : State) (raw : BitVec 12) (c : Converter),
    (s.startup.phase = .held → exec (.conversionComplete raw) s = .next s) ∧
    (s.startup.phase ≠ .held →
      c = (match s.conv.pendingSchedule with
        | some sc => { s.conv with
            schedule := sc, pendingSchedule := none, ptr := 0, lastDone := max s.now (s.conv.lastDone + 125) }
        | none => { s.conv with ptr := (s.conv.ptr + 1) % 16, lastDone := max s.now (s.conv.lastDone + 125) }) →
      (∀ u : State, s.conv.schedule[s.conv.ptr]? = some .idle →
        u = { s with now := max s.now (s.conv.lastDone + 125), conv := c } → u.Settled →
        exec (.conversionComplete raw) s = .next u.handOver) ∧
      (∀ (m : Motor) (nul scale old n : Nat) (drive code : Int) (u : State),
        s.conv.schedule[s.conv.ptr]? = some (match m with
          | .left => .curL
          | .right => .curR
          | .capstan => .curC) →
        (nul, scale, drive, old) = (match m with
          | .left => (s.profile.zeroL, s.profile.scaleL, s.reelL.code, s.faults.mismL)
          | .right => (s.profile.zeroR, s.profile.scaleR, s.reelR.code, s.faults.mismR)
          | .capstan => (s.profile.zeroC, s.profile.scaleC, s.capstan.code, s.faults.mismC)) →
        code = max (-2047) (min 2047 (Int.tdiv (((raw.toNat : Int) - nul) * scale) 256)) →
        n = (if s.startup.phase = .settle then old else if 512 < |code - drive| then min 64 (old + 1) else 0) →
        u = (match m with
          | .left => { s with
              now := max s.now (s.conv.lastDone + 125), conv := { c with curL := raw.toNat, codeL := code }
              faults := { s.faults with mismL := n } }
          | .right => { s with
              now := max s.now (s.conv.lastDone + 125), conv := { c with curR := raw.toNat, codeR := code }
              faults := { s.faults with mismR := n } }
          | .capstan => { s with
              now := max s.now (s.conv.lastDone + 125), conv := { c with curC := raw.toNat, codeC := code }
              faults := { s.faults with mismC := n } }) →
        (n < 64 → u.Settled → exec (.conversionComplete raw) s = .next u.handOver) ∧
        (n = 64 → s.startup.phase ≠ .settle →
          ∃ t : State, exec (.conversionComplete raw) s = .next t.handOver ∧ t.conv = u.conv ∧ (match m with
            | .left => .driveL
            | .right => .driveR
            | .capstan => .driveC) ∈ t.faults.set)) ∧
      (∀ (n : Nat) (u : State), s.conv.schedule[s.conv.ptr]? = some .supply →
        n = (if s.startup.phase = .settle then s.faults.supply
          else if raw.toNat < s.profile.supplyLow then min 16 (s.faults.supply + 1) else 0) →
        u = { s with
          now := max s.now (s.conv.lastDone + 125), conv := { c with supply := raw.toNat }
          faults := { s.faults with supply := n } } →
        (n < 16 → u.Settled → exec (.conversionComplete raw) s = .next u.handOver) ∧
        (n = 16 → s.startup.phase ≠ .settle →
          ∃ t : State, exec (.conversionComplete raw) s = .next t.handOver ∧ t.conv = u.conv ∧ .supplyLow ∈ t.faults.set)))

/-- An arm sample gives the arm's F_meas. In NORMAL a sample below the slack threshold lengthens the slack run and one above the
over threshold the over run, in SLACK or OVER a sample past the threshold by the hysteresis lengthens the return run, and any other
sets the run to 0; a run that reaches its count changes the state, sets the runs to 0 and reports TENSION_L or TENSION_R with the
state entered (R55, R57, R58, R60); stated with no standby watch active and nothing due. A change of state is judged against the
transport state: the first arm to slacken in a moving state latches SLACK_LOOP and halts, the second TAPE_BREAK, also during that
halt, and brakes, an arm OVER in a driven state latches OVER_TENSION and halts, and an arm that slackens in STOPPED takes the
transport to UNTHREADED with the active move HALTED (R171, R174). In SIZING the sample that makes the second arm NORMAL ends the
thread check, in MEASURE for a Size Reels and in STOPPED without a SIZING_DONE for a Wake; an arm that slackens in MEASURE or RETURN
halts the transport with destination UNTHREADED and reports SIZING_DONE NO_TAPE (R106, R107, R110). That the event stands in the
notice link's table alone, as R183 has it, where R60 speaks of each link's, is the model's choice (entry 57). How the clock comes to
its moments is the model's choice (entry 1). -/
def Obligations.ArmSample : Prop :=
  ∀ (s u : State) (d : Side) (raw : BitVec 12) (f : Nat) (old new : Arm) (c : Converter),
    s.startup.phase ≠ .held → s.conv.pendingSchedule = none → s.watch = none →
    s.conv.schedule[s.conv.ptr]? = some (match d with
      | .left => .armL
      | .right => .armR) →
    f = (max 0 (match d with
      | .left => Int.tdiv (((raw.toNat : Int) - s.profile.restL) * s.profile.gainL) 256
      | .right => Int.tdiv (((raw.toNat : Int) - s.profile.restR) * s.profile.gainR) 256)).toNat →
    old = (match d with
      | .left => s.armL
      | .right => s.armR) →
    c = { s.conv with ptr := (s.conv.ptr + 1) % 16, lastDone := max s.now (s.conv.lastDone + 125) } →
    u = (match d with
      | .left => { s with
          now := max s.now (s.conv.lastDone + 125), conv := { c with armL := raw.toNat }, armL := new }
      | .right => { s with
          now := max s.now (s.conv.lastDone + 125), conv := { c with armR := raw.toNat }, armR := new }) →
    (∀ sl ov : Nat, old.state = .normal → sl = (if f < s.profile.slackAt then old.slackRun + 1 else 0) →
      ov = (if s.profile.overAt < f then old.overRun + 1 else 0) →
      (sl < s.profile.nSlack → ov < s.profile.nOver → new = { old with tension := f, slackRun := sl, overRun := ov } →
        u.Settled → exec (.conversionComplete raw) s = .next u.handOver) ∧
      (s.profile.nSlack ≤ sl → new = ⟨f, .slack, 0, 0, 0⟩ → ∀ t : State,
        t = u.reportTo s.noticeLink (match d with
          | .left => .tensionL
          | .right => .tensionR) 0 s.position.pos → t.Settled → exec (.conversionComplete raw) s = .next t.handOver) ∧
      (sl < s.profile.nSlack → s.profile.nOver ≤ ov → new = ⟨f, .over, 0, 0, 0⟩ → ∀ t : State,
        t = u.reportTo s.noticeLink (match d with
          | .left => .tensionL
          | .right => .tensionR) 2 s.position.pos → t.Settled → exec (.conversionComplete raw) s = .next t.handOver)) ∧
    (∀ rr : Nat, old.state ≠ .normal →
      rr = (if (old.state = .slack ∧ s.profile.slackAt + s.profile.hysteresis ≤ f) ∨
          (old.state = .over ∧ f + s.profile.hysteresis ≤ s.profile.overAt) then old.returnRun + 1 else 0) →
      (rr < s.profile.nClear → new = { old with tension := f, returnRun := rr } →
        u.Settled → exec (.conversionComplete raw) s = .next u.handOver) ∧
      (s.profile.nClear ≤ rr → new = ⟨f, .normal, 0, 0, 0⟩ → ∀ t : State,
        t = u.reportTo s.noticeLink (match d with
          | .left => .tensionL
          | .right => .tensionR) 1 s.position.pos → t.Settled → exec (.conversionComplete raw) s = .next t.handOver)) ∧
    (∀ (other : Arm) (sl ov : Nat), s.MovesOk → s.position.atRest = false → old.state = .normal →
      other = (match d with
        | .left => s.armR
        | .right => s.armL) →
      sl = (if f < s.profile.slackAt then old.slackRun + 1 else 0) →
      ov = (if s.profile.overAt < f then old.overRun + 1 else 0) →
      (s.profile.nSlack ≤ sl →
        (s.motion.state = .winding ∨ s.motion.state = .engaging ∨ s.motion.state = .playing ∨ s.motion.state = .releasing →
          s.faults.set = [] →
          (other.state = .normal → ∃ t : State, exec (.conversionComplete raw) s = .next t.handOver ∧ t.faults.set = [.slackLoop] ∧
            t.faults.primary = some ⟨.slackLoop, s.position.pos, s.motion.state⟩ ∧ t.motion.state = .halting ∧
            t.motion.queue = [] ∧ t.motion.active = none ∧
            t.motion.halt = some ⟨s.motion.state = .playing, .stopped, s.motion.state ≠ .playing⟩) ∧
          (other.state = .slack → ∃ t : State, exec (.conversionComplete raw) s = .next t.handOver ∧ t.faults.set = [.tapeBreak] ∧
            t.motion.state = .braking ∧ t.Braked ∧ t.motion.queue = [])) ∧
        (s.motion.state = .halting → s.faults.set = [.slackLoop] → other.state = .slack →
          ∃ t : State, exec (.conversionComplete raw) s = .next t.handOver ∧ t.faults.set = [.tapeBreak, .slackLoop] ∧
            t.faults.primary = s.faults.primary ∧ t.motion.state = .braking ∧ t.Braked) ∧
        (∀ m r, s.motion.state = .stopped → s.faults.set = [] → other.state ≠ .over → s.motion.active = some m →
          s.motion.queue = [r] → s.motion.completions.length < 16 →
          ∃ t : State, exec (.conversionComplete raw) s = .next t.handOver ∧ t.faults.set = [] ∧ t.motion.state = .unthreaded ∧
            t.Braked ∧
            t.motion.brakeRelease = false ∧ t.motion.queue = [] ∧ t.motion.active = none ∧
            t.motion.completions = s.motion.completions ++
              [({ s with now := max s.now (s.conv.lastDone + 125) }).recordFor r m .halted 0])) ∧
      (sl < s.profile.nSlack → s.profile.nOver ≤ ov → s.motion.state.braked = false → s.faults.set = [] →
        other.state = .normal →
        ∃ t : State, exec (.conversionComplete raw) s = .next t.handOver ∧ t.faults.set = [.overTension] ∧
          t.faults.primary = some ⟨.overTension, s.position.pos, s.motion.state⟩ ∧ t.motion.state = .halting ∧
          t.motion.queue = [] ∧ t.motion.active = none)) ∧
    (∀ (other : Arm) (z : SizingCtx) (src : Source) (sl rr : Nat),
      other = (match d with
        | .left => s.armR
        | .right => s.armL) →
      src = (match d with
        | .left => .tensionL
        | .right => .tensionR) →
      sl = (if f < s.profile.slackAt then old.slackRun + 1 else 0) →
      rr = (if (old.state = .slack ∧ s.profile.slackAt + s.profile.hysteresis ≤ f) ∨
          (old.state = .over ∧ f + s.profile.hysteresis ≤ s.profile.overAt) then old.returnRun + 1 else 0) →
      s.motion.state = .sizing → s.motion.sizing = some z → s.motion.queue = [] → s.motion.active = none →
      s.motion.locate = none ∨ s.position.atRest = false → s.faults.set = [] → other.state = .normal →
      (z.phase ≠ .threadCheck → old.state = .normal → s.profile.nSlack ≤ sl → s.position.atRest = false →
        ∃ t : State, exec (.conversionComplete raw) s = .next t.handOver ∧ t.motion.state = .halting ∧
          t.motion.halt = some ⟨false, .unthreaded, true⟩ ∧ t.motion.sizing = none ∧ t.motion.accel = s.profile.aStop ∧
          t.faults.set = [] ∧ t.port s.noticeLink =
            ((s.port s.noticeLink).offer src 0 s.position.pos).offer .sizingDone 1 s.position.pos) ∧
      (z.phase = .threadCheck → old.state ≠ .normal → s.profile.nClear ≤ rr →
        (z.variant = .size → s.reelL.conf < 4 ∨ s.reelR.conf < 4 →
          ∃ t : State, exec (.conversionComplete raw) s = .next t.handOver ∧ t.Reported s src 1 ∧ t.motion = { s.motion with
            sizing := some { z with phase := .measure, timer := max s.now (s.conv.lastDone + 125) } }) ∧
        (z.variant = .wake →
          ∃ t : State, exec (.conversionComplete raw) s = .next t.handOver ∧ t.Reported s src 1 ∧ t.motion.state = .stopped ∧
            t.motion.sizing = none ∧ t.reelL = s.reelL ∧ t.reelR = s.reelR)))

/-- The standby watch, for each arm: a sample beyond the wake delta of its snapshot adds one to its counter, and one within sets it
to 0, the other arm's counter and both snapshots as they were; the sample that brings a counter to 4 takes the transport from
STANDBY to UNTHREADED with brakes engaged and drives at zero, starts both estimates again and makes the watch inactive, whatever the
owner and the masks, and offers ARM_MOVED with the arm to the notice link's table, behind TENSION_L or TENSION_R where the same
sample changes the arm's tension state (R63, R111, R32; that the latter stands in that table alone is the model's choice, entry 57);
a clear latch that the deck's mask admits becomes set with it. How the clock comes to its moments is the model's choice (entry 1).
-/
def Obligations.StandbyWatch : Prop :=
  ∀ (s : State) (d : Side) (raw : BitVec 12) (w : Watch) (snap old : Nat),
    s.startup.phase ≠ .held → s.motion.state = .standby → s.watch = some w →
    s.conv.schedule[s.conv.ptr]? = some (match d with
      | .left => .armL
      | .right => .armR) →
    (snap, old) = (match d with
      | .left => (w.snapL, w.cntL)
      | .right => (w.snapR, w.cntR)) →
    (∀ n : Nat, n = (if s.profile.wakeDelta < ((raw.toNat : Int) - snap).natAbs then old + 1 else 0) → n < 4 →
      ∃ t : State, exec (.conversionComplete raw) s = .next t.handOver ∧ t.motion.state = .standby ∧ t.watch = some (match d with
        | .left => { w with cntL := n }
        | .right => { w with cntR := n })) ∧
    (s.profile.wakeDelta < ((raw.toNat : Int) - snap).natAbs → 3 ≤ old →
      ∃ t : State, exec (.conversionComplete raw) s = .next t.handOver ∧ t.motion.state = .unthreaded ∧ t.watch = none ∧
        t.motion.brakeRelease = false ∧ t.reelL.code = 0 ∧ t.reelR.code = 0 ∧ t.capstan.code = 0 ∧
        t.reelL.conf = 0 ∧ t.reelR.conf = 0 ∧ t.reelL.rEst = s.profile.rSizing ∧ t.reelR.rEst = s.profile.rSizing ∧
        t.reelL.streak = 0 ∧ t.reelR.streak = 0 ∧
        t.port s.noticeLink = (match d with
          | .left => (if t.armL.state = s.armL.state then s.port s.noticeLink
              else (s.port s.noticeLink).offer .tensionL t.armL.state.ctorIdx s.position.pos).offer .armMoved 0 s.position.pos
          | .right => (if t.armR.state = s.armR.state then s.port s.noticeLink
              else (s.port s.noticeLink).offer .tensionR t.armR.state.ctorIdx s.position.pos).offer .armMoved 1 s.position.pos) ∧
        (s.deck.latches.length = 16 → s.deck.latches[11]? = some none → s.deck.mask.getLsbD 11 = true → s.ctl.owner = .deck →
          t.deck.latches[11]? = some (some ⟨1, match d with
            | .left => 0
            | .right => 1, s.position.pos, true⟩)))

/-- DRIVE_FAULT_INPUT and SUPPLY_WARNING_INPUT: the level follows the line; only a line that becomes asserted outside the settle
period latches its kind, once. A class A fault ends the active move FAULTED and discards the records behind it ABORTED, forms the
primary record when the set was empty, and takes the transport to BRAKING, or to FAULT with the tape at rest, with drives and
reference at 0; in SIZING it also reports SIZING_DONE FAULTED (R81, R168, R169, R170, R173, R174, R175). That the lines are not
judged while the reset input is held is the model's choice (entry 11). -/
def Obligations.ClassAInputs : Prop :=
  ∀ (s u : State) (c : Instr) (b was : Bool) (k : FaultKind) (pins : Pins),
    (c, was, k, pins) ∈ [
      (Instr.driveFaultInput .left b, s.pins.faultL, FaultKind.driveL, { s.pins with faultL := b }),
      (.driveFaultInput .right b, s.pins.faultR, .driveR, { s.pins with faultR := b }),
      (.driveFaultInput .capstan b, s.pins.faultC, .driveC, { s.pins with faultC := b }),
      (.supplyWarningInput b, s.pins.supplyWarning, .supplyLow, { s.pins with supplyWarning := b })] →
    u = { s with pins := pins } →
    (b = false ∨ was = true ∨ s.startup.phase = .held ∨ s.startup.phase = .settle → exec c s = .next u) ∧
    (b = true → was = false → s.startup.phase = .load ∨ s.startup.phase = .running →
      (k ∈ s.faults.set → u.Settled → exec c s = .next u.handOver) ∧
      (k ∉ s.faults.set → s.motion.state ≠ .braking → s.motion.state ≠ .fault → s.MovesOk →
        ∃ t : State, exec c s = .next t.handOver ∧ t.pins = pins ∧ t.position = s.position ∧
          (∀ x, x ∈ t.faults.set ↔ x = k ∨ x ∈ s.faults.set) ∧
          t.faults.primary = (if s.faults.set = [] then some ⟨k, s.position.pos, s.motion.state⟩ else s.faults.primary) ∧
          t.motion.queue = [] ∧ t.motion.active = none ∧ t.Braked ∧ t.motion.brakeRelease = false ∧
          t.motion.pinchCmd = false ∧ t.motion.state = (if s.position.atRest = true then .fault else .braking) ∧
          (∀ m r, s.motion.active = some m →
            (s.motion.queue = [r] → s.motion.completions.length < 16 →
              t.motion.completions = s.motion.completions ++ [s.recordFor r m .faulted 0]) ∧
            (∀ x, s.motion.queue = [r, x] → s.motion.completions.length < 15 →
              t.motion.completions = s.motion.completions ++ [s.recordFor r m .faulted 1,
                ⟨x.id, .aborted, s.position.pos, s.timeAt s.position.pos, 0, false, 0, false⟩])) ∧
          (s.motion.state = .sizing → t.port s.noticeLink =
            ((s.port s.noticeLink).offer .fault k.ctorIdx s.position.pos).offer .sizingDone 3 s.position.pos)))

/-- Three causes of a class B fault, ROLLER_SLIP_TIMEOUT, PINCH_TIMEOUT and MEASURE_TIMEOUT, each at its time: outside the braked
states and HALTING the active move ends FAULTED and the transport enters HALTING, from PLAYING with the pinch still engaged, and
SIZING reports SIZING_DONE FAULTED (R100, R107, R172, R173, R174). A timer that is not running makes no cause (entry 2). Stated with
both arms NORMAL and the tape not at rest. How the clock comes to its moments is the model's choice (entry 1). -/
def Obligations.ClassBTimeouts : Prop :=
  ∀ s : State,
    (s.faults.slip = none → exec .rollerSlipTimeout s = .next s) ∧
    (s.motion.pinchTimer = none → exec .pinchTimeout s = .next s) ∧
    ((∀ z, s.motion.sizing = some z → z.phase ≠ .measure) → exec .measureTimeout s = .next s) ∧
    (s.MovesOk → s.faults.set = [] → s.armL.state = .normal → s.armR.state = .normal → s.position.atRest = false →
      (∀ x, s.faults.slip = some x → s.motion.state = .playing →
        ∃ t : State, exec .rollerSlipTimeout s = .next t.handOver ∧ t.now = max s.now (x + Config.msec 500) ∧ t.faults.slip = none ∧
          t.faults.set = [.rollerSlip] ∧ t.faults.primary = some ⟨.rollerSlip, s.position.pos, .playing⟩ ∧
          t.motion.state = .halting ∧ t.motion.halt = some ⟨true, .stopped, false⟩ ∧ t.motion.pinchCmd = true ∧
          t.motion.queue = [] ∧ t.motion.active = none ∧ t.motion.accel = s.profile.aStop ∧ t.motion.vRef = s.motion.vRef ∧
          (∀ m r, s.motion.active = some m → s.motion.queue = [r] → s.motion.completions.length < 16 →
            t.motion.completions = s.motion.completions ++ [({ s with now := t.now }).recordFor r m .faulted 0])) ∧
      (∀ x, s.motion.pinchTimer = some x → s.motion.state = .engaging ∨ s.motion.state = .releasing →
        ∃ t : State, exec .pinchTimeout s = .next t.handOver ∧ t.now = max s.now (x + Config.msec 150) ∧
          t.motion.pinchTimer = none ∧
          t.faults.set = [.pinchTimeout] ∧ t.motion.state = .halting ∧ t.motion.halt = some ⟨false, .stopped, true⟩ ∧
          t.motion.pinchCmd = false ∧ t.motion.haltPending = none ∧ t.motion.queue = [] ∧
          (∀ m r, s.motion.active = some m → s.motion.queue = [r] → s.motion.completions.length < 16 →
            t.motion.completions = s.motion.completions ++ [({ s with now := t.now }).recordFor r m .faulted 0])) ∧
      (∀ z, s.motion.sizing = some z → z.phase = .measure →
        ∃ t : State, exec .measureTimeout s = .next t.handOver ∧ t.now = max s.now (z.timer + Config.msec 10000) ∧
          t.faults.set = [.radiusLost] ∧ t.motion.state = .halting ∧ t.motion.sizing = none ∧ t.port s.noticeLink =
            ((s.port s.noticeLink).offer .fault FaultKind.radiusLost.ctorIdx s.position.pos).offer .sizingDone 3
              s.position.pos))

/-! ### The servo updates (02, 05) -/

/-- REEL_SERVO_UPDATE forms the measured speed: the open interval closes, the oldest of the 32 goes, and v_meas is Δn₃₂ × C_roll /
8 truncated toward zero (R36). In a braked state that is all, with a_cmd at 0 (R42, R46); else a_cmd is formed by the state and
clamped to ±8,000 (R37). In PLAYING the slip timer starts when v_meas and v_capstan differ by more than floor(v_p / 50) and stops
when they do not (R172). How the clock comes to the update's moment is the model's choice (entry 1). -/
def Obligations.ServoSpeed : Prop :=
  ∀ (s : State) (h : List Int) (v : Int),
    h = s.speed.hist.drop 1 ++ [s.speed.cur] → v = Int.tdiv (h.sum * s.profile.cRoll) 8 →
    (s.motion.state.braked = true → exec .reelServoUpdate s = .next { s with
      now := max s.now (s.speed.lastUpdate + Config.usec 250)
      speed := ⟨h, 0, v, 0, max s.now (s.speed.lastUpdate + Config.usec 250)⟩ }) ∧
    (s.motion.state.braked = false → ∃ t : State, exec .reelServoUpdate s = .next t.handOver ∧
      t.now = max s.now (s.speed.lastUpdate + Config.usec 250) ∧
      t.speed = ⟨h, 0, v, max (-8000) (min 8000 (s.motion.aRef +
        (if s.motion.state = .winding ∨ s.motion.state = .sizing ∨ s.motion.state = .halting ∨ s.motion.state = .stopped then
          Int.tdiv ((s.motion.vRef - v) * s.profile.kV) 1000 else 0))), t.now⟩ ∧
      t.faults.slip = (if s.motion.state = .playing then
        if s.profile.vPlay / 50 < (v - s.capstan.speed).natAbs then some (s.faults.slip.getD t.now) else none
        else s.faults.slip) ∧
      t.motion.vRef = s.motion.vRef ∧ t.motion.state = s.motion.state ∧ t.position = s.position)

/-- A reel's drive at REEL_SERVO_UPDATE in a driven state: τ is the static term, plus (right) or less (left) the acceleration
term, plus the clamped trim term; it is clamped to ±τ_max, the code is trunc(τ × 2,047 / τ_max), and the saturation counter adds
one when the clamp was needed and else is 0 (R38, R39, R40, R41, R43). F_set is the thread tension 120 in THREAD_CHECK, the wind
tension in the other phases of SIZING, the stop tension in HALTING and with no active move, and else the active move's (5.1). The
40th clamped update in a row makes a derate request: above 100 the active move's accel is halved, rounded down to a multiple of 4
and raised to at least 100, and DERATE is reported; at 100 it stays; either way the move is marked derated (R43, R44, R45). -/
def Obligations.ServoTorque : Prop :=
  ∀ (s : State) (d : Side) (r : Reel) (f tm fm : Nat) (a raw tau : Int),
    s.motion.state.braked = false → r = s.reel d →
    f = (match s.motion.state with
      | .sizing => match s.motion.sizing with
        | some z => if z.phase = .threadCheck then 120 else s.profile.windTension
        | none => 120
      | .halting => s.profile.stopTension
      | _ => match s.motion.active with
        | some m => m.tension
        | none => s.profile.stopTension) →
    (tm, fm) = (match d with
      | .left => (s.profile.tauL, s.armL.tension)
      | .right => (s.profile.tauR, s.armR.tension)) →
    ∃ t : State, exec .reelServoUpdate s = .next t.handOver ∧ (a = t.speed.aCmd →
      raw = ((f * r.rEst / 100000 : Nat) : Int) +
        (match d with
          | .left => -1
          | .right => 1) * Int.tdiv (r.inertia * a) ((r.rEst / 1000 * 1000 : Nat) : Int) +
        max (-((tm / 4 : Nat) : Int)) (min ((tm / 4 : Nat) : Int) (Int.tdiv (((f : Int) - fm) * r.rEst * s.profile.kP) 1600000)) →
      tau = max (-(tm : Int)) (min (tm : Int) raw) →
      t.reel d = { r with
        torque := tau
        code := Int.tdiv (tau * 2047) tm
        sat := if tau = raw then 0 else if 40 ≤ r.sat + 1 then 0 else r.sat + 1 } ∧
      ((s.reel (match d with
          | .left => .right
          | .right => .left)).sat < 39 →
        (tau = raw ∨ r.sat < 39 → t.motion.active = s.motion.active) ∧
        (tau ≠ raw → 39 ≤ r.sat →
          t.motion.active = s.motion.active.map (fun m => { m with
            accel := if 100 < m.accel then max 100 (m.accel / 2 / 4 * 4) else m.accel, derated := true }) ∧
          ∀ m, s.motion.active = some m → 100 < m.accel → t.Reported s .derate (max 100 (m.accel / 2 / 4 * 4) : Nat))))

/-- CAPSTAN_COUNT: the count enters the capstan's open interval and nothing else (R2). CAPSTAN_UPDATE: the interval closes and
v_capstan is trunc(Δn₃₂ × C_cap / 8). While the loop runs, with ε the run-up's v_c or else v_ref less v_capstan, I gains trunc(ε ×
K_ic / 65,536) within ±1,024 and the code is trunc(ε × K_pc / 4,096) + I within ±2,047; while it is idle both are 0 (R101, R102).
That no count is read while the reset input is held is the model's choice (entry 11), and so is how the clock comes to its moments
(entry 1). -/
def Obligations.CapstanServo : Prop :=
  (∀ (s : State) (d : Direction),
    exec (.capstanCount d) s =
      .next (if s.startup.phase = .held then s
        else { s with capstan := { s.capstan with cur := s.capstan.cur + dirSign d } })) ∧
  ∀ (s : State) (h : List Int) (v goal e i : Int),
    h = s.capstan.hist.drop 1 ++ [s.capstan.cur] → v = Int.tdiv (h.sum * s.profile.cCap) 8 →
    goal = (match s.motion.state, s.motion.active with
      | .winding, some m =>
        if m.kind = .play then s.profile.vPlay * (10000 + m.vari + s.chase.c) / 10000
        else if m.kind = .chase ∧ s.chase.seek = none then s.profile.vPlay * (10000 + s.chase.c) / 10000
        else s.motion.vRef
      | _, _ => s.motion.vRef) →
    e = goal - v → i = max (-1024) (min 1024 (s.capstan.integral + Int.tdiv (e * s.profile.kIc) 65536)) →
    exec .capstanUpdate s = .next { s with
      now := max s.now (s.capstan.lastUpdate + Config.usec 250)
      capstan := { s.capstan with
        hist := h, cur := 0, speed := v, lastUpdate := max s.now (s.capstan.lastUpdate + Config.usec 250)
        integral := if s.capstan.running = true then i else 0
        code := if s.capstan.running = true then max (-2047) (min 2047 (Int.tdiv (e * s.profile.kPc) 4096 + i)) else 0 } }

/-! ### The reference (05, 06) -/

/-- REFERENCE_UPDATE, 250 µs after the last one. |v_ref| stays within the shuttle ceiling, and v_ref changes by at most a quarter of
the accel in force, a_stop, the profile's accel or the move's, unless the transport enters a braked state (R92). With both arms
NORMAL v_ref moves toward the demand by at most that step: the demand is 0 in STOPPED and HALTING, v_ref itself in ENGAGING and
RELEASING, v_c in PLAYING and 0 there under a HOLD; in WINDING, with no zone in the table and no guard active, it is the move's
direction times the lesser of its ceiling and the shuttle ceiling under a WIND, play speed limited by them in a run-up, 0 under a
HOLD, and that of the phase under a LOCATE (R93, R97, R99, R101). That a LOCATE's phase is judged before the step, one change at
most, is the model's choice (entry 14), as are the accel in STOPPED with no move (entry 13) and how the clock comes to its moments
(entry 1). -/
def Obligations.ReferenceUpdate : Prop :=
  ∀ s : State, ∃ t : State, exec .referenceUpdate s = .next t.handOver ∧
    t.now = max s.now (s.motion.lastUpdate + Config.usec 250) ∧ t.motion.lastUpdate = t.now ∧
    (s.motion.state.braked = true → t.motion.vRef = 0 ∧ t.motion.aRef = 0 ∧ t.motion.state = s.motion.state) ∧
    (s.motion.vRef.natAbs ≤ s.profile.shuttle → t.motion.vRef.natAbs ≤ s.profile.shuttle ∧
      ((t.motion.state.braked = true ∧ t.motion.vRef = 0) ∨
        ∃ a, (a = s.profile.aStop ∨ a = s.profile.accel ∨ a = s.moveAccel) ∧
          4 * (t.motion.vRef - s.motion.vRef).natAbs ≤ a)) ∧
    (∀ (D : Int) (a : Nat), s.armL.state = .normal → s.armR.state = .normal →
      (s.motion.state = .halting ∧ D = 0 ∧ a = s.profile.aStop) ∨
      (s.motion.state = .stopped ∧ D = 0 ∧ a = s.moveAccel) ∨
      ((s.motion.state = .engaging ∨ s.motion.state = .releasing) ∧ D = s.motion.vRef) ∨
      (∃ m, s.motion.active = some m ∧ a = m.accel ∧ s.motion.state = .playing ∧
        D = (match m.kind with
          | .hold => 0
          | .play => s.profile.vPlay * (10000 + m.vari + s.chase.c) / 10000
          | _ => s.profile.vPlay * (10000 + s.chase.c) / 10000)) ∨
      (∃ m top, s.motion.active = some m ∧ a = m.accel ∧ s.motion.state = .winding ∧ s.zones.descent = false ∧
        (∀ z, some z ∉ s.zones.entries) ∧ s.zones.guardF = none ∧ s.zones.guardR = none ∧
        top = min m.ceiling s.profile.shuttle ∧
        ((s.motion.locate = none ∧
          ((m.kind = .wind ∧ m.dir = some .forward ∧ D = top) ∨ (m.kind = .wind ∧ m.dir = some .reverse ∧ D = -(top : Int)) ∨
            (m.kind = .play ∧ D = min s.profile.vPlay top) ∨ (m.kind = .hold ∧ D = 0))) ∨
        ∃ (l : LocateCtx) (sgn r b : Int), m.kind = .locate ∧ s.motion.locate = some l ∧ s.motion.sizing = none ∧
          sgn = (if l.dir = .forward then 1 else -1) ∧
          r = sgn * (l.target - s.position.pos) ∧ -(s.profile.tolerance : Int) ≤ r ∧
          b = ((s.motion.vRef.natAbs ^ 2 + (2 * a * s.profile.cRoll - 1)) / (2 * a * s.profile.cRoll) : Nat) ∧
          ((l.phase = .run ∧ b < r ∧ D = sgn * top) ∨
            (((l.phase = .run ∧ r ≤ b) ∨
                (l.phase = .creep ∧ (b < r ∨ s.profile.creep < s.motion.vRef.natAbs))) ∧
              D = sgn * (min s.profile.creep top : Nat)) ∨
            ((l.phase = .settle ∨ (l.phase = .creep ∧ r ≤ b ∧ s.motion.vRef.natAbs ≤ s.profile.creep)) ∧ D = 0)))) →
      t.motion.vRef = max (-(s.profile.shuttle : Int)) (min (s.profile.shuttle : Int)
        (if (D - s.motion.vRef).natAbs ≤ a / 4 then D
          else if s.motion.vRef < D then s.motion.vRef + (a / 4 : Nat) else s.motion.vRef - (a / 4 : Nat))) ∧
      (t.motion.state.braked = false → t.motion.aRef = 4 * (t.motion.vRef - s.motion.vRef)))

/-- The ceiling of a direction at a reference update is the least of those its zones and its guard give, and none when they give
none. A SLOW zone that contains the tape gives its own ceiling both ways, a BARRIER that contains it 0 unless its exit direction
is that way or EITHER; ahead of the tape a SLOW zone gives isqrt(c² + 2 × a_z × C_roll × x) at the distance x of its near edge,
and a BARRIER the same from 0 at its approach point, one tolerance short of the edge, and 0 when x ≤ 0; a NOTIFY zone gives none
(R119, R120). -/
def Obligations.ZoneCeilings : Prop :=
  ∀ (s : State) (m : ActiveMove) (list : Direction → List Nat),
    s.motion.active = some m → s.motion.sizing = none → m.reversals < 3 →
    (∀ d, list d = (match d with
        | .forward => s.zones.guardF
        | .reverse => s.zones.guardR).toList ++
      s.zones.entries.filterMap (fun o => o.bind (fun z =>
        if z.contains = true then
          match z.kind with
          | .slow => some z.ceiling
          | .barrier => if z.exit = some .either ∨ z.exit = some (if d = .forward then .forward else .reverse) then
            none else some 0
          | .notify => none
        else
          let x : Int := if d = .forward then z.base - s.position.pos else s.position.pos - z.limit
          if x ≤ 0 then none
          else match z.kind with
            | .slow => some (Nat.sqrt (z.ceiling ^ 2 + 2 * min m.accel s.profile.aStop * s.profile.cRoll * x.toNat))
            | .barrier => some (Nat.sqrt (2 * min m.accel s.profile.aStop * s.profile.cRoll * (x - s.profile.tolerance).toNat))
            | .notify => none))) →
    ∃ t : State, exec .referenceUpdate s = .next t.handOver ∧ t.zones.ceilF = (list .forward).min? ∧
      t.zones.ceilR = (list .reverse).min?

/-- The ends and transitions at a reference update. A WIND at v_ref 0 facing a closed direction ends END_OF_TAPE when the guard is 0
there and else BLOCKED by a BARRIER that contains the tape (R122, R125); the guard that so limits the move for the first time
reports EOT_GUARD with the paying reel, but not at the move's first update (R126; that the exemption is of the first update alone is
the model's reading, entry 18). A PLAY in PLAYING at play speed ends END_OF_TAPE when the
guard does not exceed it, and BLOCKED when the approach point of a BARRIER ahead lies within its braking distance (R123, R125). A
run-up at play speed within v_p / 50 + C_roll / 8 of it ends in ENGAGING with the pinch commanded (R100). A LOCATE that has passed
its target by more than the tolerance turns and creeps, and at its fourth pass ends OVERSHOOT (R99); one held at v_ref 0 at a
BARRIER's approach point with no more than the tolerance to its target enters SETTLE and is not ended (R122, entry 48). Each move
that ends is alone in the queue, so the transport halts (R96, R104). That END_OF_TAPE is judged before BLOCKED is the model's choice
(entry 19), and so is how the clock comes to its moments (entry 1). -/
def Obligations.UpdateEnds : Prop :=
  ∀ (s : State) (m : ActiveMove) (r : MoveRecord) (now : Nat),
    s.Calm → s.motion.active = some m → s.motion.queue = [r] → s.motion.completions.length < 16 → s.position.atRest = false →
    s.motion.pinchTimer = none → s.motion.sizing = none → s.pins.pinchSense = false →
    now = max s.now (s.motion.lastUpdate + Config.usec 250) →
    (∀ d guard, s.motion.state = .winding → m.kind = .wind → m.dir = some d → s.motion.vRef = 0 → s.motion.locate = none →
      guard = (match d with
        | .forward => s.zones.guardF
        | .reverse => s.zones.guardR) →
      guard = some 0 ∨ (∃ z, some z ∈ s.zones.entries ∧ z.kind = .barrier ∧ z.contains = true ∧ z.exit ≠ some .either ∧
        z.exit ≠ some (if d = .forward then .forward else .reverse)) →
      ∃ t : State, exec .referenceUpdate s = .next t.handOver ∧ t.motion.queue = [] ∧ t.motion.active = none ∧
        t.motion.state = .halting ∧
        t.motion.halt = some ⟨false, .stopped, true⟩ ∧ t.motion.vRef = 0 ∧ t.motion.completions = s.motion.completions ++
          [({ s with now := now }).recordFor r m (if guard = some 0 then .endOfTape else .blocked) 0] ∧
        (guard = some 0 → s.zones.updated = false →
          t.zones.guardReported = s.zones.guardReported ∧ t.port s.noticeLink = s.port s.noticeLink) ∧
        (guard = some 0 → s.zones.updated = true → s.zones.guardReported = false → (∀ z, some z ∉ s.zones.entries) →
          0 < m.ceiling → 0 < s.profile.shuttle → 4 ≤ m.accel →
          t.zones.guardReported = true ∧ t.Reported s .eotGuard (if d = .forward then 0 else 1))) ∧
    (s.motion.state = .playing → m.kind = .play → m.vari = 0 → s.chase.c = 0 → s.motion.vRef = s.profile.vPlay →
      0 < s.profile.vPlay → s.profile.vPlay ≤ s.profile.shuttle →
      (∀ g, s.zones.guardF = some g → g ≤ s.profile.vPlay →
        ∃ t : State, exec .referenceUpdate s = .next t.handOver ∧ t.motion.queue = [] ∧ t.motion.state = .halting ∧
          t.motion.halt = some ⟨true, .stopped, false⟩ ∧ t.motion.pinchCmd = true ∧ t.zones.guardReported = true ∧
          t.motion.completions = s.motion.completions ++ [({ s with now := now }).recordFor r m .endOfTape 0]) ∧
      (∀ z, s.zones.guardF = none → some z ∈ s.zones.entries → z.kind = .barrier → z.contains = false →
        s.position.pos < z.base → 0 < s.profile.aStop → 0 < s.profile.cRoll →
        (z.base - s.profile.tolerance - s.position.pos - 1) * (2 * s.profile.aStop * s.profile.cRoll) < s.profile.vPlay ^ 2 →
        ∃ t : State, exec .referenceUpdate s = .next t.handOver ∧ t.motion.queue = [] ∧ t.motion.state = .halting ∧
          t.motion.halt = some ⟨true, .stopped, false⟩ ∧ t.motion.pinchCmd = true ∧
          t.motion.completions = s.motion.completions ++ [({ s with now := now }).recordFor r m .blocked 0])) ∧
    ((∀ z, some z ∉ s.zones.entries) → s.zones.guardF = none → s.zones.guardR = none → s.motion.state = .winding →
      (m.kind = .play → s.motion.locate = none → s.motion.vRef = s.profile.vPlay → 0 < s.profile.vPlay →
        s.profile.vPlay ≤ m.ceiling → s.profile.vPlay ≤ s.profile.shuttle →
        400 * (s.speed.v - s.profile.vPlay).natAbs ≤ 8 * s.profile.vPlay + 50 * s.profile.cRoll →
        ∃ t : State, exec .referenceUpdate s = .next t.handOver ∧ t.motion.state = .engaging ∧ t.motion.pinchCmd = true ∧
          t.motion.pinchTimer = some now ∧ t.motion.vRef = s.motion.vRef ∧ t.motion.active = some m ∧ t.motion.queue = [r]) ∧
      (∀ l : LocateCtx, m.kind = .locate → s.motion.locate = some l →
        (l.dir = .forward → l.target + s.profile.tolerance < s.position.pos) →
        (l.dir = .reverse → s.position.pos < l.target - s.profile.tolerance) →
        (m.reversals < 3 → ∃ t : State, exec .referenceUpdate s = .next t.handOver ∧ t.motion.state = .winding ∧
          t.motion.active = some { m with reversals := m.reversals + 1 } ∧
          t.motion.locate = some ⟨.creep, if l.dir = .forward then .reverse else .forward, l.target⟩) ∧
        (m.reversals = 3 → ∃ t : State, exec .referenceUpdate s = .next t.handOver ∧ t.motion.state = .halting ∧
          t.motion.queue = [] ∧
          t.motion.locate = none ∧ t.motion.accel = s.profile.aStop ∧
          t.motion.completions = s.motion.completions ++ [({ s with now := now }).recordFor r m .overshoot 0]))) ∧
    (∀ (l : LocateCtx) (z : Zone) (x : Int), s.motion.state = .winding → m.kind = .locate → s.motion.locate = some l →
      s.motion.vRef = 0 → (l.target - s.position.pos).natAbs ≤ s.profile.tolerance → some z ∈ s.zones.entries →
      z.kind = .barrier → z.contains = false →
      x = (if l.dir = .forward then z.base - s.position.pos else s.position.pos - z.limit) → 0 < x → x ≤ s.profile.tolerance →
      ∃ t : State, exec .referenceUpdate s = .next t.handOver ∧ t.motion.state = .winding ∧ t.motion.vRef = 0 ∧
        t.motion.locate = some { l with phase := .settle } ∧ t.motion.active = some m ∧ t.motion.queue = [r] ∧
        t.motion.completions = s.motion.completions)

/-! ### The sequencer's events (04, 05, 10) -/

/-- PINCH_ENGAGED_SENSE. With no pinch transition timed it only follows the line. An engagement shown engaged ends in PLAYING
under a PLAY, and in RELEASING, the pinch commanded released and timed anew, under a WIND or with the move gone; a release shown
released makes the capstan loop idle and ends in WINDING under a WIND, and with no move active in STOPPED at rest and else in
HALTING (R95, R96, R100, R102). The timers of the sequencer and the supervisor, each at its time; one that is not running does
nothing (entry 2). DURATION_EXPIRY ends the active move DONE, and a PLAY alone in the queue is followed by a halt from PLAYING
(R76, R96). THREAD_CHECK_TIMEOUT ends in UNTHREADED with brakes engaged and SIZING_DONE NO_TAPE (R106, R110), BRAKING_TIMEOUT in
FAULT (R175). SUPERVISION_EXPIRY ends the moves HALTED, halts the transport and reports SUPERVISION_STOP with the transport state
at the expiry (R177). How the clock comes to its moments is the model's choice (entry 1). -/
def Obligations.SequencerEvents : Prop :=
  (∀ (s : State) (b : Bool),
    (s.motion.pinchTimer = none → ∀ u : State, u = { s with pins := { s.pins with pinchSense := b } } → u.Settled →
      exec (.pinchEngagedSense b) s = .next u.handOver) ∧
    (s.Calm → s.motion.pinchTimer.isSome = true → s.motion.locate = none →
      (b = true → s.motion.state = .engaging →
        (∀ m, s.motion.haltPending = none → s.motion.active = some m → m.kind = .play →
          ∃ t : State, exec (.pinchEngagedSense b) s = .next t.handOver ∧ t.motion.state = .playing ∧ t.motion.pinchCmd = true ∧
            t.motion.pinchTimer = none ∧ t.motion.vRef = s.motion.vRef ∧ t.motion.active = some m ∧ t.capstan.running = true) ∧
        (s.motion.active = none ∨ (∃ m, s.motion.haltPending = none ∧ s.motion.active = some m ∧ m.kind = .wind) →
          ∃ t : State, exec (.pinchEngagedSense b) s = .next t.handOver ∧ t.motion.state = .releasing ∧ t.motion.pinchCmd = false ∧
            t.motion.pinchTimer = some s.now ∧ t.motion.vRef = s.motion.vRef ∧ t.motion.active = s.motion.active)) ∧
      (b = false → s.motion.state = .releasing →
        (∀ m, s.motion.haltPending = none → s.motion.active = some m → m.kind = .wind →
          ∃ t : State, exec (.pinchEngagedSense b) s = .next t.handOver ∧ t.motion.state = .winding ∧ t.motion.pinchTimer = none ∧
            t.capstan.running = false ∧ t.capstan.code = 0 ∧ t.capstan.integral = 0 ∧ t.motion.vRef = s.motion.vRef) ∧
        (s.motion.active = none → s.motion.queue = [] →
          ∃ t : State, exec (.pinchEngagedSense b) s = .next t.handOver ∧ t.motion.haltPending = none ∧ t.motion.pinchTimer = none ∧
            t.capstan.code = 0 ∧ t.capstan.integral = 0 ∧
            t.motion.state = (if s.position.atRest = true then .stopped else .halting) ∧
            (s.position.atRest = false → t.motion.halt = some ⟨false, .stopped, true⟩ ∧ t.motion.accel = s.profile.aStop))))) ∧
  ∀ s : State,
    ((s.motion.active = none ∨ ∃ r rest, s.motion.queue = r :: rest ∧ r.duration = none) → exec .durationExpiry s = .next s) ∧
    (∀ m r n, s.Calm → s.position.atRest = false → s.motion.state = .playing → s.motion.active = some m → m.kind = .play →
      s.motion.queue = [r] → r.duration = some n → s.motion.completions.length < 16 → s.cue.gen = .idle →
      ∃ t : State, exec .durationExpiry s = .next t.handOver ∧ t.now = max s.now (m.start + Config.msec n) ∧ t.motion.queue = [] ∧
        t.motion.active = none ∧ t.motion.state = .halting ∧ t.motion.halt = some ⟨true, .stopped, false⟩ ∧
        t.motion.pinchCmd = true ∧ t.motion.accel = s.profile.aStop ∧ t.motion.vRef = s.motion.vRef ∧
        t.motion.completions = s.motion.completions ++ [({ s with now := t.now }).recordFor r m .done 0]) ∧
    ((∀ z, s.motion.sizing = some z → z.phase ≠ .threadCheck) → exec .threadCheckTimeout s = .next s) ∧
    (∀ z, s.motion.sizing = some z → z.phase = .threadCheck →
      ∃ t : State, exec .threadCheckTimeout s = .next t.handOver ∧ t.now = max s.now (z.timer + Config.msec 500) ∧
        t.motion.state = .unthreaded ∧
        t.motion.sizing = none ∧ t.Braked ∧ t.motion.brakeRelease = false ∧
        (s.motion.state = .sizing → t.Reported s .sizingDone 1)) ∧
    (s.motion.brakingTimer = none → exec .brakingTimeout s = .next s) ∧
    (∀ x, s.motion.brakingTimer = some x → s.motion.state = .braking →
      ∃ t : State, exec .brakingTimeout s = .next t.handOver ∧ t.now = max s.now (x + Config.msec 5000) ∧ t.motion.state = .fault ∧
        t.motion.brakingTimer = none ∧ t.Braked ∧ t.faults.set = s.faults.set ∧ t.faults.primary = s.faults.primary) ∧
    (s.faults.supervision = none → exec .supervisionExpiry s = .next s) ∧
    (∀ x m r, s.faults.supervision = some x → s.Calm → s.position.atRest = false → s.motion.state = .winding →
      s.motion.active = some m → m.kind ≠ .chase → s.motion.queue = [r] → s.motion.completions.length < 16 →
      ∃ t : State, exec .supervisionExpiry s = .next t.handOver ∧ t.now = max s.now (x + Config.msec s.profile.supervision) ∧
        t.faults.supervision = none ∧ t.faults.set = [] ∧ t.motion.queue = [] ∧ t.motion.state = .halting ∧
        t.motion.halt = some ⟨false, .stopped, true⟩ ∧ t.Reported s .supervisionStop 3 ∧
        t.motion.completions = s.motion.completions ++ [({ s with now := t.now }).recordFor r m .halted 0])

/-! ### The chase (07) -/

/-- REFERENCE_WORD at the reader, with no CHASE active: an invalid word only sets the run count to 0; a valid one gives F_r, S_r and
e, restarts the loss timer, and makes the reference PRESENT when it is the third of a run (R129, R131). With a CHASE in PLAYING, in
APPROACH and LOCKED, it sets c = trunc(e × K_ph / 64) within ±300: in APPROACH a word within the lock window counts toward the
tenth, which makes it LOCKED, and in LOCKED a word outside twice the window counts toward the third, which makes it APPROACH again
(R132, R136, R142). In FREEWHEEL and LOST it changes the reader alone until the third of a run, which within the re-seek threshold
makes it APPROACH with both counts 0 and c as it stood, and beyond it SEEK with c 0, a seek begun from this word by R134: its
rendezvous two prerolls after the word, and the transport from PLAYING in RELEASING with the locate to the seek's target (R139).
That the freewheel origin is dropped at either return is the model's choice: R138 and R141 drop it at LOST and at the move's end,
and R139 does not speak of it (entry 32). -/
def Obligations.ReferenceWords : Prop :=
  ∀ (s u : State) (w : BcdTime) (rev : Bool) (day offset : Int) (sub e : Option Int),
    s.startup.phase ≠ .held → day = 86400 * s.profile.rate →
    (timecodeFrames s.profile w = none ∨ rev = true →
      exec (.referenceWord w rev) s = .next { s with chase := { s.chase with run := 0 } }) ∧
    (∀ f : Nat, timecodeFrames s.profile w = some f → rev = false →
      (∀ m, s.motion.active = some m → offset = if m.kind = .chase then m.offset else 0) →
      (s.motion.active = none → offset = 0) →
      sub = s.position.anchor.map (fun a => a.frame * 100 +
        (s.position.pos - a.pos) * s.profile.rate * s.profile.cRoll * 100 / (1000 * s.profile.vPlay)) →
      e = sub.map (fun x => ((f + offset) % day * 100 - x + 50 * day) % (100 * day) - 50 * day) →
      u = { s with chase := { s.chase with
        run := if s.chase.run ≠ 0 ∧ s.chase.lastFrame.map (fun l => ((l : Int) + 1) % day) = some (f : Int) then
          min 3 (s.chase.run + 1) else 1
        present := s.chase.present || (s.chase.lastFrame.map (fun l => ((l : Int) + 1) % day) = some (f : Int) ∧ 2 ≤ s.chase.run)
        lastFrame := some f, lastSub := sub, lossTimer := some s.now, lastWord := some s.now, e := e } } →
      ((∀ m, s.motion.active = some m → m.kind ≠ .chase) → u.Settled → exec (.referenceWord w rev) s = .next u.handOver) ∧
      (∀ m x, s.motion.active = some m → m.kind = .chase → s.motion.state = .playing → s.Calm → e = some x →
        s.chase.state = .freewheel ∨ s.chase.state = .lost → s.chase.seek = none →
        (u.chase.run < 3 → ∃ t : State, exec (.referenceWord w rev) s = .next t.handOver ∧ t.motion = s.motion ∧
          t.chase = u.chase) ∧
        (u.chase.run = 3 → x.natAbs ≤ s.profile.reseek * 100 →
          ∃ t : State, exec (.referenceWord w rev) s = .next t.handOver ∧ t.motion = s.motion ∧ t.Reported s .chaseState 2 ∧
            t.chase = { u.chase with state := .approach, lock := 0, unlock := 0, freewheel := none, origin := none }) ∧
        (∀ a, u.chase.run = 3 → s.profile.reseek * 100 < x.natAbs → s.position.anchor = some a → s.pins.pinchSense = true →
          s.cue.gen = .idle →
          ∃ (t : State) (k : SeekCtx) (l : LocateCtx), exec (.referenceWord w rev) s = .next t.handOver ∧
            t.chase = { u.chase with state := .seek, c := 0, freewheel := none, origin := none, seek := some k } ∧
            t.Reported s .chaseState 1 ∧ t.motion.state = .releasing ∧ t.motion.pinchCmd = false ∧
            k.parked = false ∧ (k.rendezvous : Int) = (f + 2 * s.profile.preroll) % day ∧
            (k.targetFrame : Int) = (k.rendezvous + m.offset - s.profile.preroll) % day ∧
            k.targetPos = max (-2000000000) (min 2000000000 (a.pos +
              ((k.targetFrame - a.frame + day / 2) % day - day / 2) * 1000 * s.profile.vPlay /
                (s.profile.rate * s.profile.cRoll))) ∧
            t.motion.locate = some l ∧ l.target = k.targetPos ∧ t.motion.active = some { m with reversals := 0 })) ∧
      (∀ m x c, s.motion.active = some m → m.kind = .chase → s.motion.state = .playing → s.Calm → e = some x →
        s.chase.state = .approach ∨ s.chase.state = .locked →
        x.natAbs ≤ s.profile.reseek * 100 → c = max (-300) (min 300 (Int.tdiv (x * s.profile.kPh) 64)) →
        ∃ t : State, exec (.referenceWord w rev) s = .next t.handOver ∧ t.motion = s.motion ∧
          (∀ n, s.chase.state = .approach → n = (if x.natAbs ≤ s.profile.lockWindow then s.chase.lock + 1 else 0) →
            (n < 10 → t.chase = { u.chase with c := c, lock := n }) ∧
            (10 ≤ n → t.chase = { u.chase with state := .locked, c := c, lock := 0, unlock := 0 } ∧
              t.Reported s .chaseState 3)) ∧
          (∀ n, s.chase.state = .locked → n = (if 2 * s.profile.lockWindow < x.natAbs then s.chase.unlock + 1 else 0) →
            (n < 3 → t.chase = { u.chase with c := c, unlock := n }) ∧
            (3 ≤ n → t.chase = { u.chase with state := .approach, c := c, lock := 0, unlock := 0 } ∧
              t.Reported s .chaseState 2))))

/-- The start of a seek from a word: an error beyond the re-seek threshold in APPROACH or LOCKED makes the state SEEK with c and
both counts 0; the seek's rendezvous is two prerolls after the word, its target the rendezvous plus the offset less one preroll, and
from PLAYING the transport goes by RELEASING. A parked tape is released at the first word one preroll or less before the rendezvous
(R134, R135, R136). LOSS_TIMER_EXPIRY, two frame periods after the last valid word, makes the reference ABSENT with the run count 0;
a CHASE in LOCKED or APPROACH then becomes FREEWHEEL from PLAY with c held and its timer started, or LOST at once with a freewheel
limit of 0 (R130, R137), where that the two counts become 0 is the model's choice (entry 63). FREEWHEEL_EXPIRY makes it LOST: c 0,
the seek and the origin dropped (R138). A timer that is not running does nothing (entry 2). How the clock comes to its moments is
the model's choice (entry 1). -/
def Obligations.SeeksAndLosses : Prop :=
  (∀ (s : State) (w : BcdTime) (m : ActiveMove) (a : Anchor) (f : Nat) (day sub x : Int),
    s.startup.phase ≠ .held → day = 86400 * s.profile.rate → timecodeFrames s.profile w = some f → s.Calm →
    s.motion.active = some m → m.kind = .chase → s.position.anchor = some a →
    (s.chase.state = .approach ∨ s.chase.state = .locked → s.motion.state = .playing → s.pins.pinchSense = true →
      s.cue.gen = .idle →
      sub = a.frame * 100 + (s.position.pos - a.pos) * s.profile.rate * s.profile.cRoll * 100 / (1000 * s.profile.vPlay) →
      x = ((f + m.offset) % day * 100 - sub + 50 * day) % (100 * day) - 50 * day → s.profile.reseek * 100 < x.natAbs →
      ∃ (t : State) (k : SeekCtx) (l : LocateCtx), exec (.referenceWord w false) s = .next t.handOver ∧ t.chase.state = .seek ∧
        t.chase.c = 0 ∧ t.chase.lock = 0 ∧
        t.chase.unlock = 0 ∧ t.Reported s .chaseState 1 ∧ t.motion.state = .releasing ∧ t.motion.pinchCmd = false ∧
        t.chase.seek = some k ∧ k.parked = false ∧ (k.rendezvous : Int) = (f + 2 * s.profile.preroll) % day ∧
        (k.targetFrame : Int) = (k.rendezvous + m.offset - s.profile.preroll) % day ∧
        k.targetPos = max (-2000000000) (min 2000000000 (a.pos +
          ((k.targetFrame - a.frame + day / 2) % day - day / 2) * 1000 * s.profile.vPlay / (s.profile.rate * s.profile.cRoll))) ∧
        t.motion.locate = some l ∧ l.target = k.targetPos ∧ t.motion.active = some { m with reversals := 0 }) ∧
    (∀ k g, s.chase.state = .seek → s.chase.seek = some k → k.parked = true → s.motion.state = .winding →
      g = (f - (k.rendezvous - s.profile.preroll) + day / 2) % day - day / 2 → -(s.profile.preroll : Int) ≤ g →
      s.motion.locate = none →
      ∃ t : State, exec (.referenceWord w false) s = .next t.handOver ∧ t.motion = s.motion ∧ t.chase.state = .seek ∧
        t.chase.seek = (if 0 ≤ g then none else some k) ∧ (0 ≤ g → t.capstan.running = true))) ∧
  ∀ (s u : State),
    (s.chase.lossTimer = none → exec .lossTimerExpiry s = .next s) ∧
    (∀ x, s.chase.lossTimer = some x →
      u = { s with
        now := max s.now (x + Config.usec ((2000000 + (s.profile.rate - 1)) / s.profile.rate))
        chase := { s.chase with present := false, run := 0, lossTimer := none } } →
      ((∀ m, s.motion.active = some m → m.kind ≠ .chase) → u.Settled → exec .lossTimerExpiry s = .next u.handOver) ∧
      (∀ m, s.motion.active = some m → m.kind = .chase → s.motion.state = .playing → s.Calm →
        s.chase.state = .approach ∨ s.chase.state = .locked → s.chase.seek = none →
        ∃ t : State, exec .lossTimerExpiry s = .next t.handOver ∧ t.now = u.now ∧ t.motion = s.motion ∧
          t.chase = (if s.profile.freewheel = 0 then
              { u.chase with state := .lost, c := 0, lock := 0, unlock := 0, freewheel := none, origin := none }
            else { u.chase with
              state := .freewheel, lock := 0, unlock := 0, freewheel := some u.now, origin := some .play }) ∧
          t.Reported s .chaseState (if s.profile.freewheel = 0 then 5 else 4))) ∧
    (s.chase.freewheel = none → exec .freewheelExpiry s = .next s) ∧
    (∀ x m, s.chase.freewheel = some x → s.Calm → s.chase.state = .freewheel → s.motion.active = some m → m.kind = .chase →
      s.motion.state = .playing ∨ s.motion.state = .winding → (s.chase.seek = none → s.motion.locate = none) →
      ∃ t : State, exec .freewheelExpiry s = .next t.handOver ∧
        t.now = max s.now (x + Config.usec ((s.profile.freewheel * 1000000 + (s.profile.rate - 1)) / s.profile.rate)) ∧
        t.chase.state = .lost ∧ t.chase.c = 0 ∧ t.chase.seek = none ∧ t.chase.freewheel = none ∧ t.chase.origin = none ∧
        t.motion = { s.motion with locate := none } ∧ t.capstan.running = true)

/-! ### Cue bits, captures, reports (08, 09, 11) -/

/-- CUE_BIT. While WRITING the pulse drives the code's bit at the bit index, which advances from its end to 0, and no bit is taken
in (R151). Else a bit read outside 0.25 to 4 times play speed empties the history and both detectors; a bit in the band joins the
history of the last 8, and each detector judges whether its last L bits, read in the direction of the tape, are its code: the first
match begins a run, a match L bits after the last one lengthens it, and a missing one breaks it (R146, R147). When no detector comes
to its threshold that is all; the Mark detector's coming to it with auto-cue OFF sets its reported flag and reports CUE, and ends an
active NEXT_CUE move DONE, with which, alone in the queue, the transport halts; the Clear detector's coming to it reports CUE with
CLEAR and ends nothing (R78, R96, R147, R148). With auto-cue ON and no move, the MARK's entry is stored as CUE at the lowest empty
index, unless a CUE entry lies within one second of tape or the table is full, and the CUE event's value carries the answer (R19,
R148). That no bit is read while the reset input is held is the model's choice (entry 11), and so is that the event stands in the
notice link's table alone, as R183 has it, where R148 also speaks of each link's (entry 57). -/
def Obligations.CueBits : Prop :=
  (∀ (s : State) (b : Bool),
    (s.startup.phase = .held → exec (.cueBit b) s = .next s) ∧
    (s.startup.phase ≠ .held →
      (∀ w, s.cue.gen = .writing → s.cue.write = some w →
        exec (.cueBit b) s = .next { s with cue := { s.cue with
          out := .active (some (w.code.getD w.bitIndex false))
          write := some { w with bitIndex := (w.bitIndex + 1) % w.code.length, written := w.written + 1 } } }) ∧
      (s.cue.gen ≠ .writing → 4 * s.speed.v.natAbs < s.profile.vPlay ∨ 4 * s.profile.vPlay < s.speed.v.natAbs → ∀ u : State,
        u = { s with cue := { s.cue with hist := [], detMark := ⟨0, 0, false⟩, detClear := ⟨0, 0, false⟩ } } → u.Settled →
        exec (.cueBit b) s = .next u.handOver) ∧
      (∀ (d : Direction) (hist : List Bool) (old after : CueUnit) (judge : List Bool → Detector → Detector) (u : State),
        s.cue.gen ≠ .writing → s.profile.vPlay ≤ 4 * s.speed.v.natAbs → s.speed.v.natAbs ≤ 4 * s.profile.vPlay →
        d = (if 0 < s.speed.v then .forward else .reverse) →
        old = (if s.cue.hist ≠ [] ∧ s.cue.histDir ≠ d then
          { s.cue with hist := [], detMark := ⟨0, 0, false⟩, detClear := ⟨0, 0, false⟩ } else s.cue) →
        hist = (if old.hist.length < 8 then old.hist ++ [b] else old.hist.drop (old.hist.length - 7) ++ [b]) →
        (∀ code x, judge code x =
          if code.length ≤ hist.length ∧ hist.drop (hist.length - code.length) = (if d = .forward then
            code else code.reverse) then
            if x.run = 0 then ⟨1, 0, x.reported⟩
            else if x.dist < code.length - 1 then { x with dist := x.dist + 1 }
            else ⟨min s.cue.threshold (x.run + 1), 0, x.reported⟩
          else if x.run = 0 then x
          else if x.dist < code.length - 1 then { x with dist := x.dist + 1 }
          else ⟨0, 0, false⟩) →
        after = { old with
          hist := hist, histDir := d, detMark := judge s.cue.mark old.detMark, detClear := judge s.cue.clear old.detClear } →
        ((after.detClear.run = s.cue.threshold → after.detClear.reported = true) →
          ((after.detMark.run = s.cue.threshold → after.detMark.reported = true) → u = { s with cue := after } → u.Settled →
            exec (.cueBit b) s = .next u.handOver) ∧
          (after.detMark.run = s.cue.threshold → after.detMark.reported = false → s.cue.auto = false →
            ((∀ r, s.motion.queue.head? = some r → r.target ≠ some .nextCue) →
              u = State.reportTo { s with cue := { after with detMark := { after.detMark with reported := true } } } s.noticeLink
                .cue 0x0003FFFF s.position.pos → u.Settled → exec (.cueBit b) s = .next u.handOver) ∧
            (∀ m r, s.motion.active = some m → s.motion.queue = [r] → r.target = some .nextCue → m.kind ≠ .chase →
              s.motion.state = .winding ∨ s.motion.state = .playing → s.motion.completions.length < 16 →
              s.position.atRest = false → s.Calm →
              ∃ t : State, exec (.cueBit b) s = .next t.handOver ∧ t.motion.queue = [] ∧ t.motion.active = none ∧
                t.motion.state = .halting ∧
                t.motion.halt = some ⟨s.motion.state = .playing, .stopped, s.motion.state ≠ .playing⟩ ∧
                t.motion.completions = s.motion.completions ++ [s.recordFor r m .done 0] ∧
                t.cue = { after with detMark := { after.detMark with reported := true } } ∧ t.Reported s .cue 0x0003FFFF))) ∧
        ((after.detMark.run = s.cue.threshold → after.detMark.reported = true) → after.detClear.run = s.cue.threshold →
          after.detClear.reported = false →
          u = State.reportTo { s with cue := { after with detClear := { after.detClear with reported := true } } } s.noticeLink .cue
            0x01FFFFFF s.position.pos → u.Settled → exec (.cueBit b) s = .next u.handOver)))) ∧
  ∀ (s : State) (near : Prop) (code : List Bool) (second : Nat),
    s.startup.phase ≠ .held → s.cue.gen = .idle → s.cue.auto = true → s.speed.v = s.profile.vPlay → 0 < s.profile.vPlay →
    s.cue.histDir = .forward → s.cue.hist.length = 8 → code = s.cue.mark → 1 ≤ code.length → code.length ≤ 8 →
    (s.cue.hist ++ [code.getLast?.getD false]).drop (9 - code.length) = code → 0 < s.cue.detMark.run →
    s.cue.detMark.run + 1 = s.cue.threshold → s.cue.detMark.dist = code.length - 1 → s.cue.detMark.reported = false →
    s.cue.detClear.reported = true → s.motion.active = none → s.motion.queue = [] → s.motion.sizing = none →
    s.Calm → second = (s.profile.vPlay * 1000 + (s.profile.cRoll - 1)) / s.profile.cRoll →
    (near ↔ ∃ e, some e ∈ s.position.locate ∧ e.kind = .cue ∧ (e.pos - s.position.pos).natAbs ≤ second) →
    (near → ∃ t : State, exec (.cueBit (code.getLast?.getD false)) s = .next t.handOver ∧ t.position.locate = s.position.locate ∧
      t.Reported s .cue 0x0001FFFF) ∧
    (∀ i : Nat, ¬near → s.position.locate[i]? = some none → (∀ j : Nat, j < i → s.position.locate[j]? ≠ some none) → i < 32 →
      ∃ t : State, exec (.cueBit (code.getLast?.getD false)) s = .next t.handOver ∧
        t.position.locate = s.position.locate.set i (some ⟨.cue, s.position.pos, s.timeAt s.position.pos⟩) ∧
        t.Reported s .cue (i * 256 + 255 : Nat)) ∧
    (¬near → none ∉ s.position.locate → ∃ t : State, exec (.cueBit (code.getLast?.getD false)) s = .next t.handOver ∧
      t.position.locate = s.position.locate ∧ t.Reported s .cue 0x0002FFFF)

/-- CAPTURE_SAMPLE_EVENT, 250 µs after the last one. In IDLE, ARMED and DONE nothing is taken; in RUNNING and TRIGGERED the
decimation phase advances, and at phase 0 one value of each channel is stored, scaled and clamped to 16 bits; a memory that is full
loses its oldest sample in a ring. The sample that reaches a count, the capacity or the post-trigger count ends the capture, which
frees its comparators and reports CAPTURE_DONE to its holder's table (R160, R162, R163, R164). How the clock comes to its moments is
the model's choice (entry 1), and so is that all channels of a sample are read from one state, where R160 lets them differ by a
coincident event (entry 66). -/
def Obligations.CaptureSamples : Prop :=
  ∀ (s u : State) (c : Capture) (cap : Nat) (value : Signal → Int),
    (∀ x, value x = max (-32768) (min 32767 (match x with
      | .armTensionL => (s.armL.tension : Int)
      | .armTensionR => s.armR.tension
      | .torqueL => s.reelL.torque
      | .torqueR => s.reelR.torque
      | .capstanCode => s.capstan.code
      | .measuredSpeed => Int.tdiv s.speed.v 1000
      | .referenceSpeed => Int.tdiv s.motion.vRef 1000
      | .radiusL => (s.reelL.rEst / 100 : Nat)
      | .radiusR => (s.reelR.rEst / 100 : Nat)
      | .positionLow => (s.position.pos + 32768) % 65536 - 32768))) →
    c = { s.capture with lastEvent := max s.now (s.capture.lastEvent + Config.usec 250) } →
    cap = 8192 / s.capture.channels.length →
    u = { s with now := max s.now (s.capture.lastEvent + Config.usec 250), capture := c } →
    (s.capture.state = .idle ∨ s.capture.state = .armed ∨ s.capture.state = .done → exec .captureSampleEvent s = .next u) ∧
    (s.capture.state = .running ∨ s.capture.state = .triggered →
      (s.capture.phase ≠ 0 → exec .captureSampleEvent s =
        .next (State.handOver { u with capture := { c with phase := (c.phase + 1) % c.decim } })) ∧
      (∀ v : Capture, s.capture.phase = 0 →
        v = { c with
          phase := 1 % c.decim
          samples := (if c.samples.length < cap then c.samples else c.samples.drop 1) ++ [c.channels.map value]
          taken := min 4294967295 (c.taken + 1)
          postTaken := if c.state = .triggered then c.postTaken + 1 else c.postTaken } →
        (∀ reason : Option DoneReason,
          reason = (if c.mode = .ring then
              if c.state = .triggered ∧ c.post ≤ v.postTaken then some .postCount else none
            else match c.stop with
              | .count n => if n ≤ v.samples.length then some .count else none
              | _ => if cap ≤ v.samples.length then some .full else none) →
          (reason = none → exec .captureSampleEvent s = .next (State.handOver { u with capture := v })) ∧
          (∀ (x : DoneReason) (l : Link), reason = some x → c.holder = some l → c.startComp = none →
            exec .captureSampleEvent s = .next (State.reportTo { u with
              comps := match c.endComp with
                | some i => s.comps.set i none
                | none => s.comps
              capture := { v with state := .done, reason := some x, endComp := none } } l .captureDone x.ctorIdx
              s.position.pos).handOver))))

/-- POSITION_REPORT_PERIOD: with reports off it does nothing (entry 2); else, one period after the last, a report of the position,
the rest and anchor states and the timecode becomes the notice link's pending report, in place of one not yet sent (R21, R185).
PROFILE_WRITE_DONE: the store holds the new fields with their check, is no longer busy, and PROFILE_WRITTEN is reported (R193); with
no write under way it does nothing (entry 2). How the clock comes to its moments is the model's choice (entry 1). -/
def Obligations.ReportsAndWrites : Prop :=
  ∀ (s u : State),
    (s.ctl.rate = 0 → exec .positionReportPeriod s = .next s) ∧
    (s.ctl.rate ≠ 0 → -2000000000 ≤ s.position.pos → s.position.pos ≤ 2000000000 →
      u = { s with
        now := max s.now (s.ctl.lastReport + 8000000 / s.ctl.rate)
        ctl := { s.ctl with lastReport := max s.now (s.ctl.lastReport + 8000000 / s.ctl.rate) } } →
      exec .positionReportPeriod s = .next (u.withPort s.noticeLink { s.port s.noticeLink with
        report := some (wordBytes (BitVec.ofInt 32 s.position.pos) ++
          [(if s.position.atRest then 1 else 0) + (match s.position.anchor with
            | none => 0
            | some a => if a.kind = .preset then 2 else 4)] ++
          (match s.timeAt s.position.pos with
            | some t => [t.hh, t.mm, t.ss, t.ff]
            | none => [0xFF, 0xFF, 0xFF, 0xFF])) }).handOver) ∧
    (s.store.busy = false → exec .profileWriteDone s = .next s) ∧
    (s.store.busy = true → exec .profileWriteDone s = .next (State.reportTo
      { s with store := ⟨s.store.bytes, some (crc16 s.store.bytes), false, false⟩ } s.noticeLink .profileWritten 0
        s.position.pos).handOver)

/-- FRAME_RECEIVED: outside the running part the receivers discard; a frame joins its link's receive queue when that holds fewer
than 4 frames, those whose reply waits counted, and the owner's restarts a running supervision timer; a fifth frame is discarded.
A byte without its stop bit, and a gap of more than 5 ms, discard a partial frame (R177, R179). With no
partial frame a gap does nothing (entry 2). How the clock comes to the moment of a gap is the model's choice (entry 1). -/
def Obligations.FramesReceived : Prop :=
  ∀ (s : State) (l : Link) (f : Frame) (b : Byte), f.body.length ≤ 120 →
    (s.startup.phase ≠ .running →
      exec (.frameReceived l f.kind f.tag f.body) s = .next s ∧ ∀ stop, exec (.byteReceived l b stop) s = .next s) ∧
    (s.startup.phase = .running →
      ((s.port l).rx.length + (s.port l).replies.length < 4 →
        exec (.frameReceived l f.kind f.tag f.body) s = .next
          (State.withPort { s with faults := { s.faults with
            supervision := if s.ctl.owner = Link.owner l then
              s.faults.supervision.map (fun _ => s.now) else s.faults.supervision } }
            l { s.port l with rx := (s.port l).rx ++ [f] })) ∧
      (4 ≤ (s.port l).rx.length + (s.port l).replies.length →
        exec (.frameReceived l f.kind f.tag f.body) s = .next s) ∧
      exec (.byteReceived l b false) s = .next (s.withPort l { s.port l with part := none, lastByte := s.now })) ∧
    ((s.port l).part = none → exec (.frameGapTimeout l) s = .next s) ∧
    ((s.port l).part ≠ none → exec (.frameGapTimeout l) s = .next (State.withPort
      { s with now := max s.now ((s.port l).lastByte + Config.msec 5) } l { s.port l with part := none }))

/-! ### Requests about motion (04, 05, 10) -/

/-- SUBMIT_MOVE. Accepted in STOPPED into an empty queue a move activates at once: a WIND to a POSITION takes the lowest free
comparator, ARMED at its target in its direction, and starts WINDING, or ends DONE with no motion when the target is not ahead; a
PLAY with its optional fields given runs with them clamped (R69, R70, R71, R73, R75, R94). A LOCATE begins its context with the
phase and direction of its distance, or ends DONE at rest within the tolerance (R98). A CHASE starts LOST with the reference ABSENT,
else APPROACH or SEEK by the phase error, and with no anchor ends NO_TIMECODE (R133, R134). A LOCATE or PLAY whose target cannot be
resolved ends NO_TIMECODE or EMPTY_ENTRY at its activation, the transport staying STOPPED (R74). A WIND or PLAY that needs a
comparator when none is free is refused NO_COMPARATOR (R67, R71). A HOLD behind a move that is not
open-ended joins the tail with the profile's values, in the lowest free queue slot (entry 42); behind an open-ended PLAY it
supersedes it, and PLAYING goes on (R79, R95). In a state that takes no moves it is refused WRONG_STATE, and with 16 records
QUEUE_FULL (R67). That the
2-byte fields of a move are unsigned but for the varispeed is the model's reading (entry 29). -/
def Obligations.SubmitMove : Prop :=
  ∀ (s t : State) (r : Request) (id : Byte), s.Takes 0x12 r t → t.Grants r.link →
    (∀ (d : Direction) (x : Int) (i : Nat),
      r.body = [id, 0, 0b00000011, if d = .forward then 0 else 1, 0] ++ wordBytes (BitVec.ofInt 32 x) →
      -2000000000 ≤ x → x ≤ 2000000000 → t.comps[i]? = some none → (∀ j : Nat, j < i → t.comps[j]? ≠ some none) →
      t.motion.state = .stopped → t.motion.queue = [] → t.motion.active = none → t.motion.locate = none → t.Calm →
      (d = .forward ∧ t.position.pos < x ∨ d = .reverse ∧ x < t.position.pos →
        ∃ u : State, exec (.submitMove r) s = .next (u.answered 0x12 r .ok [1]) ∧ u.motion.state = .winding ∧
          u.motion.active = some ⟨id, .wind, some d, some x, some i, t.profile.accel, t.profile.shuttle,
            t.profile.windTension, 0, 0, t.now, false, 0⟩ ∧
          u.motion.queue.map (·.id) = [id] ∧ u.motion.accel = t.profile.accel ∧ u.motion.completions = t.motion.completions ∧
          u.comps = t.comps.set i (some ⟨.move, some 0, x, if d = .forward then .forward else .reverse, .armed⟩)) ∧
      (d = .forward ∧ x ≤ t.position.pos ∨ d = .reverse ∧ t.position.pos ≤ x → t.motion.completions.length < 16 →
        ∃ u : State, exec (.submitMove r) s = .next (u.answered 0x12 r .ok [1]) ∧ u.motion.state = .stopped ∧
          u.motion.active = none ∧
          u.motion.queue = [] ∧ u.comps = t.comps ∧ u.motion.completions = t.motion.completions ++
            [⟨id, .done, t.position.pos, t.timeAt t.position.pos, 0, false, 0, false⟩])) ∧
    (∀ x : Int, -2000000000 ≤ x → x ≤ 2000000000 → (∀ j : Nat, t.comps[j]? ≠ some none) → t.motion.queue.length < 16 →
      t.motion.state = .stopped ∨ t.motion.state = .winding ∨ t.motion.state = .engaging ∨ t.motion.state = .playing ∨
        t.motion.state = .releasing →
      (∃ d : Direction, r.body = [id, 0, 0b00000011, if d = .forward then 0 else 1, 0] ++ wordBytes (BitVec.ofInt 32 x)) ∨
        r.body = [id, 2, 0b00000010, 0] ++ wordBytes (BitVec.ofInt 32 x) →
      exec (.submitMove r) s = .next (t.answered 0x12 r .noComparator [])) ∧
    (∀ (x : Int) (l : LocateCtx) (b dist : Nat), r.body = [id, 1, 0b00000010, 0] ++ wordBytes (BitVec.ofInt 32 x) →
      -2000000000 ≤ x → x ≤ 2000000000 → t.motion.state = .stopped → t.motion.queue = [] → t.motion.active = none →
      t.motion.locate = none → t.Calm → dist = (t.position.pos - x).natAbs →
      b = (t.profile.creep ^ 2 + (2 * t.profile.accel * t.profile.cRoll - 1)) / (2 * t.profile.accel * t.profile.cRoll) →
      l = ⟨if dist ≤ t.profile.tolerance then .settle else if dist ≤ b then .creep else .run,
        if t.position.pos < x then .forward else if x < t.position.pos then .reverse
          else if 0 ≤ t.motion.vRef then .forward else .reverse, x⟩ →
      (dist ≤ t.profile.tolerance → t.position.atRest = true → t.motion.completions.length < 16 →
        ∃ u : State, exec (.submitMove r) s = .next (u.answered 0x12 r .ok [1]) ∧ u.motion.state = .stopped ∧
          u.motion.active = none ∧ u.motion.queue = [] ∧ u.motion.locate = none ∧ u.comps = t.comps ∧
          u.motion.completions = t.motion.completions ++
            [⟨id, .done, t.position.pos, t.timeAt t.position.pos, 0, false, 0, false⟩]) ∧
      (t.profile.tolerance < dist ∨ t.position.atRest = false →
        ∃ u : State, exec (.submitMove r) s = .next (u.answered 0x12 r .ok [1]) ∧ u.motion.state = .winding ∧
          u.motion.locate = some l ∧ u.motion.queue.map (·.id) = [id] ∧ u.comps = t.comps ∧
          u.motion.completions = t.motion.completions ∧ u.motion.active = some ⟨id, .locate, none, some x, none,
            t.profile.accel, t.profile.shuttle, t.profile.windTension, 0, 0, t.now, false, 0⟩)) ∧
    (∀ (k : Byte) (res : MoveResult), k = 1 ∨ (k = 2 ∧ ∃ i : Nat, t.comps[i]? = some none) →
      t.motion.state = .stopped → t.motion.queue = [] → t.motion.active = none → t.motion.completions.length < 16 →
      t.Calm →
      (∃ x : BcdTime, r.body = [id, k, 0b00000010, 1, x.hh, x.mm, x.ss, x.ff] ∧ (timecodeFrames t.profile x).isSome = true ∧
          t.position.anchor = none ∧ res = .noTimecode) ∨
        (∃ i : Byte, r.body = [id, k, 0b00000010, 2, 0, 0, 0, i] ∧ i.toNat < 32 ∧ t.position.locate[i.toNat]? = some none ∧
          res = .emptyEntry) →
      ∃ u : State, exec (.submitMove r) s = .next (u.answered 0x12 r .ok [1]) ∧ u.motion.state = .stopped ∧
        u.motion.active = none ∧ u.motion.queue = [] ∧ u.comps = t.comps ∧ u.motion.completions = t.motion.completions ++
          [⟨id, res, t.position.pos, t.timeAt t.position.pos, 0, false, 0, false⟩]) ∧
    (∀ (m : ActiveMove) (e : Option Int) (day : Int), r.body = [id, 3, 0] → day = 86400 * t.profile.rate →
      m = ⟨id, .chase, none, none, none, t.profile.accel, t.profile.shuttle, t.profile.playTension, 0, 0, t.now, false, 0⟩ →
      t.motion.state = .stopped → t.motion.queue = [] → t.motion.active = none → t.motion.locate = none → t.Calm →
      t.chase.state = .inactive →
      (t.chase.present = false → ∃ u : State, exec (.submitMove r) s = .next (u.answered 0x12 r .ok [1]) ∧
        u.motion.state = .winding ∧ u.motion.active = some m ∧ u.motion.locate = none ∧ u.chase.state = .lost ∧ u.chase.c = 0 ∧
        u.Reported t .chaseState 5) ∧
      (∀ f : Nat, t.chase.present = true → t.chase.lastFrame = some f →
        e = t.chase.lastSub.map (fun x => (f % day * 100 - x + 50 * day) % (100 * day) - 50 * day) →
        (t.position.anchor = none → t.motion.completions.length < 16 →
          ∃ u : State, exec (.submitMove r) s = .next (u.answered 0x12 r .ok [1]) ∧ u.motion.state = .stopped ∧
            u.motion.active = none ∧ u.motion.queue = [] ∧ u.chase.state = .inactive ∧
            u.motion.completions = t.motion.completions ++ [⟨id, .noTimecode, t.position.pos, none, 0, false, 0, false⟩]) ∧
        (∀ a x, t.position.anchor = some a → e = some x → x.natAbs ≤ t.profile.reseek * 100 →
          ∃ u : State, exec (.submitMove r) s = .next (u.answered 0x12 r .ok [1]) ∧ u.motion.state = .winding ∧
            u.motion.active = some m ∧ u.motion.locate = none ∧ u.chase.state = .approach ∧ u.chase.e = e ∧
            u.Reported t .chaseState 2) ∧
        (∀ (a : Anchor) (k : SeekCtx), t.position.anchor = some a → (∀ x, e = some x → t.profile.reseek * 100 < x.natAbs) →
          (k.rendezvous : Int) = (f + 2 * t.profile.preroll) % day →
          (k.targetFrame : Int) = (k.rendezvous - t.profile.preroll) % day → k.parked = false →
          k.targetPos = max (-2000000000) (min 2000000000 (a.pos + ((k.targetFrame - a.frame + day / 2) % day - day / 2) * 1000 *
            t.profile.vPlay / (t.profile.rate * t.profile.cRoll))) →
          t.profile.tolerance < (t.position.pos - k.targetPos).natAbs →
          ∃ (u : State) (l : LocateCtx), exec (.submitMove r) s = .next (u.answered 0x12 r .ok [1]) ∧ u.motion.state = .winding ∧
            u.motion.active = some m ∧ u.chase.state = .seek ∧ u.chase.seek = some k ∧ u.chase.c = 0 ∧ u.chase.e = e ∧
            u.motion.locate = some l ∧ l.target = k.targetPos ∧ l.dir = (if t.position.pos < l.target then .forward else .reverse) ∧
            u.Reported t .chaseState 1))) ∧
    (∀ (c a f : Nat) (v : Int), c < 4294967296 → a < 65536 → f < 65536 → -32768 ≤ v → v < 32768 →
      r.body = [id, 2, 0b01111000] ++ wordBytes (BitVec.ofNat 32 c) ++ [BitVec.ofNat 8 (a / 256), BitVec.ofNat 8 a] ++
        [BitVec.ofNat 8 (f / 256), BitVec.ofNat 8 f] ++ [BitVec.ofInt 8 (v / 256), BitVec.ofInt 8 v] →
      t.motion.state = .stopped → t.motion.queue = [] → t.motion.active = none → t.motion.locate = none → t.Calm →
      t.profile.creep ≤ t.profile.shuttle →
      ∃ u : State, exec (.submitMove r) s = .next (u.answered 0x12 r .ok [1]) ∧ u.motion.state = .winding ∧ u.comps = t.comps ∧
        u.motion.active = some ⟨id, .play, none, none, none, max 100 (min 8000 a) / 4 * 4,
          max t.profile.creep (min t.profile.shuttle c), max 50 (min 1500 f), max (-1250) (min 1250 v), 0, t.now, false, 0⟩) ∧
    (∀ (dur slot n : Nat) (hold : MoveRecord), 1 ≤ dur → dur ≤ 3600000 →
      r.body = [id, 4, 0b00000100] ++ wordBytes (BitVec.ofNat 32 dur) → n = t.motion.queue.length →
      hold = ⟨slot, id, .hold, none, none, none, some dur, t.profile.shuttle, t.profile.accel, t.profile.stopTension, 0, 0, none⟩ →
      (t.motion.state = .unthreaded ∨ t.motion.state = .sizing ∨ t.motion.state = .halting ∨ t.motion.state = .braking ∨
          t.motion.state = .fault ∨ t.motion.state = .standby →
        exec (.submitMove r) s = .next (t.answered 0x12 r .wrongState [])) ∧
      (t.motion.state = .stopped ∨ t.motion.state = .winding ∨ t.motion.state = .engaging ∨ t.motion.state = .playing ∨
          t.motion.state = .releasing →
        (16 ≤ n → exec (.submitMove r) s = .next (t.answered 0x12 r .queueFull [])) ∧
        (∀ m q rest, n < 16 → t.motion.active = some m → t.motion.queue = q :: rest →
          slot < 16 → (∀ x ∈ t.motion.queue, x.slot ≠ slot) → (∀ k, k < slot → ∃ x ∈ t.motion.queue, x.slot = k) →
          (q.kind ≠ .chase → (q.kind = .locate ∨ q.kind = .hold ∨ q.target ≠ none ∨ q.duration ≠ none) → ∀ u : State,
            u = { t with motion := { t.motion with queue := t.motion.queue ++ [hold] } } → u.Settled →
            exec (.submitMove r) s = .next (u.answered 0x12 r .ok [BitVec.ofNat 8 (n + 1)])) ∧
          (rest = [] → q.kind = .play → q.target = none → q.duration = none → m.kind = .play → t.motion.state = .playing →
            t.motion.completions.length < 16 → t.position.atRest = false → t.Calm →
            ∃ u : State, exec (.submitMove r) s = .next (u.answered 0x12 r .ok [2]) ∧ u.motion.state = .playing ∧
              u.motion.queue = [hold] ∧
              u.motion.active = some ⟨id, .hold, none, none, none, t.profile.accel, t.profile.shuttle, t.profile.stopTension, 0, 0,
                t.now, false, 0⟩ ∧
              u.motion.completions = t.motion.completions ++ [t.recordFor q m .superseded 0]))))

/-- FLUSH_MOVES and STOP. A flush without the active move removes the records that wait behind it, ABORTED, and the move goes on;
with it the move ends ABORTED too and the transport halts; an empty queue is left alone; the reply gives the number removed (R83). A
Stop, from either link and while a reset is pending, ends the active move ABORTED with the records behind it and halts a WIND; in
ENGAGING the engagement goes on with a halt pending; in STOPPED at rest with no moves it changes nothing (R81, R82, R96, R105). -/
def Obligations.FlushAndStop : Prop :=
  ∀ (s t : State) (r : Request),
    (∀ flag : Byte, s.Takes 0x13 r t → t.Grants r.link → r.body = [flag] →
      (flag = 0 → ∀ m q, t.motion.active = some m → t.motion.queue = [q] →
        exec (.flushMoves r) s = .next (t.answered 0x13 r .ok [0])) ∧
      (flag = 0 → ∀ (m : ActiveMove) (q x : MoveRecord) (u : State), t.motion.active = some m → t.motion.queue = [q, x] →
        x.comp = none →
        t.motion.completions.length < 16 →
        u = { t with motion := { t.motion with
          queue := [q], completions := t.motion.completions ++
            [⟨x.id, .aborted, t.position.pos, t.timeAt t.position.pos, 0, false, 0, false⟩] } } →
        exec (.flushMoves r) s = .next (u.answered 0x13 r .ok [1])) ∧
      (t.motion.active = none → t.motion.queue = [] → t.Settled → flag = 0 ∨ flag = 1 →
        exec (.flushMoves r) s = .next (t.answered 0x13 r .ok [0])) ∧
      (flag = 1 → ∀ m q, t.motion.active = some m → m.kind = .play → t.motion.queue = [q] → t.motion.state = .playing →
        t.motion.completions.length < 16 → t.position.atRest = false → t.Calm →
        ∃ u : State, exec (.flushMoves r) s = .next (u.answered 0x13 r .ok [1]) ∧ u.motion.state = .halting ∧
          u.motion.halt = some ⟨true, .stopped, false⟩ ∧ u.motion.queue = [] ∧ u.motion.active = none ∧
          u.motion.completions = t.motion.completions ++ [t.recordFor q m .aborted 0])) ∧
    (s.Takes 0x14 r t → r.body = [] →
      (t.motion.state = .stopped → t.position.atRest = true → t.motion.active = none → t.motion.queue = [] → t.Settled →
        exec (.stop r) s = .next (t.answered 0x14 r .ok [])) ∧
      (∀ m q x, t.motion.active = some m → t.motion.queue = [q, x] → t.motion.completions.length < 15 →
        t.position.atRest = false →
        t.Calm →
        (t.motion.state = .winding →
          ∃ u : State, exec (.stop r) s = .next (u.answered 0x14 r .ok []) ∧ u.motion.state = .halting ∧
            u.motion.halt = some ⟨false, .stopped, true⟩ ∧ u.motion.accel = t.profile.aStop ∧ u.motion.vRef = t.motion.vRef ∧
            u.motion.queue = [] ∧ u.motion.active = none ∧
            u.motion.completions = t.motion.completions ++ [t.recordFor q m .aborted 1,
              ⟨x.id, .aborted, t.position.pos, t.timeAt t.position.pos, 0, false, 0, false⟩]) ∧
        (t.motion.state = .engaging → t.motion.pinchTimer.isSome = true → t.pins.pinchSense = false →
          ∃ u : State, exec (.stop r) s = .next (u.answered 0x14 r .ok []) ∧ u.motion.state = .engaging ∧
            u.motion.haltPending = some .stopped ∧ u.motion.pinchTimer = t.motion.pinchTimer ∧ u.motion.queue = [] ∧
            u.motion.active = none)))

/-- SIZE_REELS, WAKE and CLEAR_FAULT. Sizing starts both estimates again and enters SIZING in THREAD_CHECK, or in MEASURE at once
with both arms NORMAL; it is refused PROFILE_INVALID while the invalid flag is set, and WRONG_STATE outside UNTHREADED and an
empty STOPPED (R106, R32). A Wake leaves STANDBY for the same check with the estimates kept, which ends in STOPPED with both arms
NORMAL (R110, R62). Clear Fault takes from the set each kind whose condition is absent: with none left the transport enters
UNTHREADED, else it answers FAULT_PERSISTS with those left; a TAPE_BREAK or RADIUS_LOST in the set starts the estimates again
(R176, R32). -/
def Obligations.SizeWakeClear : Prop :=
  ∀ (s t : State) (r : Request), r.body = [] → t.Grants r.link →
    (s.Takes 0x15 r t →
      (t.store.invalid = true → exec (.sizeReels r) s = .next (t.answered 0x15 r .profileInvalid [])) ∧
      (t.store.invalid = false → t.motion.state ≠ .unthreaded → t.motion.state ≠ .stopped ∨ t.motion.queue ≠ [] →
        exec (.sizeReels r) s = .next (t.answered 0x15 r .wrongState [])) ∧
      (t.store.invalid = false → t.motion.state = .unthreaded → t.motion.locate = none → t.armL.state ≠ .over →
        t.armR.state ≠ .over → ∃ u : State, exec (.sizeReels r) s = .next (u.answered 0x15 r .ok []) ∧
          u.motion.state = .sizing ∧ u.motion.brakeRelease = true ∧
          u.motion.sizing = some ⟨if t.armL.state = .normal ∧ t.armR.state = .normal then .measure else .threadCheck, .size,
            t.position.pos, t.now, 0⟩ ∧
          u.reelL.conf = 0 ∧ u.reelR.conf = 0 ∧ u.reelL.rEst = t.profile.rSizing ∧ u.reelR.rEst = t.profile.rSizing ∧
          u.motion.accel = t.profile.accel)) ∧
    (s.Takes 0x17 r t →
      (t.motion.state ≠ .standby → exec (.wake r) s = .next (t.answered 0x17 r .wrongState [])) ∧
      (t.motion.state = .standby → t.motion.locate = none → t.motion.queue = [] → t.armL.state ≠ .over → t.armR.state ≠ .over →
        ∃ u : State, exec (.wake r) s = .next (u.answered 0x17 r .ok []) ∧ u.watch = none ∧ u.motion.brakeRelease = true ∧
          u.reelL.conf = t.reelL.conf ∧ u.reelR.conf = t.reelR.conf ∧ u.reelL.rEst = t.reelL.rEst ∧ u.reelR.rEst = t.reelR.rEst ∧
          (t.armL.state = .normal ∧ t.armR.state = .normal → u.motion.state = .stopped ∧ u.motion.sizing = none) ∧
          (t.armL.state = .slack ∨ t.armR.state = .slack → u.motion.state = .sizing ∧
            u.motion.sizing = some ⟨.threadCheck, .wake, t.position.pos, t.now, 0⟩))) ∧
    (∀ left : List FaultKind, s.Takes 0x18 r t →
      left = t.faults.set.filter (fun k => match k with
        | .driveL => t.pins.faultL || t.faults.mismL = 64
        | .driveR => t.pins.faultR || t.faults.mismR = 64
        | .driveC => t.pins.faultC || t.faults.mismC = 64
        | .supplyLow => t.pins.supplyWarning || t.faults.supply = 16
        | .overTension => t.armL.state = .over || t.armR.state = .over
        | .pinchTimeout => t.pins.pinchSense
        | .tapeBreak | .slackLoop | .radiusLost | .rollerSlip => false) →
      (t.motion.state ≠ .fault → exec (.clearFault r) s = .next (t.answered 0x18 r .wrongState [])) ∧
      (t.motion.state = .fault → ∃ u : State, u.faults.set = left ∧
        (.tapeBreak ∈ t.faults.set ∨ .radiusLost ∈ t.faults.set →
          u.reelL.conf = 0 ∧ u.reelR.conf = 0 ∧ u.reelL.rEst = t.profile.rSizing ∧ u.reelR.rEst = t.profile.rSizing) ∧
        (.tapeBreak ∉ t.faults.set → .radiusLost ∉ t.faults.set →
          u.reelL.conf = t.reelL.conf ∧ u.reelR.conf = t.reelR.conf ∧ u.reelL.rEst = t.reelL.rEst ∧ u.reelR.rEst = t.reelR.rEst) ∧
        (left = [] → exec (.clearFault r) s = .next (u.answered 0x18 r .ok []) ∧ u.faults.primary = none ∧
          u.motion.state = .unthreaded) ∧
        (left ≠ [] → exec (.clearFault r) s = .next (u.answered 0x18 r .faultPersists
            (BitVec.ofNat 8 left.length :: left.map (fun k => BitVec.ofNat 8 k.ctorIdx))) ∧
          u.faults.primary = t.faults.primary ∧ u.motion = t.motion)))

/-- Enter Standby, whole: who may ask, where it is accepted, the brakes engaged, the drive codes and the reference at 0, the
standby watch active with its snapshot, and the confidences, estimates and streaks kept (R109). -/
def Obligations.EnterStandby : Prop :=
  ∀ (s t : State) (r : Request), s.Takes 0x16 r t → r.body = [] →
    (t.ctl.owner ≠ Link.owner r.link → exec (.enterStandby r) s = .next (t.answered 0x16 r .notOwner [])) ∧
    (t.ctl.owner = Link.owner r.link → t.ctl.resetPending ≠ none →
      exec (.enterStandby r) s = .next (t.answered 0x16 r .resetPending [])) ∧
    (t.Grants r.link →
      (t.motion.state = .unthreaded ∨ (t.motion.state = .stopped ∧ t.motion.queue = [] ∧ t.position.atRest = true) →
        ∃ u : State, exec (.enterStandby r) s = .next (u.answered 0x16 r .ok []) ∧ u.motion.state = .standby ∧
          u.motion.brakeRelease = false ∧ u.Braked ∧ u.watch = some ⟨t.conv.armL, t.conv.armR, 0, 0⟩ ∧
          u.reelL.conf = t.reelL.conf ∧ u.reelR.conf = t.reelR.conf ∧ u.reelL.rEst = t.reelL.rEst ∧
          u.reelR.rEst = t.reelR.rEst ∧ u.reelL.streak = t.reelL.streak ∧ u.reelR.streak = t.reelR.streak) ∧
      (t.motion.state ≠ .unthreaded →
        ¬(t.motion.state = .stopped ∧ t.motion.queue = [] ∧ t.position.atRest = true) →
        exec (.enterStandby r) s = .next (t.answered 0x16 r .wrongState [])))

/-! ### Requests about tables, units, links and the profile (01, 03, 06, 08, 09, 11) -/

/-- SET_ZONE, CLEAR_ZONE, SET_LOCATE_ENTRY, CLEAR_LOCATE_ENTRY, SET_ANCHOR and SET_SCHEDULE from the owner: each replaces what it
names and nothing else. A zone's containment is that of the tape position, and a BARRIER that contains it opens toward its nearer
edge; base above limit is BAD_FIELD 3 (R116, R117). An entry takes the tape position, the position given, or that of the timecode,
which with no anchor is WRONG_STATE (R17, R18). The anchor becomes PRESET at the tape position, the chain empties and every stored
timecode is recomputed (R14). A schedule of R50's counts waits for the next slot, in UNTHREADED, STOPPED, STANDBY and FAULT (R51).
The numbers of the kinds and sources in the bodies are those of R181. The values of an emptied chain are the model's choice (entry
4), as are the 6 bytes of an entry under CURRENT (entry 49). -/
def Obligations.TableRequests : Prop :=
  ∀ (s t : State) (r : Request), t.Grants r.link →
    (∀ (i c : Nat) (lo hi : Int) (k : ZoneKind), s.Takes 0x20 r t →
      r.body = [BitVec.ofNat 8 i] ++ wordBytes (BitVec.ofInt 32 lo) ++ wordBytes (BitVec.ofInt 32 hi) ++
        [BitVec.ofNat 8 k.ctorIdx] ++ wordBytes (BitVec.ofNat 32 c) →
      i < 8 → -2000000000 ≤ lo → lo ≤ 2000000000 → -2000000000 ≤ hi → hi ≤ 2000000000 → c < 4294967296 →
      (hi < lo → exec (.setZone r) s = .next (t.answered 0x20 r .badField [3])) ∧
      (lo ≤ hi → (if k = .slow then 10000 ≤ c ∧ c ≤ 12000000 else c = 0) →
        exec (.setZone r) s = .next (State.answered { t with zones := { t.zones with entries := t.zones.entries.set i (some {
          base := lo, limit := hi, kind := k, ceiling := c
          contains := decide (lo ≤ t.position.pos ∧ t.position.pos ≤ hi)
          exit := if k = .barrier ∧ lo ≤ t.position.pos ∧ t.position.pos ≤ hi then
              some (if t.position.pos - lo < hi - t.position.pos then .reverse
                else if hi - t.position.pos < t.position.pos - lo then .forward else .either)
            else none }) } } 0x20 r .ok []))) ∧
    (∀ i : Nat, s.Takes 0x21 r t → r.body = [BitVec.ofNat 8 i] → t.zones.entries.length = 8 →
      (i < 8 → exec (.clearZone r) s = .next (State.answered
        { t with zones := { t.zones with entries := t.zones.entries.set i none } } 0x21 r .ok [])) ∧
      (i = 255 → exec (.clearZone r) s = .next (State.answered
        { t with zones := { t.zones with entries := List.replicate 8 none } } 0x21 r .ok [])) ∧
      (8 ≤ i → i < 255 → exec (.clearZone r) s = .next (t.answered 0x21 r .badField [1]))) ∧
    (∀ (i : Nat) (k : Byte) (w : BitVec 32) (e : LocateEntry), s.Takes 0x22 r t → i < 32 →
      r.body = [BitVec.ofNat 8 i, k] ++ wordBytes w → e.kind = .user →
      (k = 0 ∧ e.pos = t.position.pos ∧ e.time = t.timeAt e.pos) ∨
      (k = 1 ∧ w = BitVec.ofInt 32 e.pos ∧ -2000000000 ≤ e.pos ∧ e.pos ≤ 2000000000 ∧ e.time = t.timeAt e.pos) ∨
      (∃ (x : BcdTime) (f : Nat) (a : Anchor), k = 2 ∧ w = x.hh ++ x.mm ++ x.ss ++ x.ff ∧ e.time = some x ∧
        timecodeFrames t.profile x = some f ∧ t.position.anchor = some a ∧
        e.pos = max (-2000000000) (min 2000000000 (a.pos +
          (((f : Int) - a.frame + 43200 * t.profile.rate) % (86400 * t.profile.rate) - 43200 * t.profile.rate) * 1000 *
            t.profile.vPlay / (t.profile.rate * t.profile.cRoll)))) →
      exec (.setLocateEntry r) s = .next (State.answered { t with position := { t.position with
        locate := t.position.locate.set i (some e) } } 0x22 r .ok [])) ∧
    (∀ (i : Byte) (x : BcdTime), s.Takes 0x22 r t → i.toNat < 32 → r.body = [i, 2, x.hh, x.mm, x.ss, x.ff] →
      (timecodeFrames t.profile x).isSome = true → t.position.anchor = none →
      exec (.setLocateEntry r) s = .next (t.answered 0x22 r .wrongState [])) ∧
    (∀ i : Nat, s.Takes 0x23 r t → r.body = [BitVec.ofNat 8 i] → t.position.locate.length = 32 → i < 32 ∨ i = 255 →
      exec (.clearLocateEntry r) s = .next (State.answered { t with position := { t.position with
        locate := if i = 255 then List.replicate 32 none else t.position.locate.set i none } } 0x23 r .ok [])) ∧
    (∀ (x : BcdTime) (f : Nat), s.Takes 0x24 r t → r.body = [x.hh, x.mm, x.ss, x.ff] → timecodeFrames t.profile x = some f →
      exec (.setAnchor r) s = .next (State.answered { t with position := { t.position with
        anchor := some ⟨.preset, t.position.pos, f⟩
        chain := ⟨0, 0, .forward⟩
        locate := t.position.locate.map (fun o => o.map (fun e => { e with
          time := some (framesTimecode t.profile
            (((f : Int) + (e.pos - t.position.pos) * t.profile.rate * t.profile.cRoll / (1000 * t.profile.vPlay)) %
              (86400 * t.profile.rate)).toNat) })) } } 0x24 r .ok [])) ∧
    (∀ l : List Slot, s.Takes 0x25 r t → r.body = l.map (fun x => BitVec.ofNat 8 x.ctorIdx) → l.length = 16 →
      (∀ x, x = .armL ∨ x = .armR → 4 ≤ l.count x ∧ l.count x ≤ 8) →
      (∀ x, x = .curL ∨ x = .curR ∨ x = .curC ∨ x = .supply → 1 ≤ l.count x ∧ l.count x ≤ 5) → l.count .idle ≤ 4 →
      (t.motion.state = .unthreaded ∨ t.motion.state = .stopped ∨ t.motion.state = .standby ∨ t.motion.state = .fault →
        exec (.setSchedule r) s = .next (State.answered
          { t with conv := { t.conv with pendingSchedule := some l } } 0x25 r .ok [])) ∧
      (t.motion.state ≠ .unthreaded → t.motion.state ≠ .stopped → t.motion.state ≠ .standby → t.motion.state ≠ .fault →
        exec (.setSchedule r) s = .next (t.answered 0x25 r .wrongState [])))

/-- WATCH_POSITION, CANCEL_WATCH and the capture requests. A watch takes the lowest free comparator, ARMED at its target; a cancel
frees a watch and no other user's comparator, and answers the number freed (R156, R159; 1 for an index, entry 46). Arm Capture makes
the requesting link the holder, whatever the ownership: a ONE_SHOT capture with an IMMEDIATE start and a RING capture enter RUNNING
with decimation and counts clamped, a ring's AT_POSITION trigger taking a comparator, ARMED; a capture under way is BUSY for its
holder and NOT_OWNER for the other link, unless the service seizes (R161, R162, R163). Trigger, Abort and Release belong to the
holder; in IDLE each is WRONG_STATE (R164). What the settings that a capture does not use hold is the model's choice (entries 34,
65). -/
def Obligations.CaptureRequests : Prop :=
  ∀ (s t : State) (r : Request), t.ctl.resetPending = none →
    (∀ (x : Int) (d : Sense), s.Takes 0x29 r t → t.ctl.owner = Link.owner r.link →
      r.body = wordBytes (BitVec.ofInt 32 x) ++ [BitVec.ofNat 8 d.ctorIdx] → -2000000000 ≤ x → x ≤ 2000000000 →
      (∀ i : Nat, t.comps[i]? = some none → i < 256 → (∀ j : Nat, j < i → t.comps[j]? ≠ some none) →
        exec (.watchPosition r) s = .next (State.answered
          { t with comps := t.comps.set i (some ⟨.watch, none, x, d, .armed⟩) } 0x29 r .ok [BitVec.ofNat 8 i])) ∧
      ((∀ j : Nat, t.comps[j]? ≠ some none) → exec (.watchPosition r) s = .next (t.answered 0x29 r .noComparator []))) ∧
    (∀ i : Byte, s.Takes 0x2A r t → t.ctl.owner = Link.owner r.link → r.body = [i] →
      (∀ c, i.toNat < 4 → t.comps[i.toNat]? = some (some c) → c.user = .watch →
        exec (.cancelWatch r) s = .next (State.answered { t with comps := t.comps.set i.toNat none } 0x2A r .ok [1])) ∧
      (i.toNat < 4 → (∀ c, t.comps[i.toNat]? = some (some c) → c.user ≠ .watch) →
        exec (.cancelWatch r) s = .next (t.answered 0x2A r .wrongState [])) ∧
      (i = 0xFF → t.comps.length = 4 → ∃ (u : State) (n : Nat),
        exec (.cancelWatch r) s = .next (u.answered 0x2A r .ok [BitVec.ofNat 8 n]) ∧
        n = t.comps.countP (fun o => o.any (fun c => c.user = .watch)) ∧ u = { t with comps := u.comps } ∧ u.comps.length = 4 ∧
        ∀ j : Nat, (∀ c, t.comps[j]? = some (some c) → c.user ≠ .watch → u.comps[j]? = t.comps[j]?) ∧
          (∀ c, t.comps[j]? = some (some c) → c.user = .watch → u.comps[j]? = some none))) ∧
    (∀ (names : List Signal) (dec count post : Nat) (flag : Byte) (cap : Nat) (c : Capture), s.Takes 0x30 r t →
      1 ≤ names.length → names.length ≤ 4 → dec < 256 → count < 65536 → post < 65536 → flag = 0 ∨ flag = 1 →
      cap = 8192 / names.length →
      c = { Capture.idle t.capture.lastEvent with
        state := .running, holder := some r.link, channels := names, decim := max 1 (min 64 dec) } →
      (∀ one : Bytes, one = [0, flag, BitVec.ofNat 8 names.length] ++ names.map (fun x => BitVec.ofNat 8 x.ctorIdx) ++
          List.replicate (4 - names.length) 0 ++ [BitVec.ofNat 8 dec, 0, 0, 0, 0, 0, 0, 0] ++
          [BitVec.ofNat 8 (count / 256), BitVec.ofNat 8 count] ++ [0, 0, 0, 0, 0, 0, 0] → r.body = one →
        (t.capture.state = .idle → t.capture.startComp = none → t.capture.endComp = none → t.capture.holder = none →
          exec (.armCapture r) s = .next (State.answered { t with capture :=
            { c with mode := .oneShot, stop := .count (max 1 (min cap count)) } } 0x30 r .ok [])) ∧
        (t.capture.holder = some .service → t.capture.state ≠ .idle → r.link = .deck →
          exec (.armCapture r) s = .next (t.answered 0x30 r .notOwner [])) ∧
        (t.capture.holder = some .deck → t.capture.state ≠ .idle → r.link = .service → flag = 0 →
          exec (.armCapture r) s = .next (t.answered 0x30 r .notOwner [])) ∧
        (t.capture.holder = some r.link →
          t.capture.state = .armed ∨ t.capture.state = .running ∨ t.capture.state = .triggered →
          exec (.armCapture r) s = .next (t.answered 0x30 r .busy [])) ∧
        (t.capture.holder = some .deck → t.capture.state ≠ .idle → r.link = .service → flag = 1 → t.capture.startComp = none →
          t.capture.endComp = none →
          exec (.armCapture r) s = .next (State.answered (State.reportTo { t with capture :=
            { c with mode := .oneShot, stop := .count (max 1 (min cap count)) } } .deck .ownership 1 t.position.pos) 0x30 r
            .ok []))) ∧
      (∀ (x : Int) (d : Sense) (i : Nat), -2000000000 ≤ x → x ≤ 2000000000 →
        r.body = [1, flag, BitVec.ofNat 8 names.length] ++ names.map (fun x => BitVec.ofNat 8 x.ctorIdx) ++
          List.replicate (4 - names.length) 0 ++ [BitVec.ofNat 8 dec, 2] ++ wordBytes (BitVec.ofInt 32 x) ++
          [BitVec.ofNat 8 d.ctorIdx, 0, 0, 0, 0, 0, 0, 0, 0] ++ [BitVec.ofNat 8 (post / 256), BitVec.ofNat 8 post] →
        t.capture.state = .idle → t.capture.startComp = none → t.capture.endComp = none → t.capture.holder = none →
        t.comps[i]? = some none → (∀ j : Nat, j < i → t.comps[j]? ≠ some none) →
        exec (.armCapture r) s = .next (State.answered { t with
          comps := t.comps.set i (some ⟨.captureEnd, none, x, d, .armed⟩)
          capture := { c with
            mode := .ring, trigger := .atPosition x d, post := max 1 (min cap post), endComp := some i } } 0x30 r .ok []))) ∧
    (r.body = [] → (s.Takes 0x31 r t ∨ s.Takes 0x32 r t ∨ s.Takes 0x33 r t) →
      (∀ (c : Instr) (kind : Byte),
        (c, kind) ∈ [(Instr.triggerCapture r, (0x31 : Byte)), (.abortCapture r, 0x32), (.releaseCapture r, 0x33)] →
        s.Takes kind r t →
        (t.capture.state = .idle → exec c s = .next (t.answered kind r .wrongState [])) ∧
        (t.capture.state ≠ .idle → t.capture.holder ≠ some r.link → exec c s = .next (t.answered kind r .notOwner []))) ∧
      (t.capture.state ≠ .idle → t.capture.holder = some r.link →
        (s.Takes 0x31 r t →
          (∀ i, t.capture.mode = .oneShot → t.capture.state = .armed → t.capture.startComp = some i → t.capture.endComp = none →
            exec (.triggerCapture r) s = .next (State.answered { t with
              comps := t.comps.set i none
              capture := { t.capture with state := .running, phase := 0, startComp := none } } 0x31 r .ok [])) ∧
          (t.capture.mode = .ring → t.capture.state = .running → t.capture.endComp = none →
            exec (.triggerCapture r) s = .next (State.answered { t with
              capture := { t.capture with state := .triggered, postTaken := 0 } } 0x31 r .ok [])) ∧
          (t.capture.state = .triggered ∨ (t.capture.mode = .oneShot ∧ t.capture.state = .running) →
            exec (.triggerCapture r) s = .next (t.answered 0x31 r .ok [])) ∧
          (t.capture.state = .done → exec (.triggerCapture r) s = .next (t.answered 0x31 r .wrongState []))) ∧
        (s.Takes 0x32 r t →
          (t.capture.state = .done → exec (.abortCapture r) s = .next (t.answered 0x32 r .ok [])) ∧
          (t.capture.state ≠ .done → t.capture.startComp = none → t.capture.endComp = none →
            exec (.abortCapture r) s = .next (State.answered (State.reportTo { t with
              capture := { t.capture with state := .done, reason := some .aborted } } r.link .captureDone 4 t.position.pos)
              0x32 r .ok []))) ∧
        (s.Takes 0x33 r t → t.capture.startComp = none → t.capture.endComp = none →
          exec (.releaseCapture r) s = .next (State.answered
            { t with capture := Capture.idle t.capture.lastEvent } 0x33 r .ok []))))

/-- SET_CUE_CODES, SET_AUTO_CUE, WRITE_CUE and CANCEL_CUE_WRITE from the owner. Codes of 3 to 8 mixed bits, neither found in the
repetition of the other, and a threshold of 4 to 16 replace the old ones and reset the detectors; with a write in hand they are
BUSY (R145). A write takes the two lowest free comparators, ARMED FORWARD at its edges, waits in ARMED in STOPPED, and begins at
once in PLAYING inside its stretch (R150, R151). A cancel ends it WRITE_CANCELLED, and does nothing when the generator is IDLE
(R152, R153). That the output carries no bit between the beginning of a write and its first pulse is the model's
choice (entry 43). -/
def Obligations.CueRequests : Prop :=
  ∀ (s t : State) (r : Request), t.Grants r.link →
    (∀ (m k : List Bool) (bm bc : Byte) (n : Nat), s.Takes 0x34 r t →
      r.body = [BitVec.ofNat 8 m.length, bm, BitVec.ofNat 8 k.length, bc, BitVec.ofNat 8 n] →
      3 ≤ m.length → m.length ≤ 8 → 3 ≤ k.length → k.length ≤ 8 → 4 ≤ n → n ≤ 16 →
      (∀ (i : Nat) (b : Bool), m[i]? = some b → bm.getLsbD (7 - i) = b) → (∀ (i : Nat) (b : Bool), k[i]? = some b →
        bc.getLsbD (7 - i) = b) →
      true ∈ m → false ∈ m → true ∈ k → false ∈ k → m ≠ k →
      (∀ j : Nat, ∃ i, i < m.length ∧ m[i]? ≠ k[(j + i) % k.length]?) → (∀ j : Nat, ∃ i, i < k.length ∧
        k[i]? ≠ m[(j + i) % m.length]?) →
      (t.cue.gen = .idle → exec (.setCueCodes r) s = .next (State.answered { t with cue := { t.cue with
        mark := m, clear := k, threshold := n, hist := [], detMark := ⟨0, 0, false⟩, detClear := ⟨0, 0, false⟩ } } 0x34 r .ok [])) ∧
      (t.cue.gen ≠ .idle → exec (.setCueCodes r) s = .next (t.answered 0x34 r .busy []))) ∧
    (∀ b : Bool, s.Takes 0x35 r t → r.body = [if b then 0 else 1] →
      exec (.setAutoCue r) s = .next (State.answered { t with cue := { t.cue with auto := b } } 0x35 r .ok [])) ∧
    (∀ (k : CueKind) (lo hi : Int) (i j : Nat) (w : WriteCtx) (comps : List (Option Comparator)), s.Takes 0x36 r t →
      r.body = [BitVec.ofNat 8 k.ctorIdx] ++ wordBytes (BitVec.ofInt 32 lo) ++ wordBytes (BitVec.ofInt 32 hi) →
      -2000000000 ≤ lo → lo ≤ 2000000000 → -2000000000 ≤ hi → hi ≤ 2000000000 →
      w = ⟨k, if k = .mark then t.cue.mark else t.cue.clear, lo, hi, i, j, 0, 0⟩ →
      comps = (t.comps.set i (some ⟨.cueStart, none, lo, .forward, .armed⟩)).set j (some ⟨.cueStop, none, hi, .forward, .armed⟩) →
      (hi ≤ lo → exec (.writeCue r) s = .next (t.answered 0x36 r .badField [3])) ∧
      (lo < hi →
        (t.motion.state ≠ .playing → t.motion.state ≠ .stopped →
          exec (.writeCue r) s = .next (t.answered 0x36 r .wrongState [])) ∧
        (t.motion.state = .playing ∨ t.motion.state = .stopped →
          (t.cue.gen ≠ .idle → exec (.writeCue r) s = .next (t.answered 0x36 r .busy [])) ∧
          (t.cue.gen = .idle → i < j → t.comps[i]? = some none → t.comps[j]? = some none →
            (∀ k : Nat, k < j → k ≠ i → t.comps[k]? ≠ some none) →
            (t.motion.state = .stopped ∨ t.position.pos < lo ∨ hi ≤ t.position.pos →
              exec (.writeCue r) s = .next (State.answered { t with
                comps := comps, cue := { t.cue with gen := .armed, write := some w } } 0x36 r .ok [])) ∧
            (t.motion.state = .playing → lo ≤ t.position.pos → t.position.pos < hi →
              exec (.writeCue r) s = .next (State.answered { t with
                comps := comps
                cue := { t.cue with
                  gen := .writing, write := some w, out := .active none, hist := [], detMark := ⟨0, 0, false⟩
                  detClear := ⟨0, 0, false⟩ } } 0x36 r .ok [])))))) ∧
    (s.Takes 0x37 r t → r.body = [] →
      (t.cue.write = none → exec (.cancelCueWrite r) s = .next (t.answered 0x37 r .ok [])) ∧
      (∀ w, t.cue.write = some w → exec (.cancelCueWrite r) s = .next (State.answered (State.reportTo { t with
        comps := (t.comps.set w.startComp none).set w.stopComp none
        cue := { t.cue with gen := .idle, write := none, out := .inactive } } t.noticeLink .cue 0x04FFFFFF t.position.pos)
        0x37 r .ok [])))

/-- CLAIM_TRANSPORT, RELEASE_TRANSPORT, SET_EVENT_MASK, ACKNOWLEDGE_EVENTS, SET_REPORT_RATE and RESET_PART. A free transport goes
to the claimer; one that the other link owns is NOT_OWNER, but for a service seizure, which ends the moves ABORTED, halts the
transport and reports OWNERSHIP to the deck (R186, R187). Release needs an empty queue and the tape at rest (R186). A mask always
holds FAULT; named latches clear (R184). The rate is rounded down, and off drops reports (R185). A reset at rest follows its
reply; in motion it is deferred behind a halt; the deck may not reset under a service ownership (R188). When the supervision timer
starts is the model's choice (entry 33). -/
def Obligations.LinkRequests : Prop :=
  ∀ (s t : State) (r : Request), t.ctl.resetPending = none →
    (∀ flag : Byte, s.Takes 0x10 r t → r.body = [flag] → flag = 0 ∨ flag = 1 →
      (t.ctl.owner = .free → exec (.claimTransport r) s = .next (State.answered { t with
        ctl := { t.ctl with owner := Link.owner r.link }
        faults := { t.faults with supervision := t.faults.supervision.map (fun _ => t.now) }
        deck := if r.link = .service then { t.deck with report := none } else t.deck } 0x10 r .ok
        [if r.link = .deck then 1 else 2])) ∧
      (t.ctl.owner = Link.owner r.link → exec (.claimTransport r) s = .next (t.answered 0x10 r .ok
        [if r.link = .deck then 1 else 2])) ∧
      (t.ctl.owner = .service → r.link = .deck → exec (.claimTransport r) s = .next (t.answered 0x10 r .notOwner [])) ∧
      (t.ctl.owner = .deck → r.link = .service →
        (flag = 0 → exec (.claimTransport r) s = .next (t.answered 0x10 r .notOwner [])) ∧
        (∀ m q, flag = 1 → t.motion.active = some m → t.motion.queue = [q] → t.motion.state = .winding →
          t.motion.completions.length < 16 → t.position.atRest = false → t.Calm →
          ∃ u : State, exec (.claimTransport r) s = .next (u.answered 0x10 r .ok [2]) ∧ u.ctl.owner = .service ∧
            u.motion.queue = [] ∧ u.motion.state = .halting ∧ u.faults.supervision = none ∧
            u.deck = ({ t.deck with report := none } : LinkPort).offer .ownership 0 t.position.pos ∧
            u.motion.completions = t.motion.completions ++ [t.recordFor q m .aborted 0]))) ∧
    (s.Takes 0x11 r t → r.body = [] →
      (t.ctl.owner ≠ Link.owner r.link → exec (.releaseTransport r) s = .next (t.answered 0x11 r .notOwner [])) ∧
      (t.ctl.owner = Link.owner r.link →
        (t.motion.queue ≠ [] ∨ t.position.atRest = false →
          exec (.releaseTransport r) s = .next (t.answered 0x11 r .wrongState [])) ∧
        (t.motion.queue = [] → t.position.atRest = true → exec (.releaseTransport r) s = .next (State.answered { t with
          ctl := { t.ctl with owner := .free }
          faults := { t.faults with supervision := none }
          service := if r.link = .service then { t.service with report := none } else t.service } 0x11 r .ok [])))) ∧
    (∀ (w : BitVec 16) (latches : List (Option Latch)), r.body = [w.extractLsb' 8 8, w.extractLsb' 0 8] →
      (s.Takes 0x26 r t → exec (.setEventMask r) s = .next (State.answered
        (t.withPort r.link { t.port r.link with mask := w ||| 1 }) 0x26 r .ok
        [(w ||| 1).extractLsb' 8 8, (w ||| 1).extractLsb' 0 8])) ∧
      (s.Takes 0x27 r t → (t.port r.link).latches.length ≤ 16 →
        (∀ i : Nat, latches[i]? = if i < (t.port r.link).latches.length ∧ w.getLsbD i = true then some none
          else (t.port r.link).latches[i]?) →
        exec (.acknowledgeEvents r) s = .next (State.answered
          (t.withPort r.link { t.port r.link with latches := latches }) 0x27 r .ok []))) ∧
    (∀ n rate : Nat, s.Takes 0x28 r t → n < 256 → r.body = [BitVec.ofNat 8 n] →
      rate = (if n < 10 then 0 else if n < 25 then 10 else if n < 50 then 25 else if n < 100 then 50 else 100) →
      (t.noticeLink ≠ r.link → exec (.setReportRate r) s = .next (t.answered 0x28 r .notOwner [])) ∧
      (t.noticeLink = r.link → exec (.setReportRate r) s = .next (State.answered { t with
        ctl := { t.ctl with rate := rate, lastReport := t.now }
        deck := if rate = 0 then { t.deck with report := none } else t.deck
        service := if rate = 0 then { t.service with report := none } else t.service } 0x28 r .ok [BitVec.ofNat 8 rate]))) ∧
    (s.Takes 0x3D r t → r.body = [] →
      (r.link = .deck → t.ctl.owner = .service → exec (.resetPart r) s = .next (t.answered 0x3D r .notOwner [])) ∧
      (r.link = .service ∨ t.ctl.owner ≠ .service →
        (t.position.atRest = true → exec (.resetPart r) s = .next (t.reply r.link ⟨⟨0xBD, r.tag, [0]⟩, true⟩).handOver) ∧
        (∀ m q, t.motion.active = some m → t.motion.queue = [q] → t.motion.state = .winding →
          t.motion.completions.length < 16 → t.position.atRest = false → t.Calm →
          ∃ u : State, exec (.resetPart r) s = .next (u.answered 0x3D r .ok []) ∧ u.motion.queue = [] ∧
            u.ctl.resetPending = some (if r.link = .deck then .deckRequest else .serviceRequest) ∧ u.motion.state = .halting ∧
            u.motion.halt = some ⟨false, .stopped, true⟩ ∧
            u.motion.completions = t.motion.completions ++ [t.recordFor q m .halted 0])))

/-- WRITE_PROFILE with a valid profile, in UNTHREADED, STANDBY, FAULT and a STOPPED whose queue holds no CHASE, and with no store
write under way: it is the working copy at once, the store becomes busy with the new bytes and no check (R192, R193), J, L_rem and
the guards follow it, a change of the frame rate, the play speed or the roller circumference drops the anchor and every stored
timecode (R15), one of a field that the radius rests on starts both estimates again (R33), one of the six detector fields or of
either arm's rest code or gain empties the arms' runs, which else stand (R59), and one of the frame rate makes the reference ABSENT
(R128). In every other state, and in STOPPED with a CHASE in the queue, it is WRONG_STATE, and during a store write BUSY. That the
store holds the new bytes at once is the model's choice (entry 44), as are the values of an emptied chain (entry 4). -/
def Obligations.WriteProfile : Prop :=
  ∀ (s t : State) (r : Request) (q : Profile),
    s.Takes 0x3C r t → t.Grants r.link → profileOk q = true → r.body = profileBytes q →
    (t.motion.state = .sizing ∨ t.motion.state = .winding ∨ t.motion.state = .engaging ∨ t.motion.state = .playing ∨
        t.motion.state = .releasing ∨ t.motion.state = .halting ∨ t.motion.state = .braking ∨
        (t.motion.state = .stopped ∧ ∃ x ∈ t.motion.queue, x.kind = .chase) →
      exec (.writeProfile r) s = .next (t.answered 0x3C r .wrongState [])) ∧
    (t.motion.state = .unthreaded ∨ t.motion.state = .standby ∨ t.motion.state = .fault ∨
        (t.motion.state = .stopped ∧ ∀ x ∈ t.motion.queue, x.kind ≠ .chase) →
      (t.store.busy = true → exec (.writeProfile r) s = .next (t.answered 0x3C r .busy [])) ∧
      (t.store.busy = false → ∃ u : State, exec (.writeProfile r) s = .next (u.answered 0x3C r .ok []) ∧ u.profile = q ∧
        u.store = ⟨profileBytes q, none, t.store.invalid, true⟩ ∧ (t.DerivedOk → u.DerivedOk) ∧ u.motion = t.motion ∧
        (t.profile.rate = q.rate → t.profile.vPlay = q.vPlay → t.profile.cRoll = q.cRoll → u.position = t.position) ∧
        (t.profile.rate ≠ q.rate ∨ t.profile.vPlay ≠ q.vPlay ∨ t.profile.cRoll ≠ q.cRoll →
          u.position = { t.position with
            anchor := none
            chain := ⟨0, 0, .forward⟩
            locate := t.position.locate.map (fun o => o.map (fun e => { e with time := none })) }) ∧
        (t.profile.rHub ≠ q.rHub ∨ t.profile.rFlange ≠ q.rFlange ∨ t.profile.cRoll ≠ q.cRoll ∨ t.profile.jHub ≠ q.jHub ∨
            t.profile.kPack ≠ q.kPack →
          u.reelL.conf = 0 ∧ u.reelR.conf = 0 ∧ u.reelL.rEst = q.rSizing ∧ u.reelR.rEst = q.rSizing ∧
            u.reelL.window = none ∧ u.reelR.window = none) ∧
        (t.profile.rHub = q.rHub → t.profile.rFlange = q.rFlange → t.profile.cRoll = q.cRoll → t.profile.jHub = q.jHub →
          t.profile.kPack = q.kPack →
          u.reelL.conf = t.reelL.conf ∧ u.reelR.conf = t.reelR.conf ∧ u.reelL.window = t.reelL.window ∧
            u.reelR.window = t.reelR.window ∧ (t.reelL.conf ≠ 0 → u.reelL.rEst = t.reelL.rEst) ∧
            (t.reelR.conf ≠ 0 → u.reelR.rEst = t.reelR.rEst)) ∧
        (∀ fields : Profile → List Nat, (∀ p : Profile, fields p = [p.slackAt, p.overAt, p.hysteresis, p.nSlack, p.nOver,
            p.nClear, p.restL, p.gainL, p.restR, p.gainR]) →
          (fields t.profile ≠ fields q →
            u.armL = { t.armL with slackRun := 0, overRun := 0, returnRun := 0 } ∧
              u.armR = { t.armR with slackRun := 0, overRun := 0, returnRun := 0 }) ∧
          (fields t.profile = fields q → u.armL = t.armL ∧ u.armR = t.armR)) ∧
        (t.profile.rate ≠ q.rate → u.chase = { t.chase with
          present := false, run := 0, lastFrame := none, lastSub := none, lossTimer := none }) ∧
        (t.profile.rate = q.rate → u.chase = t.chase)))
end

