-- ==== Sys2Proof/Laws/Arith.lean ====
section
/-! SUPPORT. The arithmetic of the chapters in Mathlib's words: clamps as least and greatest, the integer square root as `Nat.sqrt`,
and the fields of a body read back from the bytes that carry them. -/

namespace Sys2Proof.Machine

/-! ### Clamps and roots -/

theorem clampInt_eq (lo hi x : Int) (h : lo ≤ hi) : clampInt lo hi x = max lo (min hi x) := by
  unfold clampInt; split
  · omega
  · split <;> omega

theorem clampNat_eq (lo hi x : Nat) (h : lo ≤ hi) : clampNat lo hi x = max lo (min hi x) := by
  unfold clampNat; split
  · omega
  · split <;> omega

theorem isqrtDigits_eq (k : Nat) : ∀ n, n < 4 ^ k → isqrtDigits k n = Nat.sqrt n := by
  induction k with
  | zero => intro n h; have : n = 0 := by omega
            subst this; rfl
  | succ k ih =>
    intro n h
    have hq : n / 4 < 4 ^ k := by omega
    simp only [isqrtDigits, ih _ hq]
    have h1 := Nat.sqrt_le (n / 4)
    have h2 := Nat.lt_succ_sqrt (n / 4)
    generalize Nat.sqrt (n / 4) = r at h1 h2
    have h3 : 2 * r * (2 * r) ≤ n := by nlinarith [Nat.div_mul_le_self n 4]
    have h4 : n < (2 * r + 2) * (2 * r + 2) := by
      have : n < 4 * (n / 4 + 1) := by omega
      nlinarith
    split
    · exact (Nat.eq_sqrt.2 ⟨‹_›, h4⟩)
    · exact (Nat.eq_sqrt.2 ⟨h3, by omega⟩)

/-- The integer square root is the greatest integer whose square does not exceed the operand (0.5.3). -/
theorem isqrt_eq (n : Nat) : isqrt n = Nat.sqrt n := by
  apply isqrtDigits_eq
  calc n < 2 ^ (n.log2 + 1) := Nat.lt_log2_self
    _ ≤ 4 ^ (n.log2 + 1) := Nat.pow_le_pow_left (by omega) _

end Sys2Proof.Machine
end

