-- ==== Sys2Proof/Laws/Backdrop.lean ====
section
/-! SUPPORT. What the Motion Sequencer and the units it moves (transport states, moves, faults, reactions, comparators, captures, cue
writes, the chase state machine, event reports) leave alone, said once for each shared operation: the state with everything they
may change erased is the same before and after. -/

namespace Sys2Proof.Machine

/-- A link with its latches erased, but for their number. -/
def LinkPort.unlatched (p : LinkPort) : LinkPort := { p with latches := p.latches.map (fun _ => none) }

/-- A reel with its window and its drive erased. -/
def Reel.undriven (r : Reel) : Reel := { r with window := none, torque := 0, code := 0, sat := 0 }

/-- The state with everything erased that the sequencer and the units it moves may change. -/
def State.backdrop (s : State) : State :=
  { s with
    speed := { s.speed with aCmd := 0 }
    reelL := s.reelL.undriven
    reelR := s.reelR.undriven
    watch := none
    motion := Motion.fresh Config.defaultProfile s.motion.lastUpdate
    capstan := { s.capstan with integral := 0, code := 0, running := false }
    zones := { s.zones with guardReported := false, updated := false, descent := false }
    chase := { s.chase with
      state := .inactive, origin := none, freewheel := none, e := none, c := 0, lock := 0, unlock := 0, seek := none }
    cue := { s.cue with
      hist := [], detMark := Detector.fresh, detClear := Detector.fresh, gen := .idle, write := none, out := .inactive }
    comps := s.comps.map (fun _ => none)
    capture := { s.capture with
      state := .idle, phase := 0, startComp := none, endComp := none, postTaken := 0, reason := none }
    faults := { s.faults with set := [], primary := none, slip := none, supervision := none }
    deck := s.deck.unlatched
    service := s.service.unlatched }

variable {s : State}

/-! ### Reports and comparators -/

@[simp] theorem offer_unlatched (p : LinkPort) (src : Source) (v x : Int) : (p.offer src v x).unlatched = p.unlatched := by
  unfold LinkPort.offer
  split
  · simp [LinkPort.unlatched, List.map_const']
  · rfl

@[simp] theorem reportTo_backdrop (l : Link) (src : Source) (v x : Int) : (s.reportTo l src v x).backdrop = s.backdrop := by
  cases l <;> simp [State.reportTo, State.withPort, State.port, State.backdrop]

@[simp] theorem reportAt_backdrop (src : Source) (v x : Int) : (s.reportAt src v x).backdrop = s.backdrop :=
  reportTo_backdrop ..

@[simp] theorem report_backdrop (src : Source) (v : Int) : (s.report src v).backdrop = s.backdrop := reportAt_backdrop ..

@[simp] theorem freeComp_backdrop (i : Option Nat) : (s.freeComp i).backdrop = s.backdrop := by
  cases i <;> simp [State.freeComp, State.backdrop, List.map_const']

@[simp] theorem setComp_backdrop (i : Nat) (c : Comparator) : (s.setComp i c).backdrop = s.backdrop := by
  simp [State.setComp, State.backdrop, List.map_const']

/-! ### The Capture Unit -/

@[simp] theorem captureDone_backdrop (r : DoneReason) : (s.captureDone r).backdrop = s.backdrop := by
  unfold State.captureDone
  dsimp only
  split <;> simp only [reportTo_backdrop, freeComp_backdrop] <;> rfl

@[simp] theorem captureRun_backdrop : s.captureRun.backdrop = s.backdrop := by
  unfold State.captureRun
  dsimp only
  split
  · simp [State.backdrop, List.map_const']
  · rfl

@[simp] theorem captureTrigger_backdrop : s.captureTrigger.backdrop = s.backdrop := by
  unfold State.captureTrigger
  split
  · rw [freeComp_backdrop]; rfl
  · rfl

/-! ### Cue writes and the chase state -/

@[simp] theorem endCueWrite_backdrop (b : Nat) : (s.endCueWrite b).backdrop = s.backdrop := by
  unfold State.endCueWrite
  split
  · rfl
  · simp only [report_backdrop, freeComp_backdrop]; rfl

@[simp] theorem tryCueWrite_backdrop : s.tryCueWrite.backdrop = s.backdrop := by
  unfold State.tryCueWrite
  split
  · rfl
  · split <;> rfl

@[simp] theorem setChase_backdrop (x : ChaseState) : (s.setChase x).backdrop = s.backdrop := by
  unfold State.setChase
  split
  · rfl
  · simp only [report_backdrop]; rfl

@[simp] theorem endChase_backdrop : s.endChase.backdrop = s.backdrop :=
  (rfl : s.endChase.backdrop = (s.setChase .inactive).backdrop).trans (setChase_backdrop _)

/-! ### Completion records and the queue -/

@[simp] theorem pushCompletion_backdrop (c : Completion) : (s.pushCompletion c).backdrop = s.backdrop := rfl

@[simp] theorem dropRecord_backdrop (r : MoveRecord) : (s.dropRecord r).backdrop = s.backdrop := by simp [State.dropRecord]

theorem dropRecords_backdrop (l : List MoveRecord) : (l.foldl State.dropRecord s).backdrop = s.backdrop := by
  induction l generalizing s with
  | nil => rfl
  | cons r l ih => rw [List.foldl_cons, ih, dropRecord_backdrop]

@[simp] theorem discardQueue_backdrop : s.discardQueue.backdrop = s.backdrop :=
  (rfl : s.discardQueue.backdrop = (s.motion.queue.foldl State.dropRecord s).backdrop).trans (dropRecords_backdrop _)

@[simp] theorem endActive_backdrop (res : MoveResult) : (s.endActive res).backdrop = s.backdrop := by
  unfold State.endActive
  split
  · rename_i a r rest _ _
    have h : ((((if a.kind = .chase then s.endChase else s).freeComp r.comp)).backdrop) = s.backdrop := by
      rw [freeComp_backdrop]; split <;> simp
    cases res.discards
    · exact h
    · exact discardQueue_backdrop.trans h
  · rfl

@[simp] theorem endAll_backdrop (res : MoveResult) : (s.endAll res).backdrop = s.backdrop := by
  unfold State.endAll
  split <;> simp

/-! ### Entries into the transport states -/

@[simp] theorem leavePlaying_backdrop : s.leavePlaying.backdrop = s.backdrop := by
  unfold State.leavePlaying
  dsimp only
  split
  · rw [endCueWrite_backdrop]; rfl
  · rfl

@[simp] theorem arrivePlaying_backdrop : s.arrivePlaying.backdrop = s.backdrop := by
  unfold State.arrivePlaying
  rw [tryCueWrite_backdrop]
  split
  · rw [setChase_backdrop]; rfl
  · rfl

@[simp] theorem brake_backdrop : s.brake.backdrop = s.backdrop := rfl

@[simp] theorem enter_backdrop (t : Transport) : (s.enter t).backdrop = s.backdrop := by
  unfold State.enter
  have h : ∀ u : State, u.backdrop = s.backdrop →
      (if t = .playing then u.arrivePlaying else u).backdrop = s.backdrop := by
    intro u hu; split <;> simp [hu]
  apply h
  have h2 : ∀ u : State, u.backdrop = s.backdrop → (if t.braked then u.brake else u).backdrop = s.backdrop := by
    intro u hu; split <;> simp [hu]
  apply h2
  show State.backdrop (if s.motion.state = .playing ∧ t ≠ .playing then s.leavePlaying else s) = _
  split <;> simp

@[simp] theorem enterHalting_backdrop (b : Bool) (d : HaltDest) : (s.enterHalting b d).backdrop = s.backdrop :=
  (rfl : (s.enterHalting b d).backdrop = ((s.enter .halting).discardQueue).backdrop).trans
    (discardQueue_backdrop.trans (enter_backdrop _))

@[simp] theorem queueEmptied_backdrop : s.queueEmptied.backdrop = s.backdrop := by
  unfold State.queueEmptied
  split <;> first | rfl | exact enterHalting_backdrop ..

@[simp] theorem failMove_backdrop (res : MoveResult) : (s.failMove res).backdrop = s.backdrop := by simp [State.failMove]

@[simp] theorem sizingDone_backdrop (v : Int) : (s.sizingDone v).backdrop = s.backdrop := report_backdrop ..

@[simp] theorem stopTransport_backdrop : s.stopTransport.backdrop = s.backdrop := by
  unfold State.stopTransport
  split <;> first | rfl | simp | (split <;> first | rfl | simp)

/-! ### Moves -/

@[simp] theorem onActive_backdrop (f : ActiveMove → ActiveMove) : (s.onActive f).backdrop = s.backdrop := rfl

@[simp] theorem goWinding_backdrop : s.goWinding.backdrop = s.backdrop := by
  unfold State.goWinding
  split <;> simp

@[simp] theorem goPlaying_backdrop : s.goPlaying.backdrop = s.backdrop := by
  unfold State.goPlaying
  split <;> simp

@[simp] theorem beginSeek_backdrop (fr : Nat) : (s.beginSeek fr).backdrop = s.backdrop := by
  unfold State.beginSeek
  dsimp only
  split
  · simp
  · rw [goWinding_backdrop]; rfl

@[simp] theorem startChase_backdrop : s.startChase.backdrop = s.backdrop := by
  unfold State.startChase
  dsimp only
  split
  · split
    · simp
    · split
      · simp only [beginSeek_backdrop, setChase_backdrop]; rfl
      · split <;> simp only [goPlaying_backdrop, beginSeek_backdrop, setChase_backdrop] <;> rfl
  · simp only [goPlaying_backdrop, setChase_backdrop]; rfl

@[simp] theorem makeActive_backdrop (r : MoveRecord) (t : Option Int) : (s.makeActive r t).backdrop = s.backdrop := by
  unfold State.makeActive
  dsimp only
  split
  · rw [setComp_backdrop]; rfl
  · rfl

@[simp] theorem startMove_backdrop (r : MoveRecord) (t : Option Int) : (s.startMove r t).backdrop = s.backdrop := by
  unfold State.startMove
  split <;> first | rfl | (rw [goWinding_backdrop]; rfl) | simp

theorem activateNext_backdrop (n : Nat) : ∀ s : State, (s.activateNext n).backdrop = s.backdrop := by
  induction n with
  | zero => intro s; rfl
  | succ n ih =>
    intro s
    unfold State.activateNext
    split
    · simp
    · split
      · simp
      · dsimp only
        split
        · rw [ih]; simp
        · split
          · rw [ih]; simp
          · simp

@[simp] theorem activate_backdrop : s.activate.backdrop = s.backdrop := activateNext_backdrop ..

@[simp] theorem finishMove_backdrop (res : MoveResult) : (s.finishMove res).backdrop = s.backdrop := by
  simp [State.finishMove]

@[simp] theorem supersede_backdrop : s.supersede.backdrop = s.backdrop := by
  unfold State.supersede
  split
  · split <;> simp
  · rfl

@[simp] theorem withLocate_backdrop (l : LocateCtx) : (s.withLocate l).backdrop = s.backdrop := rfl

@[simp] theorem countPass_backdrop : s.countPass.backdrop = s.backdrop := by
  unfold State.countPass
  split <;> rfl

@[simp] theorem overshoot_backdrop : s.overshoot.backdrop = s.backdrop := by
  unfold State.overshoot
  split <;> simp

@[simp] theorem passTarget_backdrop (l : LocateCtx) : (s.passTarget l).backdrop = s.backdrop := by
  unfold State.passTarget
  split <;> simp

@[simp] theorem settleEnd_backdrop (l : LocateCtx) : (s.settleEnd l).backdrop = s.backdrop := by
  unfold State.settleEnd
  split
  · split
    · simp
    · split
      · rfl
      · simp
  · split <;> simp

/-- What a pass of the target comes to: reversed and counted, or the fourth pass taken (R99). -/
theorem passTarget_cases (s : State) (l : LocateCtx) :
    (s.reversals < 3 ∧ s.passTarget l = s.countPass.withLocate ⟨.creep, dirFlip l.dir, l.target⟩) ∨
      (3 ≤ s.reversals ∧ s.passTarget l = s.overshoot) := by
  unfold State.passTarget
  split
  · exact .inl ⟨‹_›, rfl⟩
  · exact .inr ⟨by omega, rfl⟩

/-! ### Faults -/

@[simp] theorem faultRequest_backdrop (c : FaultClass) : (s.faultRequest c).backdrop = s.backdrop := by
  unfold State.faultRequest
  have h : (if s.motion.state = .sizing then (s.endAll .faulted).sizingDone 3 else s.endAll .faulted).backdrop =
      s.backdrop := by split <;> simp
  cases c <;> dsimp only <;> split <;>
    first | exact h | exact (enter_backdrop _).trans h | exact (enterHalting_backdrop _ _).trans h

@[simp] theorem latchFault_backdrop (k : FaultKind) : (s.latchFault k).backdrop = s.backdrop := by
  unfold State.latchFault
  split
  · rfl
  · have h : ∀ u : State, (if u.capture.trigger = .fault then u.captureTrigger else u).backdrop = u.backdrop := by
      intro u; split <;> simp
    exact (faultRequest_backdrop _).trans ((h _).trans (report_backdrop _ _))

@[simp] theorem latchIf_backdrop (b : Bool) (k : FaultKind) : (s.latchIf b k).backdrop = s.backdrop := by
  unfold State.latchIf
  split <;> simp

@[simp] theorem readInputs_backdrop : s.readInputs.backdrop = s.backdrop := by simp [State.readInputs]

/-! ### Reactions -/

theorem reactTension_backdrop {t : State} (h : s.reactTension = some t) : t.backdrop = s.backdrop := by
  unfold State.reactTension at h
  dsimp only at h
  split at h
  · cases h; simp
  · split at h
    · cases h; simp
    · split at h
      · cases h; simp
      · split at h
        · cases h; simp
        · cases h

theorem reactSizing_backdrop {t : State} (h : s.reactSizing = some t) : t.backdrop = s.backdrop := by
  unfold State.reactSizing at h
  split at h
  · split at h
    · split at h
      · split at h <;> cases h
        · rfl
        · simp
      · cases h
    · split at h
      · cases h; simp
      · split at h <;> cases h; rfl
    · split at h <;> cases h; simp
  · cases h

theorem engaged_backdrop : s.engaged.backdrop = s.backdrop := by
  unfold State.engaged
  split
  · split
    · simp
    · simp
    · split <;> simp
    · simp
    · simp
  · simp

theorem leaveReleasing_backdrop : s.leaveReleasing.backdrop = s.backdrop := by
  have h : s.released.backdrop = s.backdrop := rfl
  unfold State.leaveReleasing
  dsimp only
  split
  · split <;> simp [h]
  · split
    · rw [enter_backdrop]; exact h
    · simp [h]

theorem reactPinch_backdrop {t : State} (h : s.reactPinch = some t) : t.backdrop = s.backdrop := by
  unfold State.reactPinch at h
  split at h
  · cases h
  · split at h
    · split at h <;> cases h; exact engaged_backdrop
    · split at h <;> cases h; exact leaveReleasing_backdrop
    · split at h <;> cases h; rfl
    all_goals cases h

theorem reactHalting_backdrop {t : State} (h : s.reactHalting = some t) : t.backdrop = s.backdrop := by
  unfold State.reactHalting at h
  split at h
  · split at h
    · split at h
      · cases h
        unfold State.endHalting
        split
        · simp
        · split <;> simp
      · split at h <;> cases h; rfl
    · cases h
  · cases h

theorem reactBraking_backdrop {t : State} (h : s.reactBraking = some t) : t.backdrop = s.backdrop := by
  unfold State.reactBraking at h
  split at h <;> cases h
  simp

theorem reactHold_backdrop {t : State} (h : s.reactHold = some t) : t.backdrop = s.backdrop := by
  unfold State.reactHold at h
  split at h
  · split at h
    · split at h
      · cases h; simp
      · split at h <;> cases h; simp
    · cases h
  · cases h

theorem reactSettled_backdrop {t : State} (h : s.reactSettled = some t) : t.backdrop = s.backdrop := by
  unfold State.reactSettled at h
  split at h
  · split at h <;> cases h; simp
  · cases h

theorem reactQueue_backdrop {t : State} (h : s.reactQueue = some t) : t.backdrop = s.backdrop := by
  unfold State.reactQueue at h
  split at h <;> cases h
  simp

/-- A reaction is one of the eight kinds. -/
theorem react_cases {t : State} (h : s.react = some t) :
    s.reactTension = some t ∨ s.reactSizing = some t ∨ s.reactPinch = some t ∨ s.reactHalting = some t ∨
      s.reactBraking = some t ∨ s.reactHold = some t ∨ s.reactSettled = some t ∨ s.reactQueue = some t := by
  have or_cases : ∀ (a b : Option State), (a <|> b) = some t → a = some t ∨ b = some t := by
    intro a b hab
    cases a
    · exact .inr hab
    · exact .inl hab
  unfold State.react at h
  exact (or_cases _ _ h).imp_right fun h => (or_cases _ _ h).imp_right fun h => (or_cases _ _ h).imp_right fun h =>
    (or_cases _ _ h).imp_right fun h => (or_cases _ _ h).imp_right fun h => (or_cases _ _ h).imp_right (or_cases _ _)

theorem react_backdrop {t : State} (h : s.react = some t) : t.backdrop = s.backdrop := by
  rcases react_cases h with h | h | h | h | h | h | h | h
  · exact reactTension_backdrop h
  · exact reactSizing_backdrop h
  · exact reactPinch_backdrop h
  · exact reactHalting_backdrop h
  · exact reactBraking_backdrop h
  · exact reactHold_backdrop h
  · exact reactSettled_backdrop h
  · exact reactQueue_backdrop h

/-- Reactions keep what each reaction keeps. -/
theorem reactions_keep {P : State → Prop} (hP : ∀ s t, P s → s.react = some t → P t) (n : Nat) :
    ∀ s : State, P s → P (s.reactions n) := by
  induction n with
  | zero => intro s h; exact h
  | succ n ih =>
    intro s h
    unfold State.reactions
    split
    · exact ih _ (hP _ _ h ‹_›)
    · exact h

@[simp] theorem syncLoop_backdrop : s.syncLoop.backdrop = s.backdrop := by
  unfold State.syncLoop
  split <;> rfl

@[simp] theorem settle_backdrop : s.settle.backdrop = s.backdrop := by
  have h := reactions_keep (P := fun t => t.backdrop = s.backdrop) (fun a b ha hb => (react_backdrop hb).trans ha) 64 s rfl
  exact syncLoop_backdrop.trans h

/-- With nothing due, the end of a step changes nothing. -/
theorem settle_of_settled (h : s.Settled) : s.settle = s := by
  have : s.reactions 64 = s := by unfold State.reactions; rw [h.1]
  rw [State.settle, this, h.2]

end Sys2Proof.Machine
end

