-- ==== Sys2Proof/Laws/Reactions.lean ====
section
/-! SUPPORT. When each standing reaction is not due, and how the end of a step unfolds one reaction at a time. -/

namespace Sys2Proof.Machine

variable {s : State}

/-! ### Reactions that are not due -/

theorem reactTension_none (hl : s.armL.state = .normal) (hr : s.armR.state = .normal) : s.reactTension = none := by
  simp [State.reactTension, hl, hr]

theorem reactSizing_none (h : s.motion.state ≠ .sizing) : s.reactSizing = none := by
  unfold State.reactSizing
  split
  · contradiction
  · rfl

theorem reactSizing_none_of_context (h : s.motion.sizing = none) : s.reactSizing = none := by
  simp [State.reactSizing, h]

theorem reactPinch_none (h : s.motion.pinchTimer = none) : s.reactPinch = none := by simp [State.reactPinch, h]

theorem reactPinch_none_of_state (h1 : s.motion.state ≠ .engaging) (h2 : s.motion.state ≠ .releasing)
    (h3 : s.motion.state ≠ .halting) : s.reactPinch = none := by
  unfold State.reactPinch
  split
  · rfl
  · split <;> first | contradiction | rfl

theorem reactHalting_none (h : s.motion.state ≠ .halting) : s.reactHalting = none := by
  unfold State.reactHalting
  split
  · contradiction
  · rfl

theorem reactHalting_none_of_motion (h : s.position.atRest = false ∨ s.motion.vRef ≠ 0) : s.reactHalting = none := by
  unfold State.reactHalting
  split
  · rw [if_neg]; rcases h with h | h <;> simp [h]
  · rfl

theorem reactBraking_none (h : s.motion.state ≠ .braking ∨ s.position.atRest = false) : s.reactBraking = none := by
  rcases h with h | h <;> simp [State.reactBraking, h]

theorem reactHold_none (h : ∀ a, s.motion.active = some a → a.kind ≠ .hold) : s.reactHold = none := by
  unfold State.reactHold
  split
  · rename_i a ha; simp [h a ha]
  · rfl

theorem reactHold_none_of_state (h1 : s.motion.state ≠ .winding) (h2 : s.motion.state ≠ .playing) : s.reactHold = none := by
  unfold State.reactHold
  split <;> simp [h1, h2]

theorem reactSettled_none (h : s.motion.locate = none) : s.reactSettled = none := by simp [State.reactSettled, h]

theorem reactSettled_none_of_state (h1 : s.motion.state ≠ .winding) (h2 : s.motion.state ≠ .sizing) :
    s.reactSettled = none := by
  unfold State.reactSettled
  split
  · simp [State.locateRuns, h1, h2]
  · rfl

theorem reactQueue_none (h : s.motion.state ≠ .stopped ∨ s.motion.queue = [] ∨ s.motion.active ≠ none) :
    s.reactQueue = none := by
  rcases h with h | h | h <;> simp [State.reactQueue, h]

/-- No reaction is due when none of the eight is. -/
theorem react_none (h1 : s.reactTension = none) (h2 : s.reactSizing = none) (h3 : s.reactPinch = none)
    (h4 : s.reactHalting = none) (h5 : s.reactBraking = none) (h6 : s.reactHold = none) (h7 : s.reactSettled = none)
    (h8 : s.reactQueue = none) : s.react = none := by
  simp [State.react, h1, h2, h3, h4, h5, h6, h7, h8]

/-! ### The end of a step -/

/-- The end of a step with no reaction due. -/
theorem settle_of_none (h : s.react = none) : s.settle = s.syncLoop := by
  simp only [State.settle, State.reactions, h]

theorem reactions_of_none (n : Nat) (h : s.react = none) : s.reactions n = s := by
  cases n <;> simp only [State.reactions, h]

theorem reactions_of_some {t : State} (n : Nat) (h : s.react = some t) : s.reactions (n + 1) = t.reactions n := by
  simp only [State.reactions, h]

/-- The end of a step with one reaction due, after which none is. -/
theorem settle_of_some {t : State} (h : s.react = some t) (ht : t.react = none) : s.settle = t.syncLoop := by
  simp only [State.settle, State.reactions, h, ht]

/-- The end of a step with two reactions due, after which none is. -/
theorem settle_of_two {t u : State} (h : s.react = some t) (ht : t.react = some u) (hu : u.react = none) :
    s.settle = u.syncLoop := by
  simp only [State.settle, State.reactions, h, ht, hu]

/-! ### The capstan loop changes nothing but the Capstan Servo -/

theorem syncLoop_eq : s.syncLoop = { s with capstan := s.syncLoop.capstan } := by
  unfold State.syncLoop; split <;> rfl

@[simp] theorem syncLoop_motion : s.syncLoop.motion = s.motion := by unfold State.syncLoop; split <;> rfl
@[simp] theorem syncLoop_now : s.syncLoop.now = s.now := by unfold State.syncLoop; split <;> rfl
@[simp] theorem syncLoop_position : s.syncLoop.position = s.position := by unfold State.syncLoop; split <;> rfl
@[simp] theorem syncLoop_zones : s.syncLoop.zones = s.zones := by unfold State.syncLoop; split <;> rfl
@[simp] theorem syncLoop_chase : s.syncLoop.chase = s.chase := by unfold State.syncLoop; split <;> rfl
@[simp] theorem syncLoop_cue : s.syncLoop.cue = s.cue := by unfold State.syncLoop; split <;> rfl
@[simp] theorem syncLoop_comps : s.syncLoop.comps = s.comps := by unfold State.syncLoop; split <;> rfl
@[simp] theorem syncLoop_capture : s.syncLoop.capture = s.capture := by unfold State.syncLoop; split <;> rfl
@[simp] theorem syncLoop_faults : s.syncLoop.faults = s.faults := by unfold State.syncLoop; split <;> rfl
@[simp] theorem syncLoop_deck : s.syncLoop.deck = s.deck := by unfold State.syncLoop; split <;> rfl
@[simp] theorem syncLoop_service : s.syncLoop.service = s.service := by unfold State.syncLoop; split <;> rfl
@[simp] theorem syncLoop_port (l : Link) : s.syncLoop.port l = s.port l := by cases l <;> simp [State.port]
@[simp] theorem syncLoop_ctl : s.syncLoop.ctl = s.ctl := by unfold State.syncLoop; split <;> rfl
@[simp] theorem syncLoop_reelL : s.syncLoop.reelL = s.reelL := by unfold State.syncLoop; split <;> rfl
@[simp] theorem syncLoop_reelR : s.syncLoop.reelR = s.reelR := by unfold State.syncLoop; split <;> rfl
@[simp] theorem syncLoop_watch : s.syncLoop.watch = s.watch := by unfold State.syncLoop; split <;> rfl
@[simp] theorem syncLoop_conv : s.syncLoop.conv = s.conv := by unfold State.syncLoop; split <;> rfl
@[simp] theorem syncLoop_speed : s.syncLoop.speed = s.speed := by unfold State.syncLoop; split <;> rfl
@[simp] theorem syncLoop_armL : s.syncLoop.armL = s.armL := by unfold State.syncLoop; split <;> rfl
@[simp] theorem syncLoop_armR : s.syncLoop.armR = s.armR := by unfold State.syncLoop; split <;> rfl
@[simp] theorem syncLoop_pins : s.syncLoop.pins = s.pins := by unfold State.syncLoop; split <;> rfl
@[simp] theorem syncLoop_profile : s.syncLoop.profile = s.profile := by unfold State.syncLoop; split <;> rfl
@[simp] theorem syncLoop_store : s.syncLoop.store = s.store := by unfold State.syncLoop; split <;> rfl
@[simp] theorem syncLoop_startup : s.syncLoop.startup = s.startup := by unfold State.syncLoop; split <;> rfl
@[simp] theorem syncLoop_free : s.syncLoop.free = s.free := by unfold State.syncLoop; split <;> rfl
@[simp] theorem syncLoop_pending : s.syncLoop.pending = s.pending := by unfold State.syncLoop; split <;> rfl

/-! ### What no reaction touches -/

theorem settle_backdrop_field {α : Type} (f : State → α) (hf : ∀ x y : State, x.backdrop = y.backdrop → f x = f y) :
    f s.settle = f s := hf _ _ settle_backdrop

@[simp] theorem settle_now : s.settle.now = s.now :=
  settle_backdrop_field (·.now) fun x y h => (congrArg State.now h : x.backdrop.now = y.backdrop.now)
@[simp] theorem settle_position : s.settle.position = s.position :=
  settle_backdrop_field (·.position) fun x y h => (congrArg State.position h : x.backdrop.position = y.backdrop.position)
@[simp] theorem settle_profile : s.settle.profile = s.profile :=
  settle_backdrop_field (·.profile) fun x y h => (congrArg State.profile h : x.backdrop.profile = y.backdrop.profile)
@[simp] theorem settle_store : s.settle.store = s.store :=
  settle_backdrop_field (·.store) fun x y h => (congrArg State.store h : x.backdrop.store = y.backdrop.store)
@[simp] theorem settle_startup : s.settle.startup = s.startup :=
  settle_backdrop_field (·.startup) fun x y h => (congrArg State.startup h : x.backdrop.startup = y.backdrop.startup)
@[simp] theorem settle_pins : s.settle.pins = s.pins :=
  settle_backdrop_field (·.pins) fun x y h => (congrArg State.pins h : x.backdrop.pins = y.backdrop.pins)
@[simp] theorem settle_conv : s.settle.conv = s.conv :=
  settle_backdrop_field (·.conv) fun x y h => (congrArg State.conv h : x.backdrop.conv = y.backdrop.conv)
@[simp] theorem settle_armL : s.settle.armL = s.armL :=
  settle_backdrop_field (·.armL) fun x y h => (congrArg State.armL h : x.backdrop.armL = y.backdrop.armL)
@[simp] theorem settle_armR : s.settle.armR = s.armR :=
  settle_backdrop_field (·.armR) fun x y h => (congrArg State.armR h : x.backdrop.armR = y.backdrop.armR)
@[simp] theorem settle_ctl : s.settle.ctl = s.ctl :=
  settle_backdrop_field (·.ctl) fun x y h => (congrArg State.ctl h : x.backdrop.ctl = y.backdrop.ctl)
@[simp] theorem settle_pending : s.settle.pending = s.pending :=
  settle_backdrop_field (·.pending) fun x y h => (congrArg State.pending h : x.backdrop.pending = y.backdrop.pending)
@[simp] theorem settle_free : s.settle.free = s.free :=
  settle_backdrop_field (·.free) fun x y h => (congrArg State.free h : x.backdrop.free = y.backdrop.free)

end Sys2Proof.Machine
end

