-- ==== Sys2Proof/Laws/State.lean ====
section
/-! SUPPORT. The fields of the state after each named update: what the update sets, and every field it leaves alone. -/

namespace Sys2Proof.Machine

variable (s : State)

/-! ### The clock -/

@[simp] theorem State.tick_now : s.tick.now = s.now + 1 := rfl
@[simp] theorem State.tick_startup : (s.tick).startup = s.startup := rfl
@[simp] theorem State.tick_pins : (s.tick).pins = s.pins := rfl
@[simp] theorem State.tick_position : (s.tick).position = s.position := rfl
@[simp] theorem State.tick_speed : (s.tick).speed = s.speed := rfl
@[simp] theorem State.tick_reelL : (s.tick).reelL = s.reelL := rfl
@[simp] theorem State.tick_reelR : (s.tick).reelR = s.reelR := rfl
@[simp] theorem State.tick_conv : (s.tick).conv = s.conv := rfl
@[simp] theorem State.tick_armL : (s.tick).armL = s.armL := rfl
@[simp] theorem State.tick_armR : (s.tick).armR = s.armR := rfl
@[simp] theorem State.tick_watch : (s.tick).watch = s.watch := rfl
@[simp] theorem State.tick_motion : (s.tick).motion = s.motion := rfl
@[simp] theorem State.tick_capstan : (s.tick).capstan = s.capstan := rfl
@[simp] theorem State.tick_zones : (s.tick).zones = s.zones := rfl
@[simp] theorem State.tick_chase : (s.tick).chase = s.chase := rfl
@[simp] theorem State.tick_cue : (s.tick).cue = s.cue := rfl
@[simp] theorem State.tick_comps : (s.tick).comps = s.comps := rfl
@[simp] theorem State.tick_capture : (s.tick).capture = s.capture := rfl
@[simp] theorem State.tick_faults : (s.tick).faults = s.faults := rfl
@[simp] theorem State.tick_deck : (s.tick).deck = s.deck := rfl
@[simp] theorem State.tick_service : (s.tick).service = s.service := rfl
@[simp] theorem State.tick_ctl : (s.tick).ctl = s.ctl := rfl
@[simp] theorem State.tick_profile : (s.tick).profile = s.profile := rfl
@[simp] theorem State.tick_store : (s.tick).store = s.store := rfl
@[simp] theorem State.tick_free : (s.tick).free = s.free := rfl
@[simp] theorem State.tick_pending : (s.tick).pending = s.pending := rfl

/-! ### A due moment reached -/

@[simp] theorem State.reach_now (t : Nat) : (s.reach t).now = max s.now t := rfl
@[simp] theorem State.reach_startup (t : Nat) : (s.reach t).startup = s.startup := rfl
@[simp] theorem State.reach_pins (t : Nat) : (s.reach t).pins = s.pins := rfl
@[simp] theorem State.reach_position (t : Nat) : (s.reach t).position = s.position := rfl
@[simp] theorem State.reach_speed (t : Nat) : (s.reach t).speed = s.speed := rfl
@[simp] theorem State.reach_reelL (t : Nat) : (s.reach t).reelL = s.reelL := rfl
@[simp] theorem State.reach_reelR (t : Nat) : (s.reach t).reelR = s.reelR := rfl
@[simp] theorem State.reach_conv (t : Nat) : (s.reach t).conv = s.conv := rfl
@[simp] theorem State.reach_armL (t : Nat) : (s.reach t).armL = s.armL := rfl
@[simp] theorem State.reach_armR (t : Nat) : (s.reach t).armR = s.armR := rfl
@[simp] theorem State.reach_watch (t : Nat) : (s.reach t).watch = s.watch := rfl
@[simp] theorem State.reach_motion (t : Nat) : (s.reach t).motion = s.motion := rfl
@[simp] theorem State.reach_capstan (t : Nat) : (s.reach t).capstan = s.capstan := rfl
@[simp] theorem State.reach_zones (t : Nat) : (s.reach t).zones = s.zones := rfl
@[simp] theorem State.reach_chase (t : Nat) : (s.reach t).chase = s.chase := rfl
@[simp] theorem State.reach_cue (t : Nat) : (s.reach t).cue = s.cue := rfl
@[simp] theorem State.reach_comps (t : Nat) : (s.reach t).comps = s.comps := rfl
@[simp] theorem State.reach_capture (t : Nat) : (s.reach t).capture = s.capture := rfl
@[simp] theorem State.reach_faults (t : Nat) : (s.reach t).faults = s.faults := rfl
@[simp] theorem State.reach_deck (t : Nat) : (s.reach t).deck = s.deck := rfl
@[simp] theorem State.reach_service (t : Nat) : (s.reach t).service = s.service := rfl
@[simp] theorem State.reach_ctl (t : Nat) : (s.reach t).ctl = s.ctl := rfl
@[simp] theorem State.reach_profile (t : Nat) : (s.reach t).profile = s.profile := rfl
@[simp] theorem State.reach_store (t : Nat) : (s.reach t).store = s.store := rfl
@[simp] theorem State.reach_free (t : Nat) : (s.reach t).free = s.free := rfl
@[simp] theorem State.reach_pending (t : Nat) : (s.reach t).pending = s.pending := rfl

/-! ### The queue of commands -/

@[simp] theorem State.withPending_pending (l : List Instr) : (s.withPending l).pending = l := rfl
@[simp] theorem State.withPending_now (l : List Instr) : (s.withPending l).now = s.now := rfl
@[simp] theorem State.withPending_startup (l : List Instr) : (s.withPending l).startup = s.startup := rfl
@[simp] theorem State.withPending_pins (l : List Instr) : (s.withPending l).pins = s.pins := rfl
@[simp] theorem State.withPending_position (l : List Instr) : (s.withPending l).position = s.position := rfl
@[simp] theorem State.withPending_speed (l : List Instr) : (s.withPending l).speed = s.speed := rfl
@[simp] theorem State.withPending_reelL (l : List Instr) : (s.withPending l).reelL = s.reelL := rfl
@[simp] theorem State.withPending_reelR (l : List Instr) : (s.withPending l).reelR = s.reelR := rfl
@[simp] theorem State.withPending_conv (l : List Instr) : (s.withPending l).conv = s.conv := rfl
@[simp] theorem State.withPending_armL (l : List Instr) : (s.withPending l).armL = s.armL := rfl
@[simp] theorem State.withPending_armR (l : List Instr) : (s.withPending l).armR = s.armR := rfl
@[simp] theorem State.withPending_watch (l : List Instr) : (s.withPending l).watch = s.watch := rfl
@[simp] theorem State.withPending_motion (l : List Instr) : (s.withPending l).motion = s.motion := rfl
@[simp] theorem State.withPending_capstan (l : List Instr) : (s.withPending l).capstan = s.capstan := rfl
@[simp] theorem State.withPending_zones (l : List Instr) : (s.withPending l).zones = s.zones := rfl
@[simp] theorem State.withPending_chase (l : List Instr) : (s.withPending l).chase = s.chase := rfl
@[simp] theorem State.withPending_cue (l : List Instr) : (s.withPending l).cue = s.cue := rfl
@[simp] theorem State.withPending_comps (l : List Instr) : (s.withPending l).comps = s.comps := rfl
@[simp] theorem State.withPending_capture (l : List Instr) : (s.withPending l).capture = s.capture := rfl
@[simp] theorem State.withPending_faults (l : List Instr) : (s.withPending l).faults = s.faults := rfl
@[simp] theorem State.withPending_deck (l : List Instr) : (s.withPending l).deck = s.deck := rfl
@[simp] theorem State.withPending_service (l : List Instr) : (s.withPending l).service = s.service := rfl
@[simp] theorem State.withPending_ctl (l : List Instr) : (s.withPending l).ctl = s.ctl := rfl
@[simp] theorem State.withPending_profile (l : List Instr) : (s.withPending l).profile = s.profile := rfl
@[simp] theorem State.withPending_store (l : List Instr) : (s.withPending l).store = s.store := rfl
@[simp] theorem State.withPending_free (l : List Instr) : (s.withPending l).free = s.free := rfl

/-! ### A link's own state -/

@[simp] theorem State.withPort_port (l : Link) (p : LinkPort) : (s.withPort l p).port l = p := by cases l <;> rfl
@[simp] theorem State.withPort_deck (p : LinkPort) : (s.withPort .deck p).deck = p := rfl
@[simp] theorem State.withPort_service (p : LinkPort) : (s.withPort .service p).service = p := rfl
@[simp] theorem State.withPort_deck_other (p : LinkPort) : (s.withPort .service p).deck = s.deck := rfl
@[simp] theorem State.withPort_service_other (p : LinkPort) : (s.withPort .deck p).service = s.service := rfl
@[simp] theorem State.withPort_noticeLink (l : Link) (p : LinkPort) : (s.withPort l p).noticeLink = s.noticeLink := by
  cases l <;> rfl
@[simp] theorem State.withPort_now (l : Link) (p : LinkPort) : (s.withPort l p).now = s.now := by cases l <;> rfl
@[simp] theorem State.withPort_startup (l : Link) (p : LinkPort) : (s.withPort l p).startup = s.startup := by cases l <;> rfl
@[simp] theorem State.withPort_pins (l : Link) (p : LinkPort) : (s.withPort l p).pins = s.pins := by cases l <;> rfl
@[simp] theorem State.withPort_position (l : Link) (p : LinkPort) : (s.withPort l p).position = s.position := by cases l <;> rfl
@[simp] theorem State.withPort_speed (l : Link) (p : LinkPort) : (s.withPort l p).speed = s.speed := by cases l <;> rfl
@[simp] theorem State.withPort_reelL (l : Link) (p : LinkPort) : (s.withPort l p).reelL = s.reelL := by cases l <;> rfl
@[simp] theorem State.withPort_reelR (l : Link) (p : LinkPort) : (s.withPort l p).reelR = s.reelR := by cases l <;> rfl
@[simp] theorem State.withPort_conv (l : Link) (p : LinkPort) : (s.withPort l p).conv = s.conv := by cases l <;> rfl
@[simp] theorem State.withPort_armL (l : Link) (p : LinkPort) : (s.withPort l p).armL = s.armL := by cases l <;> rfl
@[simp] theorem State.withPort_armR (l : Link) (p : LinkPort) : (s.withPort l p).armR = s.armR := by cases l <;> rfl
@[simp] theorem State.withPort_watch (l : Link) (p : LinkPort) : (s.withPort l p).watch = s.watch := by cases l <;> rfl
@[simp] theorem State.withPort_motion (l : Link) (p : LinkPort) : (s.withPort l p).motion = s.motion := by cases l <;> rfl
@[simp] theorem State.withPort_capstan (l : Link) (p : LinkPort) : (s.withPort l p).capstan = s.capstan := by cases l <;> rfl
@[simp] theorem State.withPort_zones (l : Link) (p : LinkPort) : (s.withPort l p).zones = s.zones := by cases l <;> rfl
@[simp] theorem State.withPort_chase (l : Link) (p : LinkPort) : (s.withPort l p).chase = s.chase := by cases l <;> rfl
@[simp] theorem State.withPort_cue (l : Link) (p : LinkPort) : (s.withPort l p).cue = s.cue := by cases l <;> rfl
@[simp] theorem State.withPort_comps (l : Link) (p : LinkPort) : (s.withPort l p).comps = s.comps := by cases l <;> rfl
@[simp] theorem State.withPort_capture (l : Link) (p : LinkPort) : (s.withPort l p).capture = s.capture := by cases l <;> rfl
@[simp] theorem State.withPort_faults (l : Link) (p : LinkPort) : (s.withPort l p).faults = s.faults := by cases l <;> rfl
@[simp] theorem State.withPort_ctl (l : Link) (p : LinkPort) : (s.withPort l p).ctl = s.ctl := by cases l <;> rfl
@[simp] theorem State.withPort_profile (l : Link) (p : LinkPort) : (s.withPort l p).profile = s.profile := by cases l <;> rfl
@[simp] theorem State.withPort_store (l : Link) (p : LinkPort) : (s.withPort l p).store = s.store := by cases l <;> rfl
@[simp] theorem State.withPort_free (l : Link) (p : LinkPort) : (s.withPort l p).free = s.free := by cases l <;> rfl
@[simp] theorem State.withPort_pending (l : Link) (p : LinkPort) : (s.withPort l p).pending = s.pending := by cases l <;> rfl

/-! ### A reel -/

@[simp] theorem State.withReel_reel (d : Side) (r : Reel) : (s.withReel d r).reel d = r := by cases d <;> rfl
@[simp] theorem State.withReel_reelL (r : Reel) : (s.withReel .left r).reelL = r := rfl
@[simp] theorem State.withReel_reelR (r : Reel) : (s.withReel .right r).reelR = r := rfl
@[simp] theorem State.withReel_reelL_other (r : Reel) : (s.withReel .right r).reelL = s.reelL := rfl
@[simp] theorem State.withReel_reelR_other (r : Reel) : (s.withReel .left r).reelR = s.reelR := rfl
@[simp] theorem State.withReel_now (d : Side) (r : Reel) : (s.withReel d r).now = s.now := by cases d <;> rfl
@[simp] theorem State.withReel_startup (d : Side) (r : Reel) : (s.withReel d r).startup = s.startup := by cases d <;> rfl
@[simp] theorem State.withReel_pins (d : Side) (r : Reel) : (s.withReel d r).pins = s.pins := by cases d <;> rfl
@[simp] theorem State.withReel_position (d : Side) (r : Reel) : (s.withReel d r).position = s.position := by cases d <;> rfl
@[simp] theorem State.withReel_speed (d : Side) (r : Reel) : (s.withReel d r).speed = s.speed := by cases d <;> rfl
@[simp] theorem State.withReel_conv (d : Side) (r : Reel) : (s.withReel d r).conv = s.conv := by cases d <;> rfl
@[simp] theorem State.withReel_armL (d : Side) (r : Reel) : (s.withReel d r).armL = s.armL := by cases d <;> rfl
@[simp] theorem State.withReel_armR (d : Side) (r : Reel) : (s.withReel d r).armR = s.armR := by cases d <;> rfl
@[simp] theorem State.withReel_watch (d : Side) (r : Reel) : (s.withReel d r).watch = s.watch := by cases d <;> rfl
@[simp] theorem State.withReel_motion (d : Side) (r : Reel) : (s.withReel d r).motion = s.motion := by cases d <;> rfl
@[simp] theorem State.withReel_capstan (d : Side) (r : Reel) : (s.withReel d r).capstan = s.capstan := by cases d <;> rfl
@[simp] theorem State.withReel_zones (d : Side) (r : Reel) : (s.withReel d r).zones = s.zones := by cases d <;> rfl
@[simp] theorem State.withReel_chase (d : Side) (r : Reel) : (s.withReel d r).chase = s.chase := by cases d <;> rfl
@[simp] theorem State.withReel_cue (d : Side) (r : Reel) : (s.withReel d r).cue = s.cue := by cases d <;> rfl
@[simp] theorem State.withReel_comps (d : Side) (r : Reel) : (s.withReel d r).comps = s.comps := by cases d <;> rfl
@[simp] theorem State.withReel_capture (d : Side) (r : Reel) : (s.withReel d r).capture = s.capture := by cases d <;> rfl
@[simp] theorem State.withReel_faults (d : Side) (r : Reel) : (s.withReel d r).faults = s.faults := by cases d <;> rfl
@[simp] theorem State.withReel_deck (d : Side) (r : Reel) : (s.withReel d r).deck = s.deck := by cases d <;> rfl
@[simp] theorem State.withReel_service (d : Side) (r : Reel) : (s.withReel d r).service = s.service := by cases d <;> rfl
@[simp] theorem State.withReel_ctl (d : Side) (r : Reel) : (s.withReel d r).ctl = s.ctl := by cases d <;> rfl
@[simp] theorem State.withReel_profile (d : Side) (r : Reel) : (s.withReel d r).profile = s.profile := by cases d <;> rfl
@[simp] theorem State.withReel_store (d : Side) (r : Reel) : (s.withReel d r).store = s.store := by cases d <;> rfl
@[simp] theorem State.withReel_free (d : Side) (r : Reel) : (s.withReel d r).free = s.free := by cases d <;> rfl
@[simp] theorem State.withReel_pending (d : Side) (r : Reel) : (s.withReel d r).pending = s.pending := by cases d <;> rfl

/-! ### An arm -/

@[simp] theorem State.withArm_arm (d : Side) (a : Arm) : (s.withArm d a).arm d = a := by cases d <;> rfl
@[simp] theorem State.withArm_now (d : Side) (a : Arm) : (s.withArm d a).now = s.now := by cases d <;> rfl
@[simp] theorem State.withArm_startup (d : Side) (a : Arm) : (s.withArm d a).startup = s.startup := by cases d <;> rfl
@[simp] theorem State.withArm_pins (d : Side) (a : Arm) : (s.withArm d a).pins = s.pins := by cases d <;> rfl
@[simp] theorem State.withArm_position (d : Side) (a : Arm) : (s.withArm d a).position = s.position := by cases d <;> rfl
@[simp] theorem State.withArm_speed (d : Side) (a : Arm) : (s.withArm d a).speed = s.speed := by cases d <;> rfl
@[simp] theorem State.withArm_reelL (d : Side) (a : Arm) : (s.withArm d a).reelL = s.reelL := by cases d <;> rfl
@[simp] theorem State.withArm_reelR (d : Side) (a : Arm) : (s.withArm d a).reelR = s.reelR := by cases d <;> rfl
@[simp] theorem State.withArm_conv (d : Side) (a : Arm) : (s.withArm d a).conv = s.conv := by cases d <;> rfl
@[simp] theorem State.withArm_watch (d : Side) (a : Arm) : (s.withArm d a).watch = s.watch := by cases d <;> rfl
@[simp] theorem State.withArm_motion (d : Side) (a : Arm) : (s.withArm d a).motion = s.motion := by cases d <;> rfl
@[simp] theorem State.withArm_capstan (d : Side) (a : Arm) : (s.withArm d a).capstan = s.capstan := by cases d <;> rfl
@[simp] theorem State.withArm_zones (d : Side) (a : Arm) : (s.withArm d a).zones = s.zones := by cases d <;> rfl
@[simp] theorem State.withArm_chase (d : Side) (a : Arm) : (s.withArm d a).chase = s.chase := by cases d <;> rfl
@[simp] theorem State.withArm_cue (d : Side) (a : Arm) : (s.withArm d a).cue = s.cue := by cases d <;> rfl
@[simp] theorem State.withArm_comps (d : Side) (a : Arm) : (s.withArm d a).comps = s.comps := by cases d <;> rfl
@[simp] theorem State.withArm_capture (d : Side) (a : Arm) : (s.withArm d a).capture = s.capture := by cases d <;> rfl
@[simp] theorem State.withArm_faults (d : Side) (a : Arm) : (s.withArm d a).faults = s.faults := by cases d <;> rfl
@[simp] theorem State.withArm_deck (d : Side) (a : Arm) : (s.withArm d a).deck = s.deck := by cases d <;> rfl
@[simp] theorem State.withArm_service (d : Side) (a : Arm) : (s.withArm d a).service = s.service := by cases d <;> rfl
@[simp] theorem State.withArm_ctl (d : Side) (a : Arm) : (s.withArm d a).ctl = s.ctl := by cases d <;> rfl
@[simp] theorem State.withArm_profile (d : Side) (a : Arm) : (s.withArm d a).profile = s.profile := by cases d <;> rfl
@[simp] theorem State.withArm_store (d : Side) (a : Arm) : (s.withArm d a).store = s.store := by cases d <;> rfl
@[simp] theorem State.withArm_free (d : Side) (a : Arm) : (s.withArm d a).free = s.free := by cases d <;> rfl
@[simp] theorem State.withArm_pending (d : Side) (a : Arm) : (s.withArm d a).pending = s.pending := by cases d <;> rfl

/-! ### Comparators -/

@[simp] theorem State.freeComp_none : s.freeComp none = s := rfl
@[simp] theorem State.freeComp_comps (i : Nat) : (s.freeComp (some i)).comps = s.comps.set i none := rfl
@[simp] theorem State.freeComp_length (i : Option Nat) : (s.freeComp i).comps.length = s.comps.length := by
  cases i <;> simp [State.freeComp]
@[simp] theorem State.freeComp_noticeLink (i : Option Nat) : (s.freeComp i).noticeLink = s.noticeLink := by cases i <;> rfl
@[simp] theorem State.freeComp_now (i : Option Nat) : (s.freeComp i).now = s.now := by cases i <;> rfl
@[simp] theorem State.freeComp_startup (i : Option Nat) : (s.freeComp i).startup = s.startup := by cases i <;> rfl
@[simp] theorem State.freeComp_pins (i : Option Nat) : (s.freeComp i).pins = s.pins := by cases i <;> rfl
@[simp] theorem State.freeComp_position (i : Option Nat) : (s.freeComp i).position = s.position := by cases i <;> rfl
@[simp] theorem State.freeComp_speed (i : Option Nat) : (s.freeComp i).speed = s.speed := by cases i <;> rfl
@[simp] theorem State.freeComp_reelL (i : Option Nat) : (s.freeComp i).reelL = s.reelL := by cases i <;> rfl
@[simp] theorem State.freeComp_reelR (i : Option Nat) : (s.freeComp i).reelR = s.reelR := by cases i <;> rfl
@[simp] theorem State.freeComp_conv (i : Option Nat) : (s.freeComp i).conv = s.conv := by cases i <;> rfl
@[simp] theorem State.freeComp_armL (i : Option Nat) : (s.freeComp i).armL = s.armL := by cases i <;> rfl
@[simp] theorem State.freeComp_armR (i : Option Nat) : (s.freeComp i).armR = s.armR := by cases i <;> rfl
@[simp] theorem State.freeComp_watch (i : Option Nat) : (s.freeComp i).watch = s.watch := by cases i <;> rfl
@[simp] theorem State.freeComp_motion (i : Option Nat) : (s.freeComp i).motion = s.motion := by cases i <;> rfl
@[simp] theorem State.freeComp_capstan (i : Option Nat) : (s.freeComp i).capstan = s.capstan := by cases i <;> rfl
@[simp] theorem State.freeComp_zones (i : Option Nat) : (s.freeComp i).zones = s.zones := by cases i <;> rfl
@[simp] theorem State.freeComp_chase (i : Option Nat) : (s.freeComp i).chase = s.chase := by cases i <;> rfl
@[simp] theorem State.freeComp_cue (i : Option Nat) : (s.freeComp i).cue = s.cue := by cases i <;> rfl
@[simp] theorem State.freeComp_capture (i : Option Nat) : (s.freeComp i).capture = s.capture := by cases i <;> rfl
@[simp] theorem State.freeComp_faults (i : Option Nat) : (s.freeComp i).faults = s.faults := by cases i <;> rfl
@[simp] theorem State.freeComp_deck (i : Option Nat) : (s.freeComp i).deck = s.deck := by cases i <;> rfl
@[simp] theorem State.freeComp_service (i : Option Nat) : (s.freeComp i).service = s.service := by cases i <;> rfl
@[simp] theorem State.freeComp_ctl (i : Option Nat) : (s.freeComp i).ctl = s.ctl := by cases i <;> rfl
@[simp] theorem State.freeComp_profile (i : Option Nat) : (s.freeComp i).profile = s.profile := by cases i <;> rfl
@[simp] theorem State.freeComp_store (i : Option Nat) : (s.freeComp i).store = s.store := by cases i <;> rfl
@[simp] theorem State.freeComp_free (i : Option Nat) : (s.freeComp i).free = s.free := by cases i <;> rfl
@[simp] theorem State.freeComp_pending (i : Option Nat) : (s.freeComp i).pending = s.pending := by cases i <;> rfl

/-! ### A comparator's fields -/

@[simp] theorem State.setComp_comps (i : Nat) (c : Comparator) : (s.setComp i c).comps = s.comps.set i (some c) := rfl
@[simp] theorem State.setComp_now (i : Nat) (c : Comparator) : (s.setComp i c).now = s.now := rfl
@[simp] theorem State.setComp_startup (i : Nat) (c : Comparator) : (s.setComp i c).startup = s.startup := rfl
@[simp] theorem State.setComp_pins (i : Nat) (c : Comparator) : (s.setComp i c).pins = s.pins := rfl
@[simp] theorem State.setComp_position (i : Nat) (c : Comparator) : (s.setComp i c).position = s.position := rfl
@[simp] theorem State.setComp_speed (i : Nat) (c : Comparator) : (s.setComp i c).speed = s.speed := rfl
@[simp] theorem State.setComp_reelL (i : Nat) (c : Comparator) : (s.setComp i c).reelL = s.reelL := rfl
@[simp] theorem State.setComp_reelR (i : Nat) (c : Comparator) : (s.setComp i c).reelR = s.reelR := rfl
@[simp] theorem State.setComp_conv (i : Nat) (c : Comparator) : (s.setComp i c).conv = s.conv := rfl
@[simp] theorem State.setComp_armL (i : Nat) (c : Comparator) : (s.setComp i c).armL = s.armL := rfl
@[simp] theorem State.setComp_armR (i : Nat) (c : Comparator) : (s.setComp i c).armR = s.armR := rfl
@[simp] theorem State.setComp_watch (i : Nat) (c : Comparator) : (s.setComp i c).watch = s.watch := rfl
@[simp] theorem State.setComp_motion (i : Nat) (c : Comparator) : (s.setComp i c).motion = s.motion := rfl
@[simp] theorem State.setComp_capstan (i : Nat) (c : Comparator) : (s.setComp i c).capstan = s.capstan := rfl
@[simp] theorem State.setComp_zones (i : Nat) (c : Comparator) : (s.setComp i c).zones = s.zones := rfl
@[simp] theorem State.setComp_chase (i : Nat) (c : Comparator) : (s.setComp i c).chase = s.chase := rfl
@[simp] theorem State.setComp_cue (i : Nat) (c : Comparator) : (s.setComp i c).cue = s.cue := rfl
@[simp] theorem State.setComp_capture (i : Nat) (c : Comparator) : (s.setComp i c).capture = s.capture := rfl
@[simp] theorem State.setComp_faults (i : Nat) (c : Comparator) : (s.setComp i c).faults = s.faults := rfl
@[simp] theorem State.setComp_deck (i : Nat) (c : Comparator) : (s.setComp i c).deck = s.deck := rfl
@[simp] theorem State.setComp_service (i : Nat) (c : Comparator) : (s.setComp i c).service = s.service := rfl
@[simp] theorem State.setComp_ctl (i : Nat) (c : Comparator) : (s.setComp i c).ctl = s.ctl := rfl
@[simp] theorem State.setComp_profile (i : Nat) (c : Comparator) : (s.setComp i c).profile = s.profile := rfl
@[simp] theorem State.setComp_store (i : Nat) (c : Comparator) : (s.setComp i c).store = s.store := rfl
@[simp] theorem State.setComp_free (i : Nat) (c : Comparator) : (s.setComp i c).free = s.free := rfl
@[simp] theorem State.setComp_pending (i : Nat) (c : Comparator) : (s.setComp i c).pending = s.pending := rfl

/-! ### The active move's fields -/

@[simp] theorem State.onActive_active (f : ActiveMove → ActiveMove) : (s.onActive f).motion.active = s.motion.active.map f := rfl
@[simp] theorem State.onActive_now (f : ActiveMove → ActiveMove) : (s.onActive f).now = s.now := rfl
@[simp] theorem State.onActive_startup (f : ActiveMove → ActiveMove) : (s.onActive f).startup = s.startup := rfl
@[simp] theorem State.onActive_pins (f : ActiveMove → ActiveMove) : (s.onActive f).pins = s.pins := rfl
@[simp] theorem State.onActive_position (f : ActiveMove → ActiveMove) : (s.onActive f).position = s.position := rfl
@[simp] theorem State.onActive_speed (f : ActiveMove → ActiveMove) : (s.onActive f).speed = s.speed := rfl
@[simp] theorem State.onActive_reelL (f : ActiveMove → ActiveMove) : (s.onActive f).reelL = s.reelL := rfl
@[simp] theorem State.onActive_reelR (f : ActiveMove → ActiveMove) : (s.onActive f).reelR = s.reelR := rfl
@[simp] theorem State.onActive_conv (f : ActiveMove → ActiveMove) : (s.onActive f).conv = s.conv := rfl
@[simp] theorem State.onActive_armL (f : ActiveMove → ActiveMove) : (s.onActive f).armL = s.armL := rfl
@[simp] theorem State.onActive_armR (f : ActiveMove → ActiveMove) : (s.onActive f).armR = s.armR := rfl
@[simp] theorem State.onActive_watch (f : ActiveMove → ActiveMove) : (s.onActive f).watch = s.watch := rfl
@[simp] theorem State.onActive_capstan (f : ActiveMove → ActiveMove) : (s.onActive f).capstan = s.capstan := rfl
@[simp] theorem State.onActive_zones (f : ActiveMove → ActiveMove) : (s.onActive f).zones = s.zones := rfl
@[simp] theorem State.onActive_chase (f : ActiveMove → ActiveMove) : (s.onActive f).chase = s.chase := rfl
@[simp] theorem State.onActive_cue (f : ActiveMove → ActiveMove) : (s.onActive f).cue = s.cue := rfl
@[simp] theorem State.onActive_comps (f : ActiveMove → ActiveMove) : (s.onActive f).comps = s.comps := rfl
@[simp] theorem State.onActive_capture (f : ActiveMove → ActiveMove) : (s.onActive f).capture = s.capture := rfl
@[simp] theorem State.onActive_faults (f : ActiveMove → ActiveMove) : (s.onActive f).faults = s.faults := rfl
@[simp] theorem State.onActive_deck (f : ActiveMove → ActiveMove) : (s.onActive f).deck = s.deck := rfl
@[simp] theorem State.onActive_service (f : ActiveMove → ActiveMove) : (s.onActive f).service = s.service := rfl
@[simp] theorem State.onActive_ctl (f : ActiveMove → ActiveMove) : (s.onActive f).ctl = s.ctl := rfl
@[simp] theorem State.onActive_profile (f : ActiveMove → ActiveMove) : (s.onActive f).profile = s.profile := rfl
@[simp] theorem State.onActive_store (f : ActiveMove → ActiveMove) : (s.onActive f).store = s.store := rfl
@[simp] theorem State.onActive_free (f : ActiveMove → ActiveMove) : (s.onActive f).free = s.free := rfl
@[simp] theorem State.onActive_pending (f : ActiveMove → ActiveMove) : (s.onActive f).pending = s.pending := rfl

/-! ### The completion list -/

@[simp] theorem State.pushCompletion_queue (c : Completion) : (s.pushCompletion c).motion.queue = s.motion.queue := rfl
@[simp] theorem State.pushCompletion_active (c : Completion) : (s.pushCompletion c).motion.active = s.motion.active := rfl
@[simp] theorem State.pushCompletion_state (c : Completion) : (s.pushCompletion c).motion.state = s.motion.state := rfl
@[simp] theorem State.pushCompletion_now (c : Completion) : (s.pushCompletion c).now = s.now := rfl
@[simp] theorem State.pushCompletion_startup (c : Completion) : (s.pushCompletion c).startup = s.startup := rfl
@[simp] theorem State.pushCompletion_pins (c : Completion) : (s.pushCompletion c).pins = s.pins := rfl
@[simp] theorem State.pushCompletion_position (c : Completion) : (s.pushCompletion c).position = s.position := rfl
@[simp] theorem State.pushCompletion_speed (c : Completion) : (s.pushCompletion c).speed = s.speed := rfl
@[simp] theorem State.pushCompletion_reelL (c : Completion) : (s.pushCompletion c).reelL = s.reelL := rfl
@[simp] theorem State.pushCompletion_reelR (c : Completion) : (s.pushCompletion c).reelR = s.reelR := rfl
@[simp] theorem State.pushCompletion_conv (c : Completion) : (s.pushCompletion c).conv = s.conv := rfl
@[simp] theorem State.pushCompletion_armL (c : Completion) : (s.pushCompletion c).armL = s.armL := rfl
@[simp] theorem State.pushCompletion_armR (c : Completion) : (s.pushCompletion c).armR = s.armR := rfl
@[simp] theorem State.pushCompletion_watch (c : Completion) : (s.pushCompletion c).watch = s.watch := rfl
@[simp] theorem State.pushCompletion_capstan (c : Completion) : (s.pushCompletion c).capstan = s.capstan := rfl
@[simp] theorem State.pushCompletion_zones (c : Completion) : (s.pushCompletion c).zones = s.zones := rfl
@[simp] theorem State.pushCompletion_chase (c : Completion) : (s.pushCompletion c).chase = s.chase := rfl
@[simp] theorem State.pushCompletion_cue (c : Completion) : (s.pushCompletion c).cue = s.cue := rfl
@[simp] theorem State.pushCompletion_comps (c : Completion) : (s.pushCompletion c).comps = s.comps := rfl
@[simp] theorem State.pushCompletion_capture (c : Completion) : (s.pushCompletion c).capture = s.capture := rfl
@[simp] theorem State.pushCompletion_faults (c : Completion) : (s.pushCompletion c).faults = s.faults := rfl
@[simp] theorem State.pushCompletion_deck (c : Completion) : (s.pushCompletion c).deck = s.deck := rfl
@[simp] theorem State.pushCompletion_service (c : Completion) : (s.pushCompletion c).service = s.service := rfl
@[simp] theorem State.pushCompletion_ctl (c : Completion) : (s.pushCompletion c).ctl = s.ctl := rfl
@[simp] theorem State.pushCompletion_profile (c : Completion) : (s.pushCompletion c).profile = s.profile := rfl
@[simp] theorem State.pushCompletion_store (c : Completion) : (s.pushCompletion c).store = s.store := rfl
@[simp] theorem State.pushCompletion_free (c : Completion) : (s.pushCompletion c).free = s.free := rfl
@[simp] theorem State.pushCompletion_pending (c : Completion) : (s.pushCompletion c).pending = s.pending := rfl

/-! ### An event reported to a link -/

@[simp] theorem State.reportTo_port (l : Link) (x : Source) (v p : Int) : (s.reportTo l x v p).port l = (s.port l).offer x v p := by
  cases l <;> rfl
@[simp] theorem State.reportTo_noticeLink (l : Link) (x : Source) (v p : Int) : (s.reportTo l x v p).noticeLink = s.noticeLink := by
  cases l <;> rfl
@[simp] theorem State.reportTo_now (l : Link) (x : Source) (v p : Int) : (s.reportTo l x v p).now = s.now := by cases l <;> rfl
@[simp] theorem State.reportTo_startup (l : Link) (x : Source) (v p : Int) : (s.reportTo l x v p).startup = s.startup := by
  cases l <;> rfl
@[simp] theorem State.reportTo_pins (l : Link) (x : Source) (v p : Int) : (s.reportTo l x v p).pins = s.pins := by cases l <;> rfl
@[simp] theorem State.reportTo_position (l : Link) (x : Source) (v p : Int) : (s.reportTo l x v p).position = s.position := by
  cases l <;> rfl
@[simp] theorem State.reportTo_speed (l : Link) (x : Source) (v p : Int) : (s.reportTo l x v p).speed = s.speed := by
  cases l <;> rfl
@[simp] theorem State.reportTo_reelL (l : Link) (x : Source) (v p : Int) : (s.reportTo l x v p).reelL = s.reelL := by
  cases l <;> rfl
@[simp] theorem State.reportTo_reelR (l : Link) (x : Source) (v p : Int) : (s.reportTo l x v p).reelR = s.reelR := by
  cases l <;> rfl
@[simp] theorem State.reportTo_conv (l : Link) (x : Source) (v p : Int) : (s.reportTo l x v p).conv = s.conv := by cases l <;> rfl
@[simp] theorem State.reportTo_armL (l : Link) (x : Source) (v p : Int) : (s.reportTo l x v p).armL = s.armL := by cases l <;> rfl
@[simp] theorem State.reportTo_armR (l : Link) (x : Source) (v p : Int) : (s.reportTo l x v p).armR = s.armR := by cases l <;> rfl
@[simp] theorem State.reportTo_watch (l : Link) (x : Source) (v p : Int) : (s.reportTo l x v p).watch = s.watch := by
  cases l <;> rfl
@[simp] theorem State.reportTo_motion (l : Link) (x : Source) (v p : Int) : (s.reportTo l x v p).motion = s.motion := by
  cases l <;> rfl
@[simp] theorem State.reportTo_capstan (l : Link) (x : Source) (v p : Int) : (s.reportTo l x v p).capstan = s.capstan := by
  cases l <;> rfl
@[simp] theorem State.reportTo_zones (l : Link) (x : Source) (v p : Int) : (s.reportTo l x v p).zones = s.zones := by
  cases l <;> rfl
@[simp] theorem State.reportTo_chase (l : Link) (x : Source) (v p : Int) : (s.reportTo l x v p).chase = s.chase := by
  cases l <;> rfl
@[simp] theorem State.reportTo_cue (l : Link) (x : Source) (v p : Int) : (s.reportTo l x v p).cue = s.cue := by cases l <;> rfl
@[simp] theorem State.reportTo_comps (l : Link) (x : Source) (v p : Int) : (s.reportTo l x v p).comps = s.comps := by
  cases l <;> rfl
@[simp] theorem State.reportTo_capture (l : Link) (x : Source) (v p : Int) : (s.reportTo l x v p).capture = s.capture := by
  cases l <;> rfl
@[simp] theorem State.reportTo_faults (l : Link) (x : Source) (v p : Int) : (s.reportTo l x v p).faults = s.faults := by
  cases l <;> rfl
@[simp] theorem State.reportTo_ctl (l : Link) (x : Source) (v p : Int) : (s.reportTo l x v p).ctl = s.ctl := by cases l <;> rfl
@[simp] theorem State.reportTo_profile (l : Link) (x : Source) (v p : Int) : (s.reportTo l x v p).profile = s.profile := by
  cases l <;> rfl
@[simp] theorem State.reportTo_store (l : Link) (x : Source) (v p : Int) : (s.reportTo l x v p).store = s.store := by
  cases l <;> rfl
@[simp] theorem State.reportTo_free (l : Link) (x : Source) (v p : Int) : (s.reportTo l x v p).free = s.free := by cases l <;> rfl
@[simp] theorem State.reportTo_pending (l : Link) (x : Source) (v p : Int) : (s.reportTo l x v p).pending = s.pending := by
  cases l <;> rfl

/-! ### A reply -/

@[simp] theorem State.reply_replies (l : Link) (o : Outgoing) : ((s.reply l o).port l).replies = (s.port l).replies ++ [o] := by
  cases l <;> rfl
@[simp] theorem State.reply_now (l : Link) (o : Outgoing) : (s.reply l o).now = s.now := by cases l <;> rfl
@[simp] theorem State.reply_startup (l : Link) (o : Outgoing) : (s.reply l o).startup = s.startup := by cases l <;> rfl
@[simp] theorem State.reply_pins (l : Link) (o : Outgoing) : (s.reply l o).pins = s.pins := by cases l <;> rfl
@[simp] theorem State.reply_position (l : Link) (o : Outgoing) : (s.reply l o).position = s.position := by cases l <;> rfl
@[simp] theorem State.reply_speed (l : Link) (o : Outgoing) : (s.reply l o).speed = s.speed := by cases l <;> rfl
@[simp] theorem State.reply_reelL (l : Link) (o : Outgoing) : (s.reply l o).reelL = s.reelL := by cases l <;> rfl
@[simp] theorem State.reply_reelR (l : Link) (o : Outgoing) : (s.reply l o).reelR = s.reelR := by cases l <;> rfl
@[simp] theorem State.reply_conv (l : Link) (o : Outgoing) : (s.reply l o).conv = s.conv := by cases l <;> rfl
@[simp] theorem State.reply_armL (l : Link) (o : Outgoing) : (s.reply l o).armL = s.armL := by cases l <;> rfl
@[simp] theorem State.reply_armR (l : Link) (o : Outgoing) : (s.reply l o).armR = s.armR := by cases l <;> rfl
@[simp] theorem State.reply_watch (l : Link) (o : Outgoing) : (s.reply l o).watch = s.watch := by cases l <;> rfl
@[simp] theorem State.reply_motion (l : Link) (o : Outgoing) : (s.reply l o).motion = s.motion := by cases l <;> rfl
@[simp] theorem State.reply_capstan (l : Link) (o : Outgoing) : (s.reply l o).capstan = s.capstan := by cases l <;> rfl
@[simp] theorem State.reply_zones (l : Link) (o : Outgoing) : (s.reply l o).zones = s.zones := by cases l <;> rfl
@[simp] theorem State.reply_chase (l : Link) (o : Outgoing) : (s.reply l o).chase = s.chase := by cases l <;> rfl
@[simp] theorem State.reply_cue (l : Link) (o : Outgoing) : (s.reply l o).cue = s.cue := by cases l <;> rfl
@[simp] theorem State.reply_comps (l : Link) (o : Outgoing) : (s.reply l o).comps = s.comps := by cases l <;> rfl
@[simp] theorem State.reply_capture (l : Link) (o : Outgoing) : (s.reply l o).capture = s.capture := by cases l <;> rfl
@[simp] theorem State.reply_faults (l : Link) (o : Outgoing) : (s.reply l o).faults = s.faults := by cases l <;> rfl
@[simp] theorem State.reply_ctl (l : Link) (o : Outgoing) : (s.reply l o).ctl = s.ctl := by cases l <;> rfl
@[simp] theorem State.reply_profile (l : Link) (o : Outgoing) : (s.reply l o).profile = s.profile := by cases l <;> rfl
@[simp] theorem State.reply_store (l : Link) (o : Outgoing) : (s.reply l o).store = s.store := by cases l <;> rfl
@[simp] theorem State.reply_free (l : Link) (o : Outgoing) : (s.reply l o).free = s.free := by cases l <;> rfl
@[simp] theorem State.reply_pending (l : Link) (o : Outgoing) : (s.reply l o).pending = s.pending := by cases l <;> rfl

/-! ### The guard ceilings -/

@[simp] theorem State.reformGuards_entries : s.reformGuards.zones.entries = s.zones.entries := rfl
@[simp] theorem State.reformGuards_guardF : s.reformGuards.zones.guardF = guardOf s.profile s.reelL := rfl
@[simp] theorem State.reformGuards_guardR : s.reformGuards.zones.guardR = guardOf s.profile s.reelR := rfl
@[simp] theorem State.reformGuards_now : (s.reformGuards).now = s.now := rfl
@[simp] theorem State.reformGuards_startup : (s.reformGuards).startup = s.startup := rfl
@[simp] theorem State.reformGuards_pins : (s.reformGuards).pins = s.pins := rfl
@[simp] theorem State.reformGuards_position : (s.reformGuards).position = s.position := rfl
@[simp] theorem State.reformGuards_speed : (s.reformGuards).speed = s.speed := rfl
@[simp] theorem State.reformGuards_reelL : (s.reformGuards).reelL = s.reelL := rfl
@[simp] theorem State.reformGuards_reelR : (s.reformGuards).reelR = s.reelR := rfl
@[simp] theorem State.reformGuards_conv : (s.reformGuards).conv = s.conv := rfl
@[simp] theorem State.reformGuards_armL : (s.reformGuards).armL = s.armL := rfl
@[simp] theorem State.reformGuards_armR : (s.reformGuards).armR = s.armR := rfl
@[simp] theorem State.reformGuards_watch : (s.reformGuards).watch = s.watch := rfl
@[simp] theorem State.reformGuards_motion : (s.reformGuards).motion = s.motion := rfl
@[simp] theorem State.reformGuards_capstan : (s.reformGuards).capstan = s.capstan := rfl
@[simp] theorem State.reformGuards_chase : (s.reformGuards).chase = s.chase := rfl
@[simp] theorem State.reformGuards_cue : (s.reformGuards).cue = s.cue := rfl
@[simp] theorem State.reformGuards_comps : (s.reformGuards).comps = s.comps := rfl
@[simp] theorem State.reformGuards_capture : (s.reformGuards).capture = s.capture := rfl
@[simp] theorem State.reformGuards_faults : (s.reformGuards).faults = s.faults := rfl
@[simp] theorem State.reformGuards_deck : (s.reformGuards).deck = s.deck := rfl
@[simp] theorem State.reformGuards_service : (s.reformGuards).service = s.service := rfl
@[simp] theorem State.reformGuards_ctl : (s.reformGuards).ctl = s.ctl := rfl
@[simp] theorem State.reformGuards_profile : (s.reformGuards).profile = s.profile := rfl
@[simp] theorem State.reformGuards_store : (s.reformGuards).store = s.store := rfl
@[simp] theorem State.reformGuards_free : (s.reformGuards).free = s.free := rfl
@[simp] theorem State.reformGuards_pending : (s.reformGuards).pending = s.pending := rfl

/-! ### A reference update noted -/

@[simp] theorem State.noteUpdate_zones : s.noteUpdate.zones = { s.zones with updated := true } := rfl
@[simp] theorem State.noteUpdate_now : s.noteUpdate.now = s.now := rfl
@[simp] theorem State.noteUpdate_startup : s.noteUpdate.startup = s.startup := rfl
@[simp] theorem State.noteUpdate_pins : s.noteUpdate.pins = s.pins := rfl
@[simp] theorem State.noteUpdate_position : s.noteUpdate.position = s.position := rfl
@[simp] theorem State.noteUpdate_speed : s.noteUpdate.speed = s.speed := rfl
@[simp] theorem State.noteUpdate_reelL : s.noteUpdate.reelL = s.reelL := rfl
@[simp] theorem State.noteUpdate_reelR : s.noteUpdate.reelR = s.reelR := rfl
@[simp] theorem State.noteUpdate_conv : s.noteUpdate.conv = s.conv := rfl
@[simp] theorem State.noteUpdate_armL : s.noteUpdate.armL = s.armL := rfl
@[simp] theorem State.noteUpdate_armR : s.noteUpdate.armR = s.armR := rfl
@[simp] theorem State.noteUpdate_watch : s.noteUpdate.watch = s.watch := rfl
@[simp] theorem State.noteUpdate_motion : s.noteUpdate.motion = s.motion := rfl
@[simp] theorem State.noteUpdate_capstan : s.noteUpdate.capstan = s.capstan := rfl
@[simp] theorem State.noteUpdate_chase : s.noteUpdate.chase = s.chase := rfl
@[simp] theorem State.noteUpdate_cue : s.noteUpdate.cue = s.cue := rfl
@[simp] theorem State.noteUpdate_comps : s.noteUpdate.comps = s.comps := rfl
@[simp] theorem State.noteUpdate_capture : s.noteUpdate.capture = s.capture := rfl
@[simp] theorem State.noteUpdate_faults : s.noteUpdate.faults = s.faults := rfl
@[simp] theorem State.noteUpdate_deck : s.noteUpdate.deck = s.deck := rfl
@[simp] theorem State.noteUpdate_service : s.noteUpdate.service = s.service := rfl
@[simp] theorem State.noteUpdate_ctl : s.noteUpdate.ctl = s.ctl := rfl
@[simp] theorem State.noteUpdate_profile : s.noteUpdate.profile = s.profile := rfl
@[simp] theorem State.noteUpdate_store : s.noteUpdate.store = s.store := rfl
@[simp] theorem State.noteUpdate_free : s.noteUpdate.free = s.free := rfl
@[simp] theorem State.noteUpdate_pending : s.noteUpdate.pending = s.pending := rfl

/-! ### The locate context replaced -/

@[simp] theorem State.withLocate_motion (l : LocateCtx) : (s.withLocate l).motion = { s.motion with locate := some l } := rfl
@[simp] theorem State.withLocate_now (l : LocateCtx) : (s.withLocate l).now = s.now := rfl
@[simp] theorem State.withLocate_startup (l : LocateCtx) : (s.withLocate l).startup = s.startup := rfl
@[simp] theorem State.withLocate_pins (l : LocateCtx) : (s.withLocate l).pins = s.pins := rfl
@[simp] theorem State.withLocate_position (l : LocateCtx) : (s.withLocate l).position = s.position := rfl
@[simp] theorem State.withLocate_speed (l : LocateCtx) : (s.withLocate l).speed = s.speed := rfl
@[simp] theorem State.withLocate_reelL (l : LocateCtx) : (s.withLocate l).reelL = s.reelL := rfl
@[simp] theorem State.withLocate_reelR (l : LocateCtx) : (s.withLocate l).reelR = s.reelR := rfl
@[simp] theorem State.withLocate_conv (l : LocateCtx) : (s.withLocate l).conv = s.conv := rfl
@[simp] theorem State.withLocate_armL (l : LocateCtx) : (s.withLocate l).armL = s.armL := rfl
@[simp] theorem State.withLocate_armR (l : LocateCtx) : (s.withLocate l).armR = s.armR := rfl
@[simp] theorem State.withLocate_watch (l : LocateCtx) : (s.withLocate l).watch = s.watch := rfl
@[simp] theorem State.withLocate_capstan (l : LocateCtx) : (s.withLocate l).capstan = s.capstan := rfl
@[simp] theorem State.withLocate_zones (l : LocateCtx) : (s.withLocate l).zones = s.zones := rfl
@[simp] theorem State.withLocate_chase (l : LocateCtx) : (s.withLocate l).chase = s.chase := rfl
@[simp] theorem State.withLocate_cue (l : LocateCtx) : (s.withLocate l).cue = s.cue := rfl
@[simp] theorem State.withLocate_comps (l : LocateCtx) : (s.withLocate l).comps = s.comps := rfl
@[simp] theorem State.withLocate_capture (l : LocateCtx) : (s.withLocate l).capture = s.capture := rfl
@[simp] theorem State.withLocate_faults (l : LocateCtx) : (s.withLocate l).faults = s.faults := rfl
@[simp] theorem State.withLocate_deck (l : LocateCtx) : (s.withLocate l).deck = s.deck := rfl
@[simp] theorem State.withLocate_service (l : LocateCtx) : (s.withLocate l).service = s.service := rfl
@[simp] theorem State.withLocate_ctl (l : LocateCtx) : (s.withLocate l).ctl = s.ctl := rfl
@[simp] theorem State.withLocate_profile (l : LocateCtx) : (s.withLocate l).profile = s.profile := rfl
@[simp] theorem State.withLocate_store (l : LocateCtx) : (s.withLocate l).store = s.store := rfl
@[simp] theorem State.withLocate_free (l : LocateCtx) : (s.withLocate l).free = s.free := rfl
@[simp] theorem State.withLocate_pending (l : LocateCtx) : (s.withLocate l).pending = s.pending := rfl

end Sys2Proof.Machine
end

