-- ==== Sys2Proof/Laws/Entries.lean ====
section
/-! SUPPORT. What an entry into a transport state does to the sequencer, and what it leaves of the other blocks. -/

namespace Sys2Proof.Machine

variable {s : State}

@[simp] theorem report_motion (x : Source) (v : Int) : (s.report x v).motion = s.motion :=
  State.reportTo_motion ..

@[simp] theorem endCueWrite_motion (b : Nat) : (s.endCueWrite b).motion = s.motion := by
  unfold State.endCueWrite
  split
  · rfl
  · dsimp only; simp

@[simp] theorem tryCueWrite_motion : s.tryCueWrite.motion = s.motion := by
  unfold State.tryCueWrite
  split
  · rfl
  · split <;> rfl

@[simp] theorem setChase_motion (x : ChaseState) : (s.setChase x).motion = s.motion := by
  unfold State.setChase
  split
  · rfl
  · dsimp only; simp

@[simp] theorem leavePlaying_motion : s.leavePlaying.motion = s.motion := by
  unfold State.leavePlaying
  dsimp only
  split <;> simp

@[simp] theorem arrivePlaying_motion : s.arrivePlaying.motion = s.motion := by
  unfold State.arrivePlaying
  dsimp only
  split <;> simp

/-- The sequencer after an entry into a transport state (R90, R92, R112). -/
theorem enter_motion (t : Transport) : (s.enter t).motion = { s.motion with
    state := t
    vRef := if t.braked then 0 else s.motion.vRef
    aRef := if t.braked then 0 else s.motion.aRef
    haltPending := if t.braked then none else s.motion.haltPending
    halt := none
    locate := if t.keepsLocate then s.motion.locate else none
    sizing := if t = .sizing then s.motion.sizing else none
    pinchTimer := if t = .engaging ∨ t = .releasing then some s.now else none
    brakingTimer := if t = .braking then some s.now else none
    brakeRelease := !t.braked
    pinchCmd := decide (t = .engaging) || decide (t = .playing) } := by
  have h1 : ∀ (p : Prop) [Decidable p], (if p then s.leavePlaying else s).motion = s.motion := by
    intro p _; split <;> simp
  unfold State.enter
  cases t <;> simp [Transport.braked, State.brake, h1]

end Sys2Proof.Machine
end

