-- ==== Sys2Proof/Laws/Counting.lean ====
section
/-! SUPPORT. The counts of the encoders: which comparators hit (R157), a step of the position that crosses no edge and hits nothing,
and what a reel count comes to (R24 to R30). -/

namespace Sys2Proof.Machine

variable {s : State} {d : Direction}

/-- Whether the counter's limit absorbs a count (R1). -/
theorem absorbed_iff (x : Int) : absorbed x d = true ↔ x + dirSign d < -2000000000 ∨ 2000000000 < x + dirSign d := by
  rw [absorbed, posOk, Bool.not_eq_true', Bool.and_eq_false_iff, decide_eq_false_iff_not, decide_eq_false_iff_not, posMax]
  omega

/-- Whether a comparator hits (R157). -/
theorem hits_iff (c : Comparator) (x : Int) : c.hits x d = true ↔
    c.state = .armed ∧ c.target = x ∧
      (c.sense = .either ∨ (c.sense = .forward ∧ d = .forward) ∨ (c.sense = .reverse ∧ d = .reverse)) := by
  unfold Comparator.hits Sense.admits
  rcases c.sense <;> rcases d <;> simp

/-- A zone whose containment does not change is not changed by a step (R118). -/
theorem zoneStep_of_holds {z : Zone} {x : Int} (h : z.contains = z.holds x) : z.step x d = z := by
  unfold Zone.step
  rw [h]
  cases z.holds x <;> rfl

/-- A step that crosses no zone's edge changes nothing (R118). -/
theorem stepZones_of_holds (h : ∀ z, some z ∈ s.zones.entries → z.contains = z.holds s.position.pos) :
    s.stepZones d = s := by
  have e1 : s.zones.entries.map (fun x => x.map (fun z => z.step s.position.pos d)) = s.zones.entries := by
    conv_rhs => rw [← List.map_id s.zones.entries]
    refine List.map_congr_left fun x hx => ?_
    rcases x with _ | z
    · rfl
    · simp [zoneStep_of_holds (h z hx)]
  have e2 : s.zones.entries.zipIdx.filterMap (fun x => zoneEvent x.2 x.1 s.position.pos) = [] := by
    rw [List.filterMap_eq_nil_iff]
    rintro ⟨x, i⟩ hx
    have hm : x ∈ s.zones.entries := List.mem_of_getElem? (List.mem_zipIdx_iff_getElem?.1 hx)
    rcases x with _ | z
    · rfl
    · simp [zoneEvent, h z hm]
  unfold State.stepZones
  dsimp only
  rw [e1, e2]
  rfl

/-- A step at which no comparator hits changes nothing (R157). -/
theorem stepComps_of_no_hit (h : ∀ c, some c ∈ s.comps → c.hits s.position.pos d = false) : s.stepComps d = s := by
  have e1 : s.hitList d = [] := by
    unfold State.hitList
    rw [List.filterMap_eq_nil_iff]
    rintro ⟨x, i⟩ hx
    have hm : x ∈ s.comps := List.mem_of_getElem? (List.mem_zipIdx_iff_getElem?.1 hx)
    rcases x with _ | z
    · rfl
    · simp [h z hm]
  have e2 : s.comps.map (fun x => x.bind (fun c => if c.hits s.position.pos d then c.afterHit else some c)) = s.comps := by
    conv_rhs => rw [← List.map_id s.comps]
    refine List.map_congr_left fun x hx => ?_
    rcases x with _ | z
    · rfl
    · simp [h z hx]
  unfold State.stepComps
  dsimp only
  rw [e1, e2]
  rfl

/-- The guard ceiling as R124 gives it. -/
theorem guardOf_eq (p : Profile) (r : Reel) : guardOf p r = guardSpec p r := by
  simp [guardOf, guardSpec, guardSpeed, isqrt_eq]

/-- The guard depends on a reel's confidence and remaining tape alone. -/
theorem guardSpec_congr {p : Profile} {q r : Reel} (h1 : q.conf = r.conf) (h2 : q.remaining = r.remaining) :
    guardSpec p q = guardSpec p r := by
  simp [guardSpec, h1, h2]

/-- Guards that stand as their sources give them are formed again the same (R124). -/
theorem reformGuards_of (h1 : s.zones.guardF = guardSpec s.profile s.reelL)
    (h2 : s.zones.guardR = guardSpec s.profile s.reelR) : s.reformGuards = s := by
  simp only [State.reformGuards, guardOf_eq, ← h1, ← h2]

/-- A count of a reel's encoder in a measuring state (R24). -/
theorem reelCount_eq (r : Side) (h1 : s.startup.phase ≠ .held) (h2 : s.motion.state.braked = false) :
    exec (.reelCount r d) s = .next (State.settle
      (if ((s.reel r).counted s.profile d s.now).2 then
        State.latchFault (({ s with position := s.position.tach r d }).withReel r
          ((s.reel r).counted s.profile d s.now).1).reformGuards .radiusLost
      else (({ s with position := s.position.tach r d }).withReel r
          ((s.reel r).counted s.profile d s.now).1).reformGuards)).handOver := by
  have hc : s.counting = true := by simp [State.counting, h1]
  simp only [exec, execReelCount, hc, h2, if_true]
  cases r <;> rfl

end Sys2Proof.Machine
end

