-- ==== Sys2Proof/Laws/Frames.lean ====
section
/-! SUPPORT. From the backdrop to the groups of registers: what the sequencer and the units it moves leave alone. -/

namespace Sys2Proof.Machine

variable {s t : State}

/-- A field that the backdrop keeps. -/
theorem field_of_backdrop {α : Type} (h : t.backdrop = s.backdrop) (f : State → α) (k : ∀ x : State, f x.backdrop = f x) : f t = f s := by
  rw [← k t, h, k s]

/-- With the same backdrop, every group outside the transport's reach is the same. -/
theorem same_of_backdrop (h : t.backdrop = s.backdrop) (g : Group) (n : g ∉ transportGroups) : g.Same s t := by
  have f {α : Type} (f : State → α) (k : ∀ x : State, f x.backdrop = f x) : f t = f s := field_of_backdrop h f k
  cases g <;> first | exact absurd (by decide) n | skip
  case start => exact f (·.startup) fun _ => rfl
  case pins => exact f (·.pins) fun _ => rfl
  case position => exact f (·.position.pos) fun _ => rfl
  case tachs => exact ⟨f (·.position.tachL) fun _ => rfl, f (·.position.tachR) fun _ => rfl⟩
  case rest => exact ⟨f (·.position.atRest) fun _ => rfl, f (·.position.restStart) fun _ => rfl⟩
  case anchor => exact ⟨f (·.position.anchor) fun _ => rfl, f (·.position.chain) fun _ => rfl⟩
  case locateTable => exact f (·.position.locate) fun _ => rfl
  case speed => exact ⟨f (·.speed.hist) fun _ => rfl, f (·.speed.v) fun _ => rfl, f (·.speed.lastUpdate) fun _ => rfl⟩
  case interval => exact f (·.speed.cur) fun _ => rfl
  case estimates =>
    exact ⟨⟨f (·.reelL.rEst) fun _ => rfl, f (·.reelL.conf) fun _ => rfl, f (·.reelL.streak) fun _ => rfl,
      f (·.reelL.inertia) fun _ => rfl, f (·.reelL.remaining) fun _ => rfl⟩, ⟨f (·.reelR.rEst) fun _ => rfl,
      f (·.reelR.conf) fun _ => rfl, f (·.reelR.streak) fun _ => rfl, f (·.reelR.inertia) fun _ => rfl,
      f (·.reelR.remaining) fun _ => rfl⟩, f (·.zones.guardF) fun _ => rfl, f (·.zones.guardR) fun _ => rfl⟩
  case converter => exact f (·.conv) fun _ => rfl
  case arms => exact ⟨f (·.armL) fun _ => rfl, f (·.armR) fun _ => rfl⟩
  case updateTime => exact f (·.motion.lastUpdate) fun _ => rfl
  case capstanSpeed =>
    exact ⟨f (·.capstan.hist) fun _ => rfl, f (·.capstan.speed) fun _ => rfl, f (·.capstan.lastUpdate) fun _ => rfl⟩
  case capstanInterval => exact f (·.capstan.cur) fun _ => rfl
  case zones => exact f (·.zones.entries) fun _ => rfl
  case zoneCeilings => exact ⟨f (·.zones.ceilF) fun _ => rfl, f (·.zones.ceilR) fun _ => rfl⟩
  case reader =>
    exact ⟨f (·.chase.present) fun _ => rfl, f (·.chase.run) fun _ => rfl, f (·.chase.lastFrame) fun _ => rfl,
      f (·.chase.lastSub) fun _ => rfl, f (·.chase.lossTimer) fun _ => rfl, f (·.chase.lastWord) fun _ => rfl⟩
  case cueCodes => exact ⟨f (·.cue.mark) fun _ => rfl, f (·.cue.clear) fun _ => rfl, f (·.cue.threshold) fun _ => rfl⟩
  case autoCue => exact f (·.cue.auto) fun _ => rfl
  case captureSetup =>
    exact ⟨f (·.capture.holder) fun _ => rfl, f (·.capture.mode) fun _ => rfl, f (·.capture.channels) fun _ => rfl,
      f (·.capture.decim) fun _ => rfl, f (·.capture.start) fun _ => rfl, f (·.capture.stop) fun _ => rfl,
      f (·.capture.trigger) fun _ => rfl, f (·.capture.post) fun _ => rfl⟩
  case samples => exact ⟨f (·.capture.samples) fun _ => rfl, f (·.capture.taken) fun _ => rfl⟩
  case sampleTime => exact f (·.capture.lastEvent) fun _ => rfl
  case counters =>
    exact ⟨f (·.faults.mismL) fun _ => rfl, f (·.faults.mismR) fun _ => rfl, f (·.faults.mismC) fun _ => rfl,
      f (·.faults.supply) fun _ => rfl⟩
  case receivers =>
    exact fun l => by
      cases l
      · exact ⟨f (·.deck.rx) fun _ => rfl, f (·.deck.part) fun _ => rfl, f (·.deck.lastByte) fun _ => rfl⟩
      · exact ⟨f (·.service.rx) fun _ => rfl, f (·.service.part) fun _ => rfl, f (·.service.lastByte) fun _ => rfl⟩
  case replies =>
    exact fun l => by
      cases l
      · exact f (·.deck.replies) fun _ => rfl
      · exact f (·.service.replies) fun _ => rfl
  case masks =>
    exact fun l => by
      cases l
      · exact f (·.deck.mask) fun _ => rfl
      · exact f (·.service.mask) fun _ => rfl
  case reports =>
    exact fun l => by
      cases l
      · exact f (·.deck.report) fun _ => rfl
      · exact f (·.service.report) fun _ => rfl
  case transmitters =>
    exact fun l => by
      cases l
      · exact ⟨f (·.deck.notice) fun _ => rfl, f (·.deck.sending) fun _ => rfl⟩
      · exact ⟨f (·.service.notice) fun _ => rfl, f (·.service.sending) fun _ => rfl⟩
  case ownership => exact f (·.ctl.owner) fun _ => rfl
  case reportRate => exact ⟨f (·.ctl.rate) fun _ => rfl, f (·.ctl.lastReport) fun _ => rfl⟩
  case resetPending => exact f (·.ctl.resetPending) fun _ => rfl
  case profile => exact f (·.profile) fun _ => rfl
  case store => exact f (·.store) fun _ => rfl
  case free => exact f (·.free) fun _ => rfl

/-- The end of a step changes nothing outside the transport's reach. -/
theorem settle_same (g : Group) (n : g ∉ transportGroups) : g.Same s s.settle := same_of_backdrop settle_backdrop g n

end Sys2Proof.Machine
end

