-- ==== Sys2Proof/Laws/PerInstr.lean ====
section
/-! SUPPORT. What holds of every command as syntax, one lemma for each constructor of `Instr`. -/

namespace Sys2Proof.Laws.RequestKind

/-- A command that brings a request carries one of the request kinds of 11.4, unless it is UNKNOWN_KIND; and of a well-formed one
the body is at most 120 bytes and an unknown kind is truly unknown (R179, R180). -/
def Statement (i : Instr) : Prop :=
  ∀ k r, i.request? = some (k, r) →
    ((∀ q, i ≠ .unknownKind k q) → k ∈ requestKinds) ∧
      (i.wellFormed = true → r.body.length ≤ 120 ∧ (k ∈ requestKinds ↔ ∀ q, i ≠ .unknownKind k q))

/-- A request row with its kind. -/
theorem of_kind {i : Instr} {k : Byte} {r : Request} (e : i.request? = some (k, r)) (h : k ∈ requestKinds)
    (n : ∀ q, i ≠ .unknownKind k q) (w : i.wellFormed = decide (r.body.length ≤ maxBody)) : Statement i := by
  intro k' r' e'
  rw [e] at e'
  cases e'
  exact ⟨fun _ => h, fun g => ⟨of_decide_eq_true (w ▸ g), fun _ => n, fun _ => h⟩⟩

/-- A row that brings no request. -/
theorem of_none {i : Instr} (e : i.request? = none) : Statement i := by
  intro k r e'
  rw [e] at e'
  cases e'

theorem powerOn : Statement (.powerOn) := of_none rfl

theorem resetLine : Statement (.resetLine) := of_none rfl

theorem settlePeriodEnd : Statement (.settlePeriodEnd) := of_none rfl

theorem profileLoadDone : Statement (.profileLoadDone) := of_none rfl

theorem rollerCount (d : Direction) : Statement (.rollerCount d) := of_none rfl

theorem reelCount (r : Side) (d : Direction) : Statement (.reelCount r d) := of_none rfl

theorem capstanCount (d : Direction) : Statement (.capstanCount d) := of_none rfl

theorem windowTimeout (r : Side) : Statement (.windowTimeout r) := of_none rfl

theorem restTimerExpiry : Statement (.restTimerExpiry) := of_none rfl

theorem tapeTimecodeWord (w : BcdTime) (rev : Bool) : Statement (.tapeTimecodeWord w rev) := of_none rfl

theorem conversionComplete (raw : BitVec 12) : Statement (.conversionComplete raw) := of_none rfl

theorem driveFaultInput (m : Motor) (asserted : Bool) : Statement (.driveFaultInput m asserted) := of_none rfl

theorem supplyWarningInput (asserted : Bool) : Statement (.supplyWarningInput asserted) := of_none rfl

theorem reelServoUpdate : Statement (.reelServoUpdate) := of_none rfl

theorem rollerSlipTimeout : Statement (.rollerSlipTimeout) := of_none rfl

theorem referenceUpdate : Statement (.referenceUpdate) := of_none rfl

theorem capstanUpdate : Statement (.capstanUpdate) := of_none rfl

theorem pinchEngagedSense (engaged : Bool) : Statement (.pinchEngagedSense engaged) := of_none rfl

theorem pinchTimeout : Statement (.pinchTimeout) := of_none rfl

theorem durationExpiry : Statement (.durationExpiry) := of_none rfl

theorem threadCheckTimeout : Statement (.threadCheckTimeout) := of_none rfl

theorem measureTimeout : Statement (.measureTimeout) := of_none rfl

theorem brakingTimeout : Statement (.brakingTimeout) := of_none rfl

theorem supervisionExpiry : Statement (.supervisionExpiry) := of_none rfl

theorem referenceWord (w : BcdTime) (rev : Bool) : Statement (.referenceWord w rev) := of_none rfl

theorem lossTimerExpiry : Statement (.lossTimerExpiry) := of_none rfl

theorem freewheelExpiry : Statement (.freewheelExpiry) := of_none rfl

theorem cueBit (b : Bool) : Statement (.cueBit b) := of_none rfl

theorem captureSampleEvent : Statement (.captureSampleEvent) := of_none rfl

theorem positionReportPeriod : Statement (.positionReportPeriod) := of_none rfl

theorem frameReceived (l : Link) (kind tag : Byte) (body : Bytes) : Statement (.frameReceived l kind tag body) := of_none rfl

theorem frameGapTimeout (l : Link) : Statement (.frameGapTimeout l) := of_none rfl

theorem transmitDone (l : Link) : Statement (.transmitDone l) := of_none rfl

theorem deferredReset : Statement (.deferredReset) := of_none rfl

theorem profileWriteDone : Statement (.profileWriteDone) := of_none rfl

theorem unknownKind (kind : Byte) (r : Request) : Statement (.unknownKind kind r) := by
  intro k q e
  cases e
  refine ⟨fun n => absurd rfl (n r), fun g => ?_⟩
  simp only [Instr.wellFormed, Bool.and_eq_true, decide_eq_true_eq, Bool.not_eq_true', List.contains_eq_mem,
    decide_eq_false_iff_not] at g
  exact ⟨g.1, fun m => absurd m g.2, fun n => absurd rfl (n r)⟩

theorem readStatus (r : Request) : Statement (.readStatus r) := of_kind rfl (by decide) nofun rfl

theorem readPosition (r : Request) : Statement (.readPosition r) := of_kind rfl (by decide) nofun rfl

theorem readReelModel (r : Request) : Statement (.readReelModel r) := of_kind rfl (by decide) nofun rfl

theorem readMoves (r : Request) : Statement (.readMoves r) := of_kind rfl (by decide) nofun rfl

theorem readLocateTable (r : Request) : Statement (.readLocateTable r) := of_kind rfl (by decide) nofun rfl

theorem readZones (r : Request) : Statement (.readZones r) := of_kind rfl (by decide) nofun rfl

theorem readCapture (r : Request) : Statement (.readCapture r) := of_kind rfl (by decide) nofun rfl

theorem readProfile (r : Request) : Statement (.readProfile r) := of_kind rfl (by decide) nofun rfl

theorem readEvents (r : Request) : Statement (.readEvents r) := of_kind rfl (by decide) nofun rfl

theorem claimTransport (r : Request) : Statement (.claimTransport r) := of_kind rfl (by decide) nofun rfl

theorem releaseTransport (r : Request) : Statement (.releaseTransport r) := of_kind rfl (by decide) nofun rfl

theorem submitMove (r : Request) : Statement (.submitMove r) := of_kind rfl (by decide) nofun rfl

theorem flushMoves (r : Request) : Statement (.flushMoves r) := of_kind rfl (by decide) nofun rfl

theorem stop (r : Request) : Statement (.stop r) := of_kind rfl (by decide) nofun rfl

theorem sizeReels (r : Request) : Statement (.sizeReels r) := of_kind rfl (by decide) nofun rfl

theorem enterStandby (r : Request) : Statement (.enterStandby r) := of_kind rfl (by decide) nofun rfl

theorem wake (r : Request) : Statement (.wake r) := of_kind rfl (by decide) nofun rfl

theorem clearFault (r : Request) : Statement (.clearFault r) := of_kind rfl (by decide) nofun rfl

theorem setZone (r : Request) : Statement (.setZone r) := of_kind rfl (by decide) nofun rfl

theorem clearZone (r : Request) : Statement (.clearZone r) := of_kind rfl (by decide) nofun rfl

theorem setLocateEntry (r : Request) : Statement (.setLocateEntry r) := of_kind rfl (by decide) nofun rfl

theorem clearLocateEntry (r : Request) : Statement (.clearLocateEntry r) := of_kind rfl (by decide) nofun rfl

theorem setAnchor (r : Request) : Statement (.setAnchor r) := of_kind rfl (by decide) nofun rfl

theorem setSchedule (r : Request) : Statement (.setSchedule r) := of_kind rfl (by decide) nofun rfl

theorem setEventMask (r : Request) : Statement (.setEventMask r) := of_kind rfl (by decide) nofun rfl

theorem acknowledgeEvents (r : Request) : Statement (.acknowledgeEvents r) := of_kind rfl (by decide) nofun rfl

theorem setReportRate (r : Request) : Statement (.setReportRate r) := of_kind rfl (by decide) nofun rfl

theorem watchPosition (r : Request) : Statement (.watchPosition r) := of_kind rfl (by decide) nofun rfl

theorem cancelWatch (r : Request) : Statement (.cancelWatch r) := of_kind rfl (by decide) nofun rfl

theorem armCapture (r : Request) : Statement (.armCapture r) := of_kind rfl (by decide) nofun rfl

theorem triggerCapture (r : Request) : Statement (.triggerCapture r) := of_kind rfl (by decide) nofun rfl

theorem abortCapture (r : Request) : Statement (.abortCapture r) := of_kind rfl (by decide) nofun rfl

theorem releaseCapture (r : Request) : Statement (.releaseCapture r) := of_kind rfl (by decide) nofun rfl

theorem setCueCodes (r : Request) : Statement (.setCueCodes r) := of_kind rfl (by decide) nofun rfl

theorem setAutoCue (r : Request) : Statement (.setAutoCue r) := of_kind rfl (by decide) nofun rfl

theorem writeCue (r : Request) : Statement (.writeCue r) := of_kind rfl (by decide) nofun rfl

theorem cancelCueWrite (r : Request) : Statement (.cancelCueWrite r) := of_kind rfl (by decide) nofun rfl

theorem writeProfile (r : Request) : Statement (.writeProfile r) := of_kind rfl (by decide) nofun rfl

theorem resetPart (r : Request) : Statement (.resetPart r) := of_kind rfl (by decide) nofun rfl

theorem resetInputRelease : Statement (.resetInputRelease) := of_none rfl

theorem byteReceived (l : Link) (b : Byte) (stopBit : Bool) : Statement (.byteReceived l b stopBit) := of_none rfl

end Sys2Proof.Laws.RequestKind
end

