-- ==== Sys2Proof/Laws/Requests.lean ====
section
/-! SUPPORT. How a request comes to its reply: taken at its link, through its checks in their order, answered (R180). -/

namespace Sys2Proof.Machine

variable {s t : State} {kind : Byte} {r : Request}

/-! ### Taking and answering -/

/-- A request that its link takes is answered, its reply is pending, and the transmitters take what waits. -/
theorem request_of_takes (h : s.Takes kind r t) (answer : State → Answer) :
    s.request kind r answer = .next ((answer t).replied kind r).handOver := by
  simp [State.request, Nat.not_lt.2 h.1, h.2]

/-- A request always leads to a next state. -/
theorem request_next (h : r.body.length ≤ maxBody) (answer : State → Answer) :
    ∃ u, s.request kind r answer = .next u := by
  unfold State.request
  rw [if_neg (Nat.not_lt.2 h)]
  dsimp only
  split <;> exact ⟨_, rfl⟩

/-- What taking a frame may change: its link's receive queue, and the supervision timer. -/
theorem takes_cases (h : s.Takes kind r t) :
    (∃ rest, (s.port r.link).rx = ⟨kind, r.tag, r.body⟩ :: rest ∧ t = s.withPort r.link { s.port r.link with rx := rest }) ∨
      ((s.port r.link).rx = [] ∧ (s.port r.link).occupancy < 4 ∧ t = s.heard r.link) := by
  obtain ⟨-, h⟩ := h
  unfold State.takeFrame at h
  dsimp only at h
  split at h
  · split at h
    · split at h
      · rename_i hg; cases h; exact .inl ⟨_, by rw [← hg]; assumption, rfl⟩
      · cases h
    · split at h
      · cases h; exact .inr ⟨‹_›, ‹_›, rfl⟩
      · cases h
  · cases h

/-! ### The checks -/

@[simp] theorem checked_nil (a : Answer) : s.checked [] a = a := rfl

@[simp] theorem checked_none (l : List Check) (a : Answer) : s.checked (none :: l) a = s.checked l a := rfl

@[simp] theorem checked_some (st : Status) (d : Bytes) (l : List Check) (a : Answer) :
    s.checked (some (st, d) :: l) a = ⟨s, st, d, false⟩ := rfl

@[simp] theorem check_true (st : Status) : check true st = none := rfl

@[simp] theorem check_false (st : Status) : check false st = some (st, []) := rfl

theorem owns_of (h : s.ctl.owner = Link.owner r.link) : s.owns r.link = none := by simp [State.owns, h]

theorem owns_not (h : s.ctl.owner ≠ Link.owner r.link) : s.owns r.link = some (.notOwner, []) := by simp [State.owns, h]

theorem noReset_of (h : s.ctl.resetPending = none) : s.noReset = none := by simp [State.noReset, h]

theorem noReset_not (h : s.ctl.resetPending ≠ none) : s.noReset = some (.resetPending, []) := by
  unfold State.noReset
  rw [show s.ctl.resetPending.isNone = false by simpa [Option.isSome_iff_ne_none] using h]
  rfl

theorem sized_of {n : Nat} (h : r.body.length = n) : sized r n = none := by simp [sized, h]

theorem sized_not {n : Nat} (h : r.body.length ≠ n) : sized r n = some (.badLength, []) := by simp [sized, h]

/-- Fields that are all valid pass. -/
theorem checkFields_of {l : List Bool} (h : ∀ b ∈ l, b = true) : checkFields l = none := by
  unfold checkFields firstBad
  rw [List.findIdx?_eq_none_iff.2]
  · rfl
  · intro b hb; simp [h b hb]

@[simp] theorem answered_eq (st : Status) (d : Bytes) :
    (Answer.replied ⟨s, st, d, false⟩ kind r).handOver = s.answered kind r st d := rfl

@[simp] theorem replied_ok (d : Bytes) : ((s.ok d).replied kind r).handOver = s.answered kind r .ok d := rfl

end Sys2Proof.Machine
end

