-- ==== Sys2Proof/Laws/Transmit.lean ====
section
/-! SUPPORT. What the transmit arbiter leaves alone (R182): all that an idle transmitter may take, and the fields that the end of a
step keeps. -/

namespace Sys2Proof.Machine

variable {s : State} {l : Link}

/-! ### One link -/

/-- A transmitter that is sending takes nothing. -/
theorem feed_busy {o : Outgoing} (h : (s.port l).sending = some o) : s.feed l = s := by simp [State.feed, h]

/-- Before the part runs nothing is taken. -/
theorem feed_of_not_running (h : s.startup.phase ≠ .running) : s.feed l = s := by
  unfold State.feed State.chooseNext State.receiving
  split <;> simp [h]

/-- Putting back what a link holds changes nothing. -/
theorem withPort_port : s.withPort l (s.port l) = s := by cases l <;> rfl

/-- What a transmitter takes leaves of its link the receiver and the mask as they are. -/
structure LinkPort.Fed (p q : LinkPort) : Prop where
  rx       : p.rx = q.rx
  part     : p.part = q.part
  lastByte : p.lastByte = q.lastByte
  mask     : p.mask = q.mask
  latches  : p.latches.length = q.latches.length

theorem fed_refl (p : LinkPort) : p.Fed p := ⟨rfl, rfl, rfl, rfl, rfl⟩

theorem chooseNotice_fed (p : LinkPort) : p.chooseNotice.Fed p := by
  unfold LinkPort.chooseNotice
  split
  · unfold LinkPort.sendEvent
    split
    · exact ⟨rfl, rfl, rfl, rfl, List.length_set ..⟩
    · exact fed_refl p
  · split
    · exact ⟨rfl, rfl, rfl, rfl, rfl⟩
    · exact fed_refl p

/-- All that a link's transmitter may take: the part is the same but for what waits on that link and the oldest completion record.
-/
theorem feed_cases (s : State) (l : Link) :
    ∃ p : LinkPort, p.Fed (s.port l) ∧ (s.feed l = s.withPort l p ∨ ∃ c rest, s.motion.completions = c :: rest ∧
      s.noticeLink = l ∧ s.feed l = ({ s with motion := { s.motion with completions := rest } }).withPort l p) := by
  have same : ∃ p : LinkPort, p.Fed (s.port l) ∧ (s = s.withPort l p ∨ ∃ c rest, s.motion.completions = c :: rest ∧
      s.noticeLink = l ∧ s = ({ s with motion := { s.motion with completions := rest } }).withPort l p) :=
    ⟨s.port l, fed_refl _, .inl withPort_port.symm⟩
  unfold State.feed
  split
  · exact same
  unfold State.chooseNext
  split
  · unfold State.chooseFrame
    dsimp only
    split
    · refine ⟨_, ?_, .inl rfl⟩; exact ⟨rfl, rfl, rfl, rfl, rfl⟩
    · split
      · refine ⟨_, ?_, .inl rfl⟩; exact ⟨rfl, rfl, rfl, rfl, rfl⟩
      · split
        · split
          · refine ⟨_, ?_, .inr ⟨_, _, ‹_›, ‹_›, rfl⟩⟩; exact ⟨rfl, rfl, rfl, rfl, rfl⟩
          · exact ⟨_, chooseNotice_fed _, .inl rfl⟩
        · exact ⟨_, chooseNotice_fed _, .inl rfl⟩
  · exact same

/-- A field that neither a link nor the completion list holds is the same after a link has taken. -/
theorem feed_field {α : Type} (f : State → α) (h1 : ∀ (t : State) (p : LinkPort), f (t.withPort l p) = f t)
    (h2 : ∀ (t : State) (c : List Completion), f { t with motion := { t.motion with completions := c } } = f t) :
    f (s.feed l) = f s := by
  obtain ⟨p, -, h | ⟨c, rest, -, -, h⟩⟩ := feed_cases s l
  · rw [h, h1]
  · rw [h, h1, h2]

/-! ### The end of a step -/

/-- A field that neither a link nor the completion list holds is the same after the end of a step. -/
theorem handOver_field {α : Type} (f : State → α) (h1 : ∀ (l : Link) (t : State) (p : LinkPort), f (t.withPort l p) = f t)
    (h2 : ∀ (t : State) (c : List Completion), f { t with motion := { t.motion with completions := c } } = f t) :
    f s.handOver = f s :=
  (feed_field f (h1 .service) h2).trans (feed_field f (h1 .deck) h2)

/-- With both transmitters sending the end of a step changes nothing. -/
theorem handOver_busy {o q : Outgoing} (hd : s.deck.sending = some o) (hs : s.service.sending = some q) : s.handOver = s := by
  rw [State.handOver, feed_busy (l := .deck) hd, feed_busy (l := .service) hs]

/-- Before the part runs the end of a step changes nothing. -/
theorem handOver_of_not_running (h : s.startup.phase ≠ .running) : s.handOver = s := by
  rw [State.handOver, feed_of_not_running h, feed_of_not_running h]

@[simp] theorem handOver_now : s.handOver.now = s.now :=
  handOver_field (·.now) (fun l _ _ => by cases l <;> rfl) fun _ _ => rfl
@[simp] theorem handOver_startup : s.handOver.startup = s.startup :=
  handOver_field (·.startup) (fun l _ _ => by cases l <;> rfl) fun _ _ => rfl
@[simp] theorem handOver_pins : s.handOver.pins = s.pins :=
  handOver_field (·.pins) (fun l _ _ => by cases l <;> rfl) fun _ _ => rfl
@[simp] theorem handOver_position : s.handOver.position = s.position :=
  handOver_field (·.position) (fun l _ _ => by cases l <;> rfl) fun _ _ => rfl
@[simp] theorem handOver_speed : s.handOver.speed = s.speed :=
  handOver_field (·.speed) (fun l _ _ => by cases l <;> rfl) fun _ _ => rfl
@[simp] theorem handOver_reelL : s.handOver.reelL = s.reelL :=
  handOver_field (·.reelL) (fun l _ _ => by cases l <;> rfl) fun _ _ => rfl
@[simp] theorem handOver_reelR : s.handOver.reelR = s.reelR :=
  handOver_field (·.reelR) (fun l _ _ => by cases l <;> rfl) fun _ _ => rfl
@[simp] theorem handOver_conv : s.handOver.conv = s.conv :=
  handOver_field (·.conv) (fun l _ _ => by cases l <;> rfl) fun _ _ => rfl
@[simp] theorem handOver_armL : s.handOver.armL = s.armL :=
  handOver_field (·.armL) (fun l _ _ => by cases l <;> rfl) fun _ _ => rfl
@[simp] theorem handOver_armR : s.handOver.armR = s.armR :=
  handOver_field (·.armR) (fun l _ _ => by cases l <;> rfl) fun _ _ => rfl
@[simp] theorem handOver_watch : s.handOver.watch = s.watch :=
  handOver_field (·.watch) (fun l _ _ => by cases l <;> rfl) fun _ _ => rfl
@[simp] theorem handOver_capstan : s.handOver.capstan = s.capstan :=
  handOver_field (·.capstan) (fun l _ _ => by cases l <;> rfl) fun _ _ => rfl
@[simp] theorem handOver_zones : s.handOver.zones = s.zones :=
  handOver_field (·.zones) (fun l _ _ => by cases l <;> rfl) fun _ _ => rfl
@[simp] theorem handOver_chase : s.handOver.chase = s.chase :=
  handOver_field (·.chase) (fun l _ _ => by cases l <;> rfl) fun _ _ => rfl
@[simp] theorem handOver_cue : s.handOver.cue = s.cue :=
  handOver_field (·.cue) (fun l _ _ => by cases l <;> rfl) fun _ _ => rfl
@[simp] theorem handOver_comps : s.handOver.comps = s.comps :=
  handOver_field (·.comps) (fun l _ _ => by cases l <;> rfl) fun _ _ => rfl
@[simp] theorem handOver_capture : s.handOver.capture = s.capture :=
  handOver_field (·.capture) (fun l _ _ => by cases l <;> rfl) fun _ _ => rfl
@[simp] theorem handOver_faults : s.handOver.faults = s.faults :=
  handOver_field (·.faults) (fun l _ _ => by cases l <;> rfl) fun _ _ => rfl
@[simp] theorem handOver_ctl : s.handOver.ctl = s.ctl :=
  handOver_field (·.ctl) (fun l _ _ => by cases l <;> rfl) fun _ _ => rfl
@[simp] theorem handOver_profile : s.handOver.profile = s.profile :=
  handOver_field (·.profile) (fun l _ _ => by cases l <;> rfl) fun _ _ => rfl
@[simp] theorem handOver_store : s.handOver.store = s.store :=
  handOver_field (·.store) (fun l _ _ => by cases l <;> rfl) fun _ _ => rfl
@[simp] theorem handOver_free : s.handOver.free = s.free :=
  handOver_field (·.free) (fun l _ _ => by cases l <;> rfl) fun _ _ => rfl
@[simp] theorem handOver_pending : s.handOver.pending = s.pending :=
  handOver_field (·.pending) (fun l _ _ => by cases l <;> rfl) fun _ _ => rfl
@[simp] theorem handOver_motion_state : s.handOver.motion.state = s.motion.state :=
  handOver_field (·.motion.state) (fun l _ _ => by cases l <;> rfl) fun _ _ => rfl
@[simp] theorem handOver_motion_vRef : s.handOver.motion.vRef = s.motion.vRef :=
  handOver_field (·.motion.vRef) (fun l _ _ => by cases l <;> rfl) fun _ _ => rfl
@[simp] theorem handOver_motion_aRef : s.handOver.motion.aRef = s.motion.aRef :=
  handOver_field (·.motion.aRef) (fun l _ _ => by cases l <;> rfl) fun _ _ => rfl
@[simp] theorem handOver_motion_accel : s.handOver.motion.accel = s.motion.accel :=
  handOver_field (·.motion.accel) (fun l _ _ => by cases l <;> rfl) fun _ _ => rfl
@[simp] theorem handOver_motion_haltPending : s.handOver.motion.haltPending = s.motion.haltPending :=
  handOver_field (·.motion.haltPending) (fun l _ _ => by cases l <;> rfl) fun _ _ => rfl
@[simp] theorem handOver_motion_halt : s.handOver.motion.halt = s.motion.halt :=
  handOver_field (·.motion.halt) (fun l _ _ => by cases l <;> rfl) fun _ _ => rfl
@[simp] theorem handOver_motion_locate : s.handOver.motion.locate = s.motion.locate :=
  handOver_field (·.motion.locate) (fun l _ _ => by cases l <;> rfl) fun _ _ => rfl
@[simp] theorem handOver_motion_sizing : s.handOver.motion.sizing = s.motion.sizing :=
  handOver_field (·.motion.sizing) (fun l _ _ => by cases l <;> rfl) fun _ _ => rfl
@[simp] theorem handOver_motion_pinchTimer : s.handOver.motion.pinchTimer = s.motion.pinchTimer :=
  handOver_field (·.motion.pinchTimer) (fun l _ _ => by cases l <;> rfl) fun _ _ => rfl
@[simp] theorem handOver_motion_brakingTimer : s.handOver.motion.brakingTimer = s.motion.brakingTimer :=
  handOver_field (·.motion.brakingTimer) (fun l _ _ => by cases l <;> rfl) fun _ _ => rfl
@[simp] theorem handOver_motion_brakeRelease : s.handOver.motion.brakeRelease = s.motion.brakeRelease :=
  handOver_field (·.motion.brakeRelease) (fun l _ _ => by cases l <;> rfl) fun _ _ => rfl
@[simp] theorem handOver_motion_pinchCmd : s.handOver.motion.pinchCmd = s.motion.pinchCmd :=
  handOver_field (·.motion.pinchCmd) (fun l _ _ => by cases l <;> rfl) fun _ _ => rfl
@[simp] theorem handOver_motion_lastUpdate : s.handOver.motion.lastUpdate = s.motion.lastUpdate :=
  handOver_field (·.motion.lastUpdate) (fun l _ _ => by cases l <;> rfl) fun _ _ => rfl
@[simp] theorem handOver_motion_queue : s.handOver.motion.queue = s.motion.queue :=
  handOver_field (·.motion.queue) (fun l _ _ => by cases l <;> rfl) fun _ _ => rfl
@[simp] theorem handOver_motion_active : s.handOver.motion.active = s.motion.active :=
  handOver_field (·.motion.active) (fun l _ _ => by cases l <;> rfl) fun _ _ => rfl

end Sys2Proof.Machine
end

