-- ==== Sys2Proof/Tests/Slice0.lean ====
section
/-! SUPPORT. Our own tests: the ill-formed terms the checks refuse, the worked values of the chapters, and one concrete state for the
hypotheses of each statement. -/

namespace Sys2Proof.Tests

open Sys2Proof.Machine

/-! ### Ill-formed terms (WellFormed.lean) -/

/-- FRAME_RECEIVED: a body of 121 bytes, which no frame can declare (R179). -/
theorem test_long_frame_refused : Instr.wellFormed (.frameReceived .deck 0x14 0 (List.replicate 121 0)) = false := by decide

/-- FRAME_RECEIVED: a body of 120 bytes is a frame. -/
theorem test_longest_frame : Instr.wellFormed (.frameReceived .deck 0x14 0 (List.replicate 120 0)) = true := by decide

/-- A request with a body of 121 bytes. -/
theorem test_long_request_refused : Instr.wellFormed (.stop ⟨.deck, 0, List.replicate 121 0⟩) = false := by decide

/-- UNKNOWN_KIND with the kind of Stop, which 11.4 lists. -/
theorem test_known_kind_refused : Instr.wellFormed (.unknownKind 0x14 ⟨.deck, 0, []⟩) = false := by decide

/-- UNKNOWN_KIND with a body of 121 bytes. -/
theorem test_long_unknown_refused : Instr.wellFormed (.unknownKind 0x7F ⟨.deck, 0, List.replicate 121 0⟩) = false := by
  decide +kernel

/-- An ill-formed term is refused by name. -/
theorem test_illFormed_outcome : exec (.stop ⟨.deck, 0, List.replicate 121 0⟩) State.reset = .refused .illFormed :=
  rfl

/-! ### Worked values of the chapters -/

/-- 1.2.2, row 1: the frame of 1,000,127. -/
theorem test_frame_of_position : frameOfPos Config.defaultProfile 1000000 2159950 1000127 = 2159950 := by decide

/-- 1.2.2, row 2: its subframe position. -/
theorem test_subframe : subframeOfPos Config.defaultProfile 1000000 2159950 1000127 = 215995050 := by decide

/-- 1.2.2, row 3: the frame before the anchor's. -/
theorem test_frame_before : frameOfPos Config.defaultProfile 1000000 2159950 999999 = 2159949 := by decide

/-- 1.2.2, row 4: midnight. -/
theorem test_midnight : frameOfPos Config.defaultProfile 1000000 2159950 1012700 = 0 := by decide

/-- 1.2.2, row 5: a target just past midnight lies ahead. -/
theorem test_position_of_timecode : posOfFrame Config.defaultProfile 1000000 2159950 50 = 1025400 := by decide

/-- 1.2.2, row 6: half a day keeps its sign. -/
theorem test_half_day : posOfFrame Config.defaultProfile 1000000 2159950 1079950 = -273320000 := by decide

/-- 1.2.2: the timecode of the anchor. -/
theorem test_timecode : framesTimecode Config.defaultProfile 2159950 = ⟨0x23, 0x59, 0x58, 0x00⟩ := by decide

/-- 2.3.1: one window. -/
theorem test_radius : radiusMeasured Config.defaultProfile 5236 = 100003 := by decide

/-- 2.3.2, windows 1 and 2: the first measurement replaces the estimate, the second is averaged in. -/
theorem test_windows_average :
    ((((Reel.fresh Config.defaultProfile).measured Config.defaultProfile 150004).1.measured Config.defaultProfile 149985).1.rEst,
      (((Reel.fresh Config.defaultProfile).measured Config.defaultProfile 150004).1.measured Config.defaultProfile
        149985).1.inertia) = (149999, 31202) := by decide

/-- 2.3.2, window 4: an implausible measurement lengthens the streak. -/
theorem test_window_implausible : radiusPlausible Config.defaultProfile 190991 = false := by decide

/-- 2.6.1: the remaining tape at 52,000 µm. -/
theorem test_remaining : reelRemaining Config.defaultProfile 52000 = 21362831 := by decide

/-- 2.10.1, right reel: static and acceleration torque and the drive code. -/
theorem test_torque_right :
    (staticTorque 300 150000, accelTorque 31950 2000 150000, torqueCode 876 1500) = (450, 426, 1195) := by decide

/-- 2.10.2, left reel: inertia, acceleration torque, trim and a negative code. -/
theorem test_torque_left :
    (reelInertia Config.defaultProfile 170000, accelTorque 50338 4000 170000, trimTorque Config.defaultProfile 1500 250 230 170000,
      torqueCode (-742) 1500) = (50338, 1184, 17, -1012) := by decide

/-- 2.10.3: the accel after one derating. -/
theorem test_derate : deratedAccel 6000 = 3000 := by decide

/-- 3.4.1, sample 108: the 32nd sample at the return threshold ends SLACK. -/
theorem test_arm_returns : (Arm.sampled ⟨119, .slack, 0, 0, 31⟩ Config.defaultProfile 120).state = .normal := by decide

/-- 3.4.1, sample 76: a sample below the return threshold breaks the run. -/
theorem test_arm_run_broken :
    Arm.sampled ⟨110, .slack, 0, 0, 15⟩ Config.defaultProfile (armTension 478 400 256) = ⟨78, .slack, 0, 0, 0⟩ := by decide

/-- 5.5.1: b on both sides of the braking test. -/
theorem test_braking_distance :
    (brakingDistance Config.defaultProfile 5019500 2000, brakingDistance Config.defaultProfile 5020000 2000) = (104981, 105002) := by
  decide

/-- 6.8.1: the guard ceiling at 52,000 µm and at 50,500 µm. -/
theorem test_guard : (guardSpeed Config.defaultProfile 21362831, guardSpeed Config.defaultProfile 5262168) = (9908430, 1254196) := by
  decide +kernel

/-- 7.3.1: the phase error and the correction. -/
theorem test_phase_error :
    (phaseError Config.defaultProfile 900000 0 89999850, correction Config.defaultProfile 150) = (150, 37) := by decide

/-- 8.4.1, bits 6 and 54: a match begins a run, and the sixth reaches the threshold. -/
theorem test_detector :
    (Detector.judged ⟨0, 0, false⟩ 6 6 true, Detector.judged ⟨5, 5, false⟩ 6 6 true) = (⟨1, 0, false⟩, ⟨6, 0, false⟩) := by decide

/-- 8.4.1, bit 18: an expected match that is absent breaks the run. -/
theorem test_run_broken : Detector.judged ⟨2, 5, false⟩ 6 6 false = ⟨0, 0, false⟩ := by decide

/-- The check value of the CRC with R179's parameters over the digits 1 to 9 (known of that CRC, not the spec's). -/
theorem test_crc : crc16 [0x31, 0x32, 0x33, 0x34, 0x35, 0x36, 0x37, 0x38, 0x39] = 0x29B1 := by
  decide +kernel

/-- 11.10: the built-in defaults are a valid profile. -/
theorem test_defaults_valid : profileOk Config.defaultProfile = true := by decide

/-! ### Concrete states

A theorem `witness_<Name>` applies the statement `Obligations.<Name>` at concrete states and operands, one for each of its clauses, so
every hypothesis of the clause is met there; the values lie at the edges of the clauses' ranges where they have any. -/

/-- A command runs to a next state. -/
def Runs (c : Instr) (s : State) : Prop := ∃ t, exec c s = .next t

theorem Runs.of {α : Type} {c : Instr} {s : State} {f : α → State} {P : α → Prop} (h : ∃ u, exec c s = .next (f u) ∧ P u) : Runs c s :=
  let ⟨_, e, _⟩ := h
  ⟨_, e⟩

theorem Runs.data {c : Instr} {s : State} {f : Bytes → State} (h : ∃ data, exec c s = .next (f data)) : Runs c s :=
  let ⟨_, e⟩ := h
  ⟨_, e⟩

/-- The running part in STOPPED at rest with both arms NORMAL, the deck owning the transport. -/
def ready : State := { State.reset with
  startup := ⟨.running, 0, .powerOn, .unknown⟩
  position := { State.reset.position with atRest := true }
  armL := ⟨120, .normal, 0, 0, 0⟩
  armR := ⟨120, .normal, 0, 0, 0⟩
  motion := { State.reset.motion with state := .stopped, brakeRelease := true }
  ctl := ⟨.deck, 0, 0, none⟩ }

/-- The running part in a transport state. -/
def inState (t : Transport) : State :=
  { ready with motion := { ready.motion with state := t, brakeRelease := !t.braked } }

/-- A record and the active move made of it. -/
def someRecord (k : MoveKind) : MoveRecord := ⟨0, 7, k, some .forward, none, none, none, 9000000, 2000, 300, 0, 0, none⟩

def someMove (k : MoveKind) : ActiveMove := ⟨7, k, some .forward, none, none, 2000, 9000000, 300, 0, 0, 0, false, 0⟩

/-- The tape in motion under a move alone in the queue. -/
def moving (t : Transport) (k : MoveKind) : State := { ready with
  position := { ready.position with atRest := false }
  motion := { ready.motion with state := t, queue := [someRecord k], active := some (someMove k) } }

/-- The same with the capstan loop running. -/
def playing (t : Transport) (k : MoveKind) : State :=
  { moving t k with capstan := { ready.capstan with running := true } }

/-- The part with an anchor at frame 1. -/
def anchored : State := { ready with position := { ready.position with anchor := some ⟨.preset, 0, 1⟩ } }

/-- A request of the deck. -/
def req (body : Bytes) : Request := ⟨.deck, 5, body⟩

theorem idle (s : State) (h : s.motion.active = none) {P : ActiveMove → Prop} (m : ActiveMove) (e : s.motion.active = some m) : P m := by
  rw [h] at e
  cases e

theorem no_head (s : State) (h : s.motion.queue = []) {P : MoveRecord → Prop} (m : MoveRecord) (e : s.motion.queue.head? = some m) :
    P m := by
  rw [h] at e
  cases e

/-! ### The queue and the invariants -/

theorem witness_StepRunsFront (h : Obligations.StepRunsFront) : step State.reset = .next { State.reset with now := 1 } :=
  h.2 State.reset rfl

theorem witness_CommandsComplete (h : Obligations.CommandsComplete) :
    Runs .powerOn ready ∧ exec (.stop (req (List.replicate 121 0))) ready = .refused .illFormed :=
  ⟨(h _ _).1 (by decide), (h _ _).2 (by decide)⟩

theorem witness_CommandsKeepQueue (h : Obligations.CommandsKeepQueue) :
    (∀ t, exec .powerOn { ready with pending := [.resetLine] } = .next t → t.pending = [.resetLine]) ∧ Runs .powerOn ready :=
  ⟨fun t e => (h _ _ t e).1, _, rfl⟩

theorem witness_OnlyOwnCommandsWrite (h : Obligations.OnlyOwnCommandsWrite) :
    (∃ t u, exec (.rollerCount .forward) ready = .next t ∧ (t = u ∨ t = u.handOver) ∧ Group.Same .profile ready u) ∧
      Runs .powerOn ready :=
  have _ := (h (.rollerCount .forward) ready _ rfl).2.1 .forward rfl
  have _ := (h .powerOn ready _ rfl).2.2 rfl
  let ⟨u, e, k⟩ := (h (.rollerCount .forward) ready _ rfl).1
  ⟨⟨_, u, rfl, e, k _ .profile rfl (by decide)⟩, _, rfl⟩

theorem witness_OnlyUpdateMovesReference (h : Obligations.OnlyUpdateMovesReference) : Runs (.driveFaultInput .left true) ready :=
  have _ := h (.driveFaultInput .left true) (moving .winding .wind) _ (by decide) rfl
  ⟨_, rfl⟩

/-- A state with a move under way and a command waiting. -/
def waiting : State := { moving .winding .wind with pending := [.rollerCount .forward] }

theorem no_latch (p : LinkPort) (h : p.latches = List.replicate 16 none) (x : Latch) : some x ∉ p.latches := by
  simp [h]

theorem waiting_nothing (l : Link) : waiting.NothingWaits l := by
  cases l <;> exact ⟨rfl, rfl, fun _ => rfl, fun x e => absurd e (no_latch _ rfl x), rfl⟩

theorem witness_StepKeepsTables (h : Obligations.StepKeepsTables) : ∃ t, step waiting = .next t ∧ t.TablesWf :=
  ⟨_, rfl, h waiting _ ⟨rfl, rfl, rfl, rfl, rfl, by decide, by decide, by decide, by decide, rfl, rfl, rfl, by simp [waiting, moving,
    ready, State.reset, Converter.fresh], by decide, by decide, by decide, by decide, fun _ l _ => waiting_nothing l⟩ rfl⟩

theorem witness_StepKeepsOutputs (h : Obligations.StepKeepsOutputs) : ∃ t, step waiting = .next t ∧ t.OutputsOk :=
  ⟨_, rfl, h waiting _ ⟨rfl, by decide, by decide, nofun, nofun, by decide, by decide, by decide⟩ rfl⟩

theorem witness_StepKeepsMoves (h : Obligations.StepKeepsMoves) : ∃ t, step waiting = .next t ∧ t.MovesOk :=
  ⟨_, rfl, h waiting _ ⟨fun _ e => by cases e; exact ⟨_, _, rfl, rfl, rfl⟩, by decide, by decide, by decide, by decide, by decide,
    by decide, by decide, by decide, by decide, by decide, nofun, nofun⟩ rfl⟩

theorem witness_StepKeepsProfile (h : Obligations.StepKeepsProfile) : ∃ t, step waiting = .next t ∧ t.ProfileOk :=
  ⟨_, rfl, h waiting _ ⟨by decide, by decide, by decide⟩ rfl⟩

theorem witness_StepKeepsCounts (h : Obligations.StepKeepsCounts) : ∃ t, step waiting = .next t ∧ t.CountsOk :=
  ⟨_, rfl, h waiting _ ⟨by decide, by decide, by decide⟩ ⟨by decide, by decide, ⟨by decide, by decide, by decide, nofun⟩,
    ⟨by decide, by decide, by decide, nofun⟩, by decide, by decide, by decide, by decide, by decide, by decide, nofun, by decide, by decide,
    by decide, ⟨by decide, by decide, by decide⟩, ⟨by decide, by decide, by decide⟩, nofun, by decide, by decide,
    ⟨by decide, by decide⟩, ⟨by decide, by decide⟩, ⟨by decide, by decide, by decide, by decide, nofun, by decide⟩,
    fun l x e => absurd e (no_latch _ (by cases l <;> rfl) x), fun _ e => by cases e; decide, nofun⟩ rfl⟩

theorem witness_StepKeepsDerived (h : Obligations.StepKeepsDerived) : ∃ t, step waiting = .next t ∧ t.DerivedOk :=
  ⟨_, rfl, h waiting _ ⟨⟨rfl, rfl, fun _ => rfl⟩, ⟨rfl, rfl, fun _ => rfl⟩, rfl, rfl⟩ rfl⟩

theorem witness_TimecodeRoundTrip (h : Obligations.TimecodeRoundTrip) :
    timecodeFrames Config.defaultProfile (framesTimecode Config.defaultProfile 2159999) = some 2159999 ∧
      framesTimecode Config.defaultProfile 2159999 = ⟨0x23, 0x59, 0x59, 0x24⟩ :=
  ⟨(h _ (by decide)).1 _ (by decide), ((h _ (by decide)).2 ⟨0x23, 0x59, 0x59, 0x24⟩ _ (by decide)).2⟩

theorem witness_ProfileRoundTrip (h : Obligations.ProfileRoundTrip) : (profileBytes Config.defaultProfile).length = 110 :=
  (h _ (by decide)).1

theorem witness_FrameRoundTrip (h : Obligations.FrameRoundTrip) :
    ∃ t, receive .deck ready (frameBytes 0x14 9 (List.replicate 120 0)) = some t :=
  (h .deck 0x14 9 (List.replicate 120 0) ready (by decide) rfl rfl).imp fun _ e => e.1

/-! ### Requests in general -/

theorem witness_RequestsTaken (h : Obligations.RequestsTaken) :
    (∃ t, State.Takes { ready with deck := { ready.deck with rx := [⟨0x14, 5, []⟩] } } 0x14 (req []) t) ∧
      ∃ t, ready.Takes 0x14 (req (List.replicate 120 0)) t :=
  ⟨⟨_, (h { ready with deck := { ready.deck with rx := [⟨0x14, 5, []⟩] } } 0x14 (req []) rfl (by decide)).1 [] rfl⟩,
    _, (h ready 0x14 (req (List.replicate 120 0)) rfl (by decide)).2 rfl (by decide)⟩

theorem witness_OneReplyEach (h : Obligations.OneReplyEach) : Runs (.stop (req [])) ready ∧ Runs (.unknownKind 0x7F (req [])) ready :=
  ⟨.of (P := fun _ => True) (let ⟨u, _, e, _⟩ := h.1 (.stop (req [])) 0x14 (req []) ready _ rfl rfl ⟨by decide, rfl⟩; ⟨u, e, trivial⟩),
    _, h.2 0x7F (req []) ready _ (by decide) ⟨by decide, rfl⟩⟩

theorem witness_NotOwnerRefused (h : Obligations.NotOwnerRefused) :
    Runs (.wake ⟨.service, 0, []⟩) ready ∧ Runs (.wake (req [])) { ready with ctl := ⟨.free, 0, 0, none⟩ } :=
  ⟨⟨_, h (.wake ⟨.service, 0, []⟩) 0x17 ⟨.service, 0, []⟩ ready _ rfl rfl (by decide) ⟨by decide, rfl⟩ (by decide)⟩,
    _, h (.wake (req [])) 0x17 (req []) { ready with ctl := ⟨.free, 0, 0, none⟩ } _ rfl rfl (by decide) ⟨by decide, rfl⟩ (by decide)⟩

/-- A reset is pending, and a capture of the deck is DONE. -/
def resetting : State := { ready with
  ctl := ⟨.deck, 0, 0, some .deckRequest⟩
  capture := { ready.capture with state := .done, holder := some .deck, channels := [.torqueL] } }

theorem witness_PendingAndLength (h : Obligations.PendingAndLength) :
    (Runs (.wake (req [])) resetting ∧ Runs (.claimTransport (req [0])) resetting ∧ Runs (.abortCapture (req [])) resetting) ∧
      Runs (.wake (req [0])) ready ∧ Runs (.readCapture (req [])) { resetting with ctl := ready.ctl } ∧
      Runs (.armCapture (req [])) { ready with ctl := resetting.ctl } ∧ Runs (.armCapture (req [])) ready :=
  ⟨⟨⟨_, (h (.wake (req [])) 0x17 (req []) resetting _ rfl rfl ⟨by decide, rfl⟩).1 (by decide) (by decide)⟩,
    ⟨_, (h (.claimTransport (req [0])) 0x10 (req [0]) resetting _ rfl rfl ⟨by decide, rfl⟩).1 (by decide) (by decide)⟩,
    _, (h (.abortCapture (req [])) 0x32 (req []) resetting _ rfl rfl ⟨by decide, rfl⟩).1 (by decide) (by decide)⟩,
    ⟨_, (h (.wake (req [0])) 0x17 (req [0]) ready _ rfl rfl ⟨by decide, rfl⟩).2 0 (by decide) ⟨rfl, rfl⟩ (by decide) (by decide)⟩,
    ⟨_, (h (.readCapture (req [])) 0x07 (req []) { resetting with ctl := ready.ctl } _ rfl rfl ⟨by decide, rfl⟩).2 3 (by decide)
      ⟨rfl, rfl⟩ (fun _ => by decide) (by decide)⟩,
    ⟨_, (h (.armCapture (req [])) 0x30 (req []) { ready with ctl := resetting.ctl } _ rfl rfl ⟨by decide, rfl⟩).1 (by decide)
      (by decide)⟩,
    _, (h (.armCapture (req [])) 0x30 (req []) ready _ rfl rfl ⟨by decide, rfl⟩).2 24 (by decide) ⟨rfl, rfl⟩ (fun _ => by decide)
      (by decide)⟩

theorem witness_ReadsAnswer (h : Obligations.ReadsAnswer) :
    (Runs (.readStatus (req [1])) ready ∧ Runs (.readStatus (req [6])) ready ∧ Runs (.readStatus (req [7])) ready) ∧
      (Runs (.readPosition (req [])) ready ∧ Runs (.readPosition (req [])) anchored) ∧ Runs (.readReelModel (req [])) ready ∧
      (Runs (.readMoves (req [0, 0])) ready ∧ Runs (.readMoves (req [2, 255])) ready) ∧
      Runs (.readLocateTable (req [31, 10])) ready ∧ (Runs (.readZones (req [0])) ready ∧ Runs (.readZones (req [2])) ready) ∧
      Runs (.readCapture (req [0, 0, 48])) { resetting with ctl := ready.ctl } ∧ Runs (.readProfile (req [])) ready ∧
      Runs (.readEvents (req [1])) ready :=
  ⟨⟨.of ((h ready _ (req [1])).1 1 ⟨by decide, rfl⟩ rfl (by decide) (by decide)),
      .of ((h ready _ (req [6])).1 6 ⟨by decide, rfl⟩ rfl (by decide) (by decide)),
      .of ((h ready _ (req [7])).1 7 ⟨by decide, rfl⟩ rfl (by decide) (by decide))⟩,
    ⟨⟨_, (h ready _ (req [])).2.1 ⟨by decide, rfl⟩ rfl rfl (by decide) (by decide)⟩,
      _, (h anchored _ (req [])).2.2.1 _ _ _ ⟨by decide, rfl⟩ rfl rfl (by decide) (by decide) rfl rfl⟩,
    ⟨_, (h ready _ (req [])).2.2.2.1 _ ⟨by decide, rfl⟩ rfl (fun _ _ => rfl)⟩,
    ⟨.of ((h ready _ (req [0, 0])).2.2.2.2.1 0 0 ⟨by decide, rfl⟩ rfl (by decide) (by decide)),
      .of ((h ready _ (req [2, 255])).2.2.2.2.1 2 255 ⟨by decide, rfl⟩ rfl (by decide) (by decide))⟩,
    ⟨_, (h ready _ (req [31, 10])).2.2.2.2.2.1 31 10 1 ⟨by decide, rfl⟩ rfl (by decide) (by decide) rfl rfl⟩,
    ⟨⟨_, (h ready _ (req [0])).2.2.2.2.2.2.1 0 _ ⟨by decide, rfl⟩ rfl (by decide) (fun _ _ => rfl)⟩,
      _, (h ready _ (req [2])).2.2.2.2.2.2.1 2 _ ⟨by decide, rfl⟩ rfl (by decide) (fun _ _ => rfl)⟩,
    .data ((h { resetting with ctl := ready.ctl } _ (req [0, 0, 48])).2.2.2.2.2.2.2.1 ⟨by decide, rfl⟩ rfl rfl rfl (by decide)),
    ⟨_, (h ready _ (req [])).2.2.2.2.2.2.2.2.1 ⟨by decide, rfl⟩ rfl⟩,
    ⟨_, (h ready _ (req [1])).2.2.2.2.2.2.2.2.2 1 ⟨by decide, rfl⟩ rfl (by decide)⟩⟩

/-! ### Resets, start-up, transmitters -/

theorem witness_HardResets (h : Obligations.HardResets) : Runs .powerOn (moving .winding .wind) ∧ Runs .resetLine (moving .winding .wind) :=
  ⟨⟨_, (h (moving .winding .wind) _ rfl).1⟩, _, (h (moving .winding .wind) _ rfl).2⟩

/-- The reset input held, from power-on. -/
def held : State := { State.reset with startup := ⟨.held, 0, .resetLine, .idle⟩ }

theorem witness_SettlePeriod (h : Obligations.SettlePeriod) :
    Runs .resetInputRelease held ∧ Runs .resetInputRelease State.reset ∧ Runs .settlePeriodEnd held ∧
      Runs .settlePeriodEnd State.reset ∧ Runs .settlePeriodEnd { State.reset with pins := ⟨true, false, false, true, false⟩ } :=
  ⟨⟨_, (h held held).1 rfl⟩, ⟨_, (h State.reset State.reset).2.1 (by decide)⟩, ⟨_, (h held held).2.2.1 (by decide)⟩,
    ⟨_, ((h State.reset _).2.2.2 rfl rfl).1 rfl rfl rfl rfl ⟨rfl, rfl⟩⟩,
    .of (((h { State.reset with pins := ⟨true, false, false, true, false⟩ } _).2.2.2 rfl rfl).2 (.inl rfl) rfl rfl)⟩

/-- The profile load under way, with a blank store. -/
def loading : State := { State.reset with startup := ⟨.load, 0, .powerOn, .unknown⟩ }

/-- The same with the defaults in the store and a check that agrees. -/
def loadingGood : State := { loading with
  store := ⟨profileBytes Config.defaultProfile, some (crc16 (profileBytes Config.defaultProfile)), false, false⟩ }

theorem witness_ProfileLoadDone (h : Obligations.ProfileLoadDone) :
    Runs .profileLoadDone ready ∧ Runs .profileLoadDone loading ∧ Runs .profileLoadDone loadingGood ∧
      Runs .profileLoadDone { loading with service := { loading.service with sending := some ⟨⟨0x43, 0, [0]⟩, false⟩ } } :=
  ⟨⟨_, (h ready).1 (by decide)⟩, .of ((h loading).2 rfl rfl), .of ((h loadingGood).2 rfl rfl),
    .of ((h { loading with service := { loading.service with sending := some ⟨⟨0x43, 0, [0]⟩, false⟩ } }).2 rfl rfl)⟩

theorem witness_DeferredReset (h : Obligations.DeferredReset) :
    Runs .deferredReset ready ∧ Runs .deferredReset { resetting with position := { ready.position with atRest := false } } ∧
      Runs .deferredReset { resetting with motion := { ready.motion with state := .braking } } ∧ Runs .deferredReset resetting ∧
      Runs .deferredReset { resetting with ctl := ⟨.service, 0, 0, some .serviceRequest⟩ } ∧
      ∃ t, exec .deferredReset { resetting with pins := ⟨false, true, false, false, false⟩ } = .next t ∧
        t.RestartedInFault { resetting with pins := ⟨false, true, false, false, false⟩ } .deckRequest :=
  ⟨⟨_, (h ready .deckRequest).1 (.inl rfl)⟩,
    ⟨_, (h { resetting with position := { ready.position with atRest := false } } .deckRequest).1 (.inr (.inl rfl))⟩,
    ⟨_, (h { resetting with motion := { ready.motion with state := .braking } } .deckRequest).1 (.inr (.inr (.inr rfl)))⟩,
    .of ((h resetting .deckRequest).2 rfl (.inl rfl) rfl (by decide) (by decide)),
    .of ((h { resetting with ctl := ⟨.service, 0, 0, some .serviceRequest⟩ } .serviceRequest).2 rfl (.inr rfl) rfl (by decide)
      (by decide)),
    let ⟨t, e, k⟩ := (h { resetting with pins := ⟨false, true, false, false, false⟩ } .deckRequest).2 rfl (.inl rfl) rfl (by decide)
      (by decide)
    ⟨t, e, k.2.1 (.inr (.inl rfl))⟩⟩

/-- A deck link on which everything waits that may wait. -/
def busyPort : LinkPort := { ready.deck with
  replies := [⟨⟨0x94, 1, [0]⟩, false⟩]
  latches := (ready.deck.latches.set 3 (some ⟨1, 0, 0, true⟩)).set 2 (some ⟨1, 0, 0, false⟩)
  report := some [0]
  notice := some ⟨0x40, 0, []⟩ }

/-- That link, with a completion record beside it. -/
def busyLink (p : LinkPort) : State :=
  { ready with deck := p, motion := { ready.motion with completions := [⟨7, .done, 0, none, 0, false, 0, false⟩] } }

/-- A part whose deck link takes something of what waits. -/
def Feeds (s : State) : Prop := ∃ p c, s.feed .deck = ({ s with motion := { s.motion with completions := c } }).withPort .deck p

theorem witness_TransmitDone (h : Obligations.TransmitDone) :
    (∃ t, exec (.transmitDone .deck) { ready with deck := { ready.deck with sending := some ⟨⟨0xBD, 0, [0]⟩, true⟩ } } = .next t ∧
      t.motion.state = .unthreaded) ∧
      Feeds (busyLink busyPort) ∧ Feeds (busyLink { busyPort with notice := none }) ∧
      Feeds (busyLink { busyPort with notice := none, replies := [] }) ∧
      Feeds { ready with deck := { busyPort with notice := none, replies := [] } } ∧
      Feeds { ready with deck := { ready.deck with report := some [0] } } ∧ ready.feed .service = ready ∧
      (Runs (.transmitDone .service) ready ∧ Runs (.transmitDone .deck) held) ∧ held.feed .deck = held ∧
      ready.handOver.position = ready.position :=
  ⟨let ⟨t, e, k⟩ := ((h.1 { ready with deck := { ready.deck with sending := some ⟨⟨0xBD, 0, [0]⟩, true⟩ } } .deck _ rfl).1 rfl).1 _ rfl;
    ⟨t, e, congrArg (·.state) (k.1 rfl rfl rfl rfl).motion⟩,
    ⟨_, _, (((h.1 (busyLink busyPort) .deck _ rfl).1 rfl).2 rfl).1 _ rfl⟩,
    ⟨_, _, ((((h.1 (busyLink { busyPort with notice := none }) .deck _ rfl).1 rfl).2 rfl).2 rfl).1 _ _ rfl⟩,
    ⟨_, _, (((((h.1 (busyLink { busyPort with notice := none, replies := [] }) .deck _ rfl).1 rfl).2 rfl).2 rfl).2 rfl).1 _ _ rfl
      rfl⟩,
    ⟨_, _, ((((((h.1 { ready with deck := { busyPort with notice := none, replies := [] } } .deck _ rfl).1 rfl).2 rfl).2 rfl).2
      rfl).2 (.inl rfl)).1 3 _ rfl rfl (fun j y l e => by
        match j, l with
        | 0, _ => cases e
        | 1, _ => cases e
        | 2, _ => cases e; rfl)⟩,
    ⟨_, _, (((((((h.1 { ready with deck := { ready.deck with report := some [0] } } .deck _ rfl).1 rfl).2 rfl).2 rfl).2 rfl).2
      (.inl rfl)).2 (fun y e => absurd e (no_latch _ rfl y))).1 _ rfl⟩,
    (((((((h.1 ready .service _ rfl).1 rfl).2 rfl).2 rfl).2 rfl).2 (.inl rfl)).2 (fun y e => absurd e (no_latch _ rfl y))).2 rfl,
    ⟨⟨_, (h.1 ready .service _ rfl).2.1 nofun⟩, _, (h.1 held .deck _ rfl).2.1 nofun⟩,
    (h.1 held .deck _ rfl).2.2 (.inr (by decide)),
    let ⟨_, _, _, e, _⟩ := (h.2 ready).2
    congrArg (·.position) e⟩

/-! ### Counts, windows, rest -/

/-- At the position limit. -/
def atLimit : State := { ready with position := { ready.position with pos := 2000000000 } }

theorem no_zone (s : State) (h : s.zones.entries = List.replicate 8 none) (z : Zone) : some z ∉ s.zones.entries := by
  simp [h]

theorem no_comp (s : State) (h : s.comps = List.replicate 4 none) (c : Comparator) : some c ∉ s.comps := by
  simp [h]

theorem witness_RollerCount (h : Obligations.RollerCount) :
    Runs (.rollerCount .forward) held ∧ Runs (.rollerCount .forward) atLimit ∧ Runs (.rollerCount .reverse) atLimit ∧
      Runs (.rollerCount .forward) { ready with
        zones := { ready.zones with entries := [some ⟨1, 5, .notify, 0, true, none⟩] }
        comps := [some ⟨.watch, none, 1, .reverse, .armed⟩] } :=
  ⟨⟨_, (h held _ _ .forward _ rfl rfl rfl).1 rfl⟩, ⟨_, ((h atLimit _ _ .forward _ rfl rfl rfl).2 (by decide)).1 (by decide)⟩,
    ⟨_, ((h atLimit _ _ .reverse _ rfl rfl rfl).2 (by decide)).2 (by decide) (by decide)
      (fun z e => absurd e (no_zone _ rfl z)) (fun c e => absurd e (no_comp _ rfl c)) ⟨rfl, rfl⟩⟩,
    ⟨_, ((h { ready with
        zones := { ready.zones with entries := [some ⟨1, 5, .notify, 0, true, none⟩] }
        comps := [some ⟨.watch, none, 1, .reverse, .armed⟩] } _ _ .forward _ rfl rfl rfl).2 (by decide)).2 (by decide) (by decide)
      (fun z e => by simp at e; subst e; decide) (fun c e => by simp at e; subst e; decide) ⟨rfl, rfl⟩⟩⟩

/-- A NOTIFY zone one count ahead. -/
def zoneAhead : State := { ready with zones := { ready.zones with entries := [some ⟨1, 5, .notify, 0, false, none⟩] } }

/-- The tape at the base of that zone, inside it. -/
def zoneHere : State := { ready with
  position := { ready.position with pos := 1 }
  zones := { ready.zones with entries := [some ⟨1, 5, .notify, 0, true, none⟩] } }

theorem alone {α : Type} {a : α} {i : Nat} {x : α} (h : i ≠ 0) : [a][i]? ≠ some x := by
  cases i with
  | zero => exact absurd rfl h
  | succ n => simp

theorem witness_ZoneCrossing (h : Obligations.ZoneCrossing) :
    Runs (.rollerCount .forward) zoneAhead ∧ Runs (.rollerCount .reverse) zoneHere :=
  ⟨⟨_, (h zoneAhead .forward _ _ rfl (by decide) (by decide) (by decide) rfl).2 0 _ _ rfl rfl (by decide)
      (fun _ _ l e => absurd e (alone l)) (fun c e => absurd e (no_comp _ rfl c)) rfl ⟨rfl, rfl⟩⟩,
    _, (h zoneHere .reverse _ _ rfl (by decide) (by decide) (by decide) rfl).2 0 _ _ rfl rfl (by decide)
      (fun _ _ l e => absurd e (alone l)) (fun c e => absurd e (no_comp _ rfl c)) rfl ⟨rfl, rfl⟩⟩

theorem witness_ComparatorHits (h : Obligations.ComparatorHits) :
    Runs (.rollerCount .forward) { ready with comps := [some ⟨.watch, none, 1, .either, .armed⟩] } ∧
      Runs (.rollerCount .forward) { moving .winding .wind with
        comps := [some ⟨.move, some 0, 1, .forward, .armed⟩]
        motion := { (moving .winding .wind).motion with queue := [{ someRecord .wind with comp := some 0 }] } } :=
  ⟨⟨_, h.1 { ready with comps := [some ⟨.watch, none, 1, .either, .armed⟩] } _ .forward _ 0 _ rfl (by decide) (by decide) (by decide)
      (fun z e => absurd e (no_zone _ rfl z)) rfl rfl rfl rfl (.inl rfl) (fun _ _ l e => absurd e (alone l)) rfl ⟨rfl, rfl⟩⟩,
    .of (h.2 { moving .winding .wind with
        comps := [some ⟨.move, some 0, 1, .forward, .armed⟩]
        motion := { (moving .winding .wind).motion with queue := [{ someRecord .wind with comp := some 0 }] } } .forward _ 0 _ _ _ rfl
      (by decide) (by decide) (by decide) (fun _ _ l => alone l) rfl rfl rfl rfl rfl rfl rfl
      rfl rfl rfl rfl (by decide) rfl rfl rfl)⟩

/-- A window open on the left reel with a number of counts and of roller counts. -/
def window (angle : Nat) (roll : Int) (streak : Nat) : State := { moving .winding .wind with
  reelL := { ready.reelL with window := some ⟨.forward, angle, roll, 0⟩, streak := streak } }

theorem derived {s : State} {w : Option Window} {n : Nat} (l : s.reelL = { State.reset.reelL with window := w, streak := n })
    (r : s.reelR = State.reset.reelR) (p : s.profile = Config.defaultProfile) (z : s.zones = ZoneTable.fresh) : s.DerivedOk :=
  ⟨by rw [l, p]; exact ⟨rfl, rfl, fun _ => rfl⟩, by rw [r, p]; exact ⟨rfl, rfl, fun _ => rfl⟩, by rw [z, l, p]; rfl,
    by rw [z, r, p]; rfl⟩

theorem witness_ReelCount (h : Obligations.ReelCount) :
    Runs (.reelCount .left .forward) held ∧ Runs (.reelCount .left .forward) State.reset ∧
      Runs (.reelCount .right .forward) (window 0 0 0) ∧ Runs (.reelCount .left .reverse) (window 0 0 0) ∧
      Runs (.reelCount .left .forward) (window 254 0 0) :=
  ⟨⟨_, (h held _ .left .forward rfl).1 rfl⟩, ⟨_, ((h State.reset _ .left .forward rfl).2 (by decide)).1 rfl⟩,
    ⟨_, (((h (window 0 0 0) _ .right .forward rfl).2 (by decide)).2 rfl (derived rfl rfl rfl rfl) _ ready rfl).1 (.inl rfl) ⟨rfl, rfl⟩⟩,
    ⟨_, (((h (window 0 0 0) _ .left .reverse rfl).2 (by decide)).2 rfl (derived rfl rfl rfl rfl) _ ready rfl).1
      (.inr ⟨_, rfl, by decide⟩) ⟨rfl, rfl⟩⟩,
    ⟨_, (((h (window 254 0 0) _ .left .forward rfl).2 (by decide)).2 rfl (derived rfl rfl rfl rfl) _ _ rfl).2 _ rfl rfl (by decide) rfl
      ⟨rfl, rfl⟩⟩⟩

theorem profile_ok {s : State} {w : Option Window} {n : Nat} (l : s.reelL = { State.reset.reelL with window := w, streak := n })
    (r : s.reelR = State.reset.reelR) (p : s.profile = Config.defaultProfile) : s.ProfileOk :=
  have k : Config.defaultProfile.rHub ≤ State.reset.reelL.rEst ∧ State.reset.reelL.rEst ≤ Config.defaultProfile.rFlange := by decide
  ⟨by rw [p]; decide, by rw [l, p]; exact k, by rw [r, p]; exact k⟩

/-- The left reel after a first window of 5,236 roller counts. -/
def measuredReel : Reel := { ready.reelL with
  rEst := 100003
  conf := 1
  inertia := reelInertia Config.defaultProfile 100003
  remaining := reelRemaining Config.defaultProfile 100003 }

theorem witness_WindowClose (h : Obligations.WindowClose) :
    Runs (.reelCount .left .forward) (window 255 5236 2) ∧ Runs (.reelCount .left .forward) (window 255 0 1) ∧
      Runs (.reelCount .left .forward) (window 255 (-10000) 1) ∧ Runs (.reelCount .left .forward) (window 255 0 2) :=
  ⟨⟨_, (h (window 255 5236 2) _ .left .forward _ _ measuredReel (by decide) rfl (derived rfl rfl rfl rfl)
      (profile_ok rfl rfl rfl) rfl rfl rfl rfl rfl).1 (by decide) (by decide) (by decide) rfl _ rfl ⟨rfl, rfl⟩⟩,
    ⟨_, (h (window 255 0 1) _ .left .forward _ _ ready.reelL (by decide) rfl (derived rfl rfl rfl rfl) (profile_ok rfl rfl rfl) rfl rfl rfl rfl
      rfl).2.1 (.inl (by decide)) (by decide) _ rfl ⟨rfl, rfl⟩⟩,
    ⟨_, (h (window 255 (-10000) 1) _ .left .forward _ _ ready.reelL (by decide) rfl (derived rfl rfl rfl rfl) (profile_ok rfl rfl rfl) rfl rfl rfl rfl
      rfl).2.1 (.inr (by decide)) (by decide) _ rfl ⟨rfl, rfl⟩⟩,
    .of ((h (window 255 0 2) _ .left .forward _ _ ready.reelL (by decide) rfl (derived rfl rfl rfl rfl) (profile_ok rfl rfl rfl) rfl rfl rfl rfl
      rfl).2.2.1 (.inl (by decide)) rfl ⟨rfl, rfl, rfl⟩)⟩

/-- SIZING in MEASURE, the left reel at confidence 3 and a count before its fourth window closes, the right reel at 4. -/
def measuring : State :=
  have l : Reel := { ready.reelL with window := some ⟨.forward, 255, 5236, 0⟩, conf := 3 }
  have r : Reel := { ready.reelR with conf := 4 }
  { ready with
    position := { ready.position with atRest := false }
    motion := { ready.motion with state := .sizing, sizing := some ⟨.measure, .size, -500, 0, 0⟩ }
    reelL := l
    reelR := r
    zones := { ready.zones with guardF := guardSpec ready.profile l, guardR := guardSpec ready.profile r } }

theorem witness_WindowClose_sizing (h : Obligations.WindowClose) :
    ∃ t l, exec (.reelCount .left .forward) measuring = .next (State.handOver t) ∧ l.target = -500 ∧ t.motion.locate = some l :=
  have k : Config.defaultProfile.rHub ≤ ready.reelL.rEst ∧ ready.reelL.rEst ≤ Config.defaultProfile.rFlange := by decide
  let ⟨t, l, e, _, g, m, _⟩ := (h measuring _ .left .forward _ _ measuredReel (by decide) rfl
    ⟨⟨rfl, rfl, nofun⟩, ⟨rfl, rfl, nofun⟩, rfl, rfl⟩ ⟨by decide, k, k⟩ rfl rfl rfl rfl rfl).2.2.2 _ (by decide) (by decide) rfl rfl rfl ⟨rfl, rfl, rfl⟩ rfl
    (by decide) (by decide)
  ⟨t, l, e, g, by rw [m]⟩

theorem witness_WindowTimeout (h : Obligations.WindowTimeout) :
    Runs (.windowTimeout .left) (window 255 0 2) ∧ ∃ t, exec (.windowTimeout .left) (window 255 0 2) = .next t ∧
      Runs (.reelCount .left .reverse) t :=
  have k := h (window 255 0 2) _ .left _ rfl rfl
  ⟨⟨_, k.1⟩, _, k.1, _, k.2 .reverse _ (by decide) rfl (derived rfl rfl rfl rfl) rfl ⟨rfl, rfl⟩⟩

/-- A halt with the reference at 0 and no pinch to release. -/
def halting (d : HaltDest) : State := { ready with
  position := { ready.position with atRest := false }
  motion := { ready.motion with state := .halting, halt := some ⟨false, d, true⟩ } }

/-- A LOCATE settling at a target. -/
def settling (target : Int) : State :=
  { moving .winding .locate with motion := { (moving .winding .locate).motion with locate := some ⟨.settle, .forward, target⟩ } }

/-- A LOCATE settling in a direction, its tape one count more than the tolerance from the target, with passes counted. -/
def settlingFar (d : Direction) (past : Bool) (n : Nat) : State :=
  { moving .winding .locate with motion := { (moving .winding .locate).motion with
    active := some { someMove .locate with reversals := n }
    locate := some ⟨.settle, d, dirSign d * (if past then -1 else 1) * (Config.defaultProfile.tolerance + 1)⟩ } }

theorem witness_RestTimerExpiry (h : Obligations.RestTimerExpiry) :
    Runs .restTimerExpiry ready ∧ Runs .restTimerExpiry (moving .winding .wind) ∧
      Runs .restTimerExpiry { moving .winding .wind with motion := { ready.motion with state := .braking } } ∧
      Runs .restTimerExpiry (halting .stopped) ∧ Runs .restTimerExpiry (halting .unthreaded) ∧
      Runs .restTimerExpiry (settling Config.defaultProfile.tolerance) ∧
      (Runs .restTimerExpiry (settlingFar .forward false 3) ∧ Runs .restTimerExpiry (settlingFar .reverse false 0)) ∧
      (Runs .restTimerExpiry (settlingFar .forward true 2) ∧ Runs .restTimerExpiry (settlingFar .reverse true 0)) ∧
      Runs .restTimerExpiry (settlingFar .forward true 3) ∧ Runs .restTimerExpiry (settlingFar .reverse true 3) :=
  have k (d : Direction) (p : Bool) (n : Nat) :=
    h.2.1 (settlingFar d p n) _ _ _ rfl rfl rfl rfl rfl rfl rfl rfl rfl rfl rfl rfl rfl rfl
  ⟨⟨_, (h.1 ready _ rfl).1 rfl⟩, ⟨_, ((h.1 (moving .winding .wind) _ rfl).2 rfl).1 rfl ⟨rfl, rfl⟩⟩,
    .of (((h.1 { moving .winding .wind with motion := { ready.motion with state := .braking } } _ rfl).2 rfl).2.1 rfl rfl),
    .of (((h.1 (halting .stopped) _ rfl).2 rfl).2.2 _ rfl rfl rfl rfl rfl rfl rfl rfl rfl rfl),
    .of (((h.1 (halting .unthreaded) _ rfl).2 rfl).2.2 _ rfl rfl rfl rfl rfl rfl rfl rfl rfl rfl),
    .of ((h.2.1 (settling Config.defaultProfile.tolerance) _ _ _ rfl rfl rfl rfl rfl rfl rfl rfl rfl rfl rfl rfl rfl rfl).1 (by decide)
      (by decide)),
    ⟨.of ((k .forward false 3).2.1 (.inl ⟨rfl, by decide⟩)), .of ((k .reverse false 0).2.1 (.inr ⟨rfl, by decide⟩))⟩,
    ⟨.of (((k .forward true 2).2.2 (.inl ⟨rfl, by decide⟩)).1 (by decide)),
      .of (((k .reverse true 0).2.2 (.inr ⟨rfl, by decide⟩)).1 (by decide))⟩,
    .of (((k .forward true 3).2.2 (.inl ⟨rfl, by decide⟩)).2 rfl (by decide)),
    .of (((k .reverse true 3).2.2 (.inr ⟨rfl, by decide⟩)).2 rfl (by decide))⟩

/-- The RETURN of SIZING settling in a direction, the tape a number of counts past the target, with passes counted. -/
def returning (d : Direction) (past : Int) (n : Nat) : State :=
  { ready with
    position := { ready.position with atRest := false }
    motion := { ready.motion with
      state := .sizing, sizing := some ⟨.returning, .size, -dirSign d * past, 0, n⟩, locate := some ⟨.settle, d, -dirSign d * past⟩ } }

theorem witness_RestTimerExpiry_sizing (h : Obligations.RestTimerExpiry) :
    (Runs .restTimerExpiry (returning .reverse Config.defaultProfile.tolerance 0) ∧
        Runs .restTimerExpiry (returning .forward (-Config.defaultProfile.tolerance) 0)) ∧
      (Runs .restTimerExpiry (returning .reverse (-Config.defaultProfile.tolerance - 1) 3) ∧
        Runs .restTimerExpiry (returning .forward (-Config.defaultProfile.tolerance - 1) 0)) ∧
      (Runs .restTimerExpiry (returning .reverse (Config.defaultProfile.tolerance + 1) 2) ∧
        Runs .restTimerExpiry (returning .forward (Config.defaultProfile.tolerance + 1) 0)) ∧
      Runs .restTimerExpiry (returning .reverse (Config.defaultProfile.tolerance + 1) 3) :=
  have k (d : Direction) (x : Int) (n : Nat) := h.2.2 (returning d x n) _ _ rfl rfl rfl rfl rfl rfl rfl rfl rfl ⟨rfl, rfl, rfl⟩
  ⟨⟨.of ((k _ _ _).1 (by decide)), .of ((k _ _ _).1 (by decide))⟩,
    ⟨.of ((k _ _ _).2.1 (.inr ⟨rfl, by decide⟩)), .of ((k _ _ _).2.1 (.inl ⟨rfl, by decide⟩))⟩,
    ⟨.of (((k _ _ _).2.2 (.inr ⟨rfl, by decide⟩)).1 (by decide)), .of (((k _ _ _).2.2 (.inl ⟨rfl, by decide⟩)).1 (by decide))⟩,
    .of (((k _ _ _).2.2 (.inr ⟨rfl, by decide⟩)).2 rfl)⟩

theorem witness_StepKeepsMoves_locate (h : Obligations.StepKeepsMoves) :
    ∃ t, step (settlingFar .forward true 2) = .next t ∧ t.MovesOk :=
  ⟨_, rfl, h (settlingFar .forward true 2) _ ⟨fun _ e => by cases e; exact ⟨_, _, rfl, rfl, rfl⟩, by decide, by decide, by decide, by decide,
    by decide, by decide, by decide, by decide, by decide, by decide, fun _ => .inr ⟨.inl rfl, _, rfl, .inl rfl⟩, nofun⟩ rfl⟩

/-! ### Timecode words, samples, input lines -/

/-- The tape at play speed, with an anchor and a chain. -/
def atSpeed (a : Option Anchor) (c : Chain) : State := { playing .playing .play with
  position := { (playing .playing .play).position with anchor := a, chain := c }
  speed := { ready.speed with v := 381000 } }

theorem unusable (s : State) (w : BcdTime) (rev : Bool) (h : timecodeFrames s.profile w = none) :
    False ↔ (timecodeFrames s.profile w).isSome = true ∧ (s.profile.vPlay : Int) ≤ 10 * |s.speed.v| ∧
      |s.speed.v| ≤ 10 * s.profile.vPlay ∧ (rev = false → 0 < s.speed.v) ∧ (rev = true → s.speed.v < 0) := by simp [h]

theorem usable_word (a : Option Anchor) (c : Chain) (w : BcdTime) (h : (timecodeFrames Config.defaultProfile w).isSome = true) :
    True ↔ (timecodeFrames (atSpeed a c).profile w).isSome = true ∧ ((atSpeed a c).profile.vPlay : Int) ≤ 10 * |(atSpeed a c).speed.v| ∧
      |(atSpeed a c).speed.v| ≤ 10 * (atSpeed a c).profile.vPlay ∧ (false = false → 0 < (atSpeed a c).speed.v) ∧
      (false = true → (atSpeed a c).speed.v < 0) :=
  ⟨fun _ => ⟨h, by show (381000 : Int) ≤ 10 * |381000|; decide, by show |(381000 : Int)| ≤ 10 * 381000; decide,
    fun _ => by show (0 : Int) < 381000; decide, nofun⟩, fun _ => trivial⟩

theorem witness_TapeTimecodeWord (h : Obligations.TapeTimecodeWord) :
    Runs (.tapeTimecodeWord ⟨0x24, 0, 0, 0⟩ false) (atSpeed none ⟨2, 0, .forward⟩) ∧
      Runs (.tapeTimecodeWord ⟨0, 0, 0, 2⟩ false) (atSpeed (some ⟨.preset, 0, 1⟩) ⟨2, 0, .forward⟩) ∧
      Runs (.tapeTimecodeWord ⟨0, 0, 0, 3⟩ false) (atSpeed (some ⟨.preset, 0, 1⟩) ⟨1, 2, .forward⟩) ∧
      Runs (.tapeTimecodeWord ⟨0, 0, 0, 3⟩ false) (atSpeed none ⟨2, 2, .forward⟩) ∧
      Runs (.tapeTimecodeWord ⟨0, 0, 0, 3⟩ false) (atSpeed (some ⟨.preset, 0, 1⟩) ⟨2, 2, .forward⟩) :=
  ⟨⟨_, (h (atSpeed none ⟨2, 0, .forward⟩) ⟨0x24, 0, 0, 0⟩ false False _ rfl (unusable _ _ _ (by decide))).1 id⟩,
    ⟨_, ((h (atSpeed (some ⟨.preset, 0, 1⟩) ⟨2, 0, .forward⟩) ⟨0, 0, 0, 2⟩ false True _ rfl (usable_word _ _ _ (by decide))).2 2
      trivial (by decide)).1 _ 1 rfl (by decide) (by decide)⟩,
    ⟨_, (((h (atSpeed (some ⟨.preset, 0, 1⟩) ⟨1, 2, .forward⟩) ⟨0, 0, 0, 3⟩ false True _ rfl (usable_word _ _ _ (by decide))).2 3
      trivial (by decide)).2 2 (fun a fp e g => by cases e; subst g; decide) (by decide)).1 (by decide)⟩,
    ⟨_, ((((h (atSpeed none ⟨2, 2, .forward⟩) ⟨0, 0, 0, 3⟩ false True _ rfl (usable_word _ _ _ (by decide))).2 3
      trivial (by decide)).2 3 (fun a fp e g => by cases e) (by decide)).2 (by decide) _ rfl).1 rfl⟩,
    ⟨_, ((((h (atSpeed (some ⟨.preset, 0, 1⟩) ⟨2, 2, .forward⟩) ⟨0, 0, 0, 3⟩ false True _ rfl (usable_word _ _ _ (by decide))).2 3
      trivial (by decide)).2 3 (fun a fp e g => by cases e; subst g; decide) (by decide)).2 (by decide) _ rfl).2 _ 1 rfl
      (by decide)⟩⟩

/-- The converter at a slot. -/
def atSlot (p : Nat) : State := { ready with conv := { ready.conv with ptr := p } }

/-- A schedule with an IDLE slot pointed at and another waiting. -/
def idleSlot : State :=
  { ready with conv := { ready.conv with schedule := List.replicate 16 .idle, pendingSchedule := some defaultSchedule } }

/-- A motor's mismatch counter and the supply counter one below their ends. -/
def nearFault (p : Nat) : State := { atSlot p with faults := { ready.faults with mismL := 63, mismC := 62, supply := 15 } }

theorem witness_ConversionComplete (h : Obligations.ConversionComplete) :
    Runs (.conversionComplete 0) held ∧ Runs (.conversionComplete 0) idleSlot ∧
      (Runs (.conversionComplete 4095) (nearFault 8) ∧ Runs (.conversionComplete 4095) (nearFault 2)) ∧
      Runs (.conversionComplete 4095) (nearFault 15) ∧ Runs (.conversionComplete 0) (nearFault 15) :=
  ⟨⟨_, (h held 0 held.conv).1 rfl⟩, ⟨_, ((h idleSlot 0 _).2 (by decide) rfl).1 _ rfl rfl ⟨rfl, rfl⟩⟩,
    ⟨⟨_, (((h (nearFault 8) 4095 _).2 (by decide) rfl).2.1 .capstan _ _ 62 63 _ _ _ rfl rfl rfl (by decide) rfl).1 (by decide)
      ⟨rfl, rfl⟩⟩,
      .of ((((h (nearFault 2) 4095 _).2 (by decide) rfl).2.1 .left _ _ 63 64 _ _ _ rfl rfl rfl (by decide) rfl).2 rfl (by decide))⟩,
    ⟨_, (((h (nearFault 15) 4095 _).2 (by decide) rfl).2.2 0 _ rfl (by decide) rfl).1 (by decide) ⟨rfl, rfl⟩⟩,
    .of ((((h (nearFault 15) 0 _).2 (by decide) rfl).2.2 16 _ rfl (by decide) rfl).2 rfl (by decide))⟩

/-- The left arm one sample before the end of a run. -/
def armRun (a : Arm) : State := { ready with armL := a }

/-- In UNTHREADED, where a SLACK or OVER arm calls for nothing. -/
def armOut (a : Arm) : State := { State.reset with armL := a }

/-- The left arm one sample before SLACK and OVER, in a transport state under a HOLD, the other arm in a state. -/
def slackening (x : Transport) (set : List FaultKind) (o : TensionState) : State :=
  { moving x .hold with
    armL := ⟨120, .normal, Config.defaultProfile.nSlack - 1, Config.defaultProfile.nOver - 1, 0⟩
    armR := ⟨0, o, 0, 0, 0⟩
    faults := { ready.faults with set := set }
    motion := if x = .halting then { ready.motion with state := x, halt := some ⟨false, .stopped, true⟩ } else (moving x .hold).motion }

theorem slackening_ok (x : Transport) (set : List FaultKind) (o : TensionState)
    (e : (x = .winding ∧ set = []) ∨ (x = .playing ∧ set = []) ∨ (x = .halting ∧ set = [.slackLoop]) ∨ (x = .stopped ∧ set = [])) :
    (slackening x set o).MovesOk := by
  rcases e with ⟨rfl, rfl⟩ | ⟨rfl, rfl⟩ | ⟨rfl, rfl⟩ | ⟨rfl, rfl⟩ <;> cases o <;>
    exact ⟨fun _ e => by cases e <;> exact ⟨_, _, rfl, rfl, rfl⟩, by decide, by decide, by decide, by decide, by decide, by decide,
      by decide, by decide, by decide, by decide, by decide, by decide⟩

theorem witness_ArmSample (h : Obligations.ArmSample) :
    (Runs (.conversionComplete 2048) (armRun ⟨0, .normal, 0, 0, 0⟩) ∧
      Runs (.conversionComplete 0) (armOut ⟨0, .normal, Config.defaultProfile.nSlack - 1, 0, 0⟩) ∧
      Runs (.conversionComplete 4095) (armOut ⟨0, .normal, 0, Config.defaultProfile.nOver - 1, 0⟩)) ∧
      Runs (.conversionComplete 4095) (armOut ⟨0, .slack, 0, 0, Config.defaultProfile.nClear - 2⟩) ∧
      Runs (.conversionComplete 4095) (armOut ⟨0, .slack, 0, 0, Config.defaultProfile.nClear - 1⟩) ∧
      ((Runs (.conversionComplete 0) (slackening .winding [] .normal) ∧ Runs (.conversionComplete 0) (slackening .playing [] .slack) ∧
        Runs (.conversionComplete 0) (slackening .halting [.slackLoop] .slack) ∧
        Runs (.conversionComplete 0) (slackening .stopped [] .normal)) ∧
      Runs (.conversionComplete 4095) (slackening .winding [] .normal)) :=
  have k (s : State) := h s
  ⟨⟨⟨_, ((k (armRun ⟨0, .normal, 0, 0, 0⟩) _ .left 2048 _ _ _ _ (by decide) rfl rfl rfl rfl rfl rfl rfl).1 _ _ rfl rfl rfl).1 (by decide)
      (by decide) rfl ⟨rfl, rfl⟩⟩,
      ⟨_, ((k (armOut ⟨0, .normal, Config.defaultProfile.nSlack - 1, 0, 0⟩) _ .left 0 _ _ _ _ (by decide) rfl rfl rfl rfl rfl rfl
        rfl).1 _ _ rfl rfl rfl).2.1 (by decide) rfl _ rfl ⟨rfl, rfl⟩⟩,
      ⟨_, ((k (armOut ⟨0, .normal, 0, Config.defaultProfile.nOver - 1, 0⟩) _ .left 4095 _ _ _ _ (by decide) rfl rfl rfl rfl rfl rfl
        rfl).1 _ _ rfl rfl rfl).2.2 (by decide) (by decide) rfl _ rfl ⟨rfl, rfl⟩⟩⟩,
    ⟨_, ((k (armOut ⟨0, .slack, 0, 0, Config.defaultProfile.nClear - 2⟩) _ .left 4095 _ _ _ _ (by decide) rfl rfl rfl rfl rfl rfl
        rfl).2.1 _ (by decide) rfl).1 (by decide) rfl ⟨rfl, rfl⟩⟩,
    ⟨_, ((k (armOut ⟨0, .slack, 0, 0, Config.defaultProfile.nClear - 1⟩) _ .left 4095 _ _ _ _ (by decide) rfl rfl rfl rfl rfl rfl
        rfl).2.1 _ (by decide) rfl).2 (by decide) rfl _ rfl ⟨rfl, rfl⟩⟩,
    ⟨.of ((((k (slackening .winding [] .normal) _ .left 0 _ _ ⟨0, .slack, 0, 0, 0⟩ _ (by decide) rfl rfl rfl rfl rfl rfl rfl).2.2.1 _ _ _ (slackening_ok _ _ _
      (.inl ⟨rfl, rfl⟩)) rfl rfl rfl rfl rfl).1 (by decide)).1 (.inl rfl) rfl |>.1 rfl),
      .of ((((k (slackening .playing [] .slack) _ .left 0 _ _ ⟨0, .slack, 0, 0, 0⟩ _ (by decide) rfl rfl rfl rfl rfl rfl rfl).2.2.1 _ _ _ (slackening_ok _ _ _
        (.inr (.inl ⟨rfl, rfl⟩))) rfl rfl rfl rfl rfl).1 (by decide)).1 (.inr (.inr (.inl rfl))) rfl |>.2 rfl),
      .of ((((k (slackening .halting [.slackLoop] .slack) _ .left 0 _ _ ⟨0, .slack, 0, 0, 0⟩ _ (by decide) rfl rfl rfl rfl rfl rfl rfl).2.2.1 _ _ _
        (slackening_ok _ _ _ (.inr (.inr (.inl ⟨rfl, rfl⟩)))) rfl rfl rfl rfl rfl).1 (by decide)).2.1 rfl rfl rfl),
      .of ((((k (slackening .stopped [] .normal) _ .left 0 _ _ ⟨0, .slack, 0, 0, 0⟩ _ (by decide) rfl rfl rfl rfl rfl rfl rfl).2.2.1 _ _ _ (slackening_ok _ _ _
        (.inr (.inr (.inr ⟨rfl, rfl⟩)))) rfl rfl rfl rfl rfl).1 (by decide)).2.2 _ _ rfl rfl (by decide) rfl rfl (by decide))⟩,
    .of (((k (slackening .winding [] .normal) _ .left 4095 _ _ ⟨0, .slack, 0, 0, 0⟩ _ (by decide) rfl rfl rfl rfl rfl rfl rfl).2.2.1 _ _ _ (slackening_ok _ _ _
      (.inl ⟨rfl, rfl⟩)) rfl rfl rfl rfl rfl).2 (by decide) (by decide) (by decide) rfl rfl)⟩

/-- SIZING in a phase, the left arm one sample before the end of its state, the right arm NORMAL. -/
def sizingArm (p : SizingPhase) (v : SizingVariant) (x : TensionState) : State :=
  { ready with
    position := { ready.position with atRest := false }
    armL := ⟨0, x, Config.defaultProfile.nSlack - 1, 0, Config.defaultProfile.nClear - 1⟩
    motion := { ready.motion with state := .sizing, sizing := some ⟨p, v, 0, 0, 0⟩ } }

theorem witness_ArmSample_sizing (h : Obligations.ArmSample) :
    (Runs (.conversionComplete 0) (sizingArm .measure .size .normal) ∧ Runs (.conversionComplete 0) (sizingArm .returning .size .normal)) ∧
      Runs (.conversionComplete 4095) (sizingArm .threadCheck .size .slack) ∧
      Runs (.conversionComplete 4095) (sizingArm .threadCheck .wake .slack) :=
  have k (p : SizingPhase) (v : SizingVariant) (x : TensionState) (raw : BitVec 12) :=
    (h (sizingArm p v x) _ .left raw _ _ ⟨0, .slack, 0, 0, 0⟩ _ (show StartPhase.running ≠ .held by decide) rfl rfl rfl rfl rfl rfl rfl).2.2.2 _ _ _ _ _ rfl rfl rfl rfl
      rfl rfl rfl rfl (.inl rfl) rfl rfl
  ⟨⟨.of ((k .measure .size .normal 0).1 (by decide) rfl (by decide) rfl), .of ((k .returning .size .normal 0).1 (by decide) rfl (by decide) rfl)⟩,
    .of (((k .threadCheck .size .slack 4095).2 rfl (by decide) (by decide)).1 rfl (.inl (by decide))),
    .of (((k .threadCheck .wake .slack 4095).2 rfl (by decide) (by decide)).2 rfl)⟩

/-- STANDBY with the watch's left counter at 3, ARM_MOVED enabled on the deck. -/
def standby : State := { inState .standby with
  watch := some ⟨0, 0, 3, 0⟩
  deck := { ready.deck with mask := 0xFFFF } }

theorem witness_StandbyWatch (h : Obligations.StandbyWatch) :
    (Runs (.conversionComplete (BitVec.ofNat 12 Config.defaultProfile.wakeDelta)) standby ∧
      Runs (.conversionComplete 4095) { standby with conv := { ready.conv with ptr := 1 } }) ∧
      Runs (.conversionComplete 4095) standby ∧ Runs (.conversionComplete 4095) { inState .standby with watch := some ⟨0, 0, 3, 0⟩ } :=
  ⟨⟨.of ((h standby .left (BitVec.ofNat 12 Config.defaultProfile.wakeDelta) _ _ _ (by decide) rfl rfl rfl rfl).1 0 (by decide)
      (by decide)),
    .of ((h { standby with conv := { ready.conv with ptr := 1 } } .right 4095 _ _ _ (by decide) rfl rfl rfl rfl).1 1 (by decide)
      (by decide))⟩,
    .of ((h standby .left 4095 _ _ _ (by decide) rfl rfl rfl rfl).2 (by decide) (by decide)),
    .of ((h { inState .standby with watch := some ⟨0, 0, 3, 0⟩ } .left 4095 _ _ _ (by decide) rfl rfl rfl rfl).2 (by decide) (by decide))⟩

theorem moving_ok : (moving .winding .wind).MovesOk :=
  ⟨fun _ e => by cases e; exact ⟨_, _, rfl, rfl, rfl⟩, by decide, by decide, by decide, by decide, by decide, by decide, by decide,
    by decide, by decide, by decide, nofun, nofun⟩

/-- DRIVE_L latched in BRAKING. -/
def braking : State := { moving .winding .wind with
  motion := { ready.motion with state := .braking, brakeRelease := false }
  faults := { ready.faults with set := [.driveL] } }

/-- PLAYING with the slip timer running; ENGAGING with the pinch timer running; SIZING in MEASURE. -/
def slipping : State := { playing .playing .play with faults := { ready.faults with slip := some 5 } }

def engaging (k : MoveKind) : State :=
  { playing .engaging k with motion := { (playing .engaging k).motion with pinchCmd := true, pinchTimer := some 0 } }

def sizing (p : SizingPhase) : State :=
  { moving .winding .wind with motion := { ready.motion with state := .sizing, sizing := some ⟨p, .size, 0, 0, 0⟩ } }

theorem slipping_ok : slipping.MovesOk :=
  ⟨fun _ e => by cases e; exact ⟨_, _, rfl, rfl, rfl⟩, by decide, by decide, by decide, by decide, by decide, by decide, by decide,
    by decide, by decide, by decide, nofun, nofun⟩

theorem engaging_ok : (engaging .play).MovesOk :=
  ⟨fun _ e => by cases e; exact ⟨_, _, rfl, rfl, rfl⟩, by decide, by decide, by decide, by decide, by decide, by decide, by decide,
    by decide, by decide, by decide, nofun, nofun⟩

theorem sizing_ok : (sizing .measure).MovesOk :=
  ⟨nofun, by decide, by decide, by decide, by decide, by decide, by decide, by decide, by decide, by decide, by decide, nofun, nofun⟩

theorem witness_ClassAInputs (h : Obligations.ClassAInputs) :
    Runs (.driveFaultInput .left false) ready ∧ Runs (.supplyWarningInput true) State.reset ∧
      Runs (.driveFaultInput .left true) braking ∧ Runs (.supplyWarningInput true) (moving .winding .wind) ∧
      Runs (.driveFaultInput .capstan true) (moving .winding .wind) ∧ Runs (.driveFaultInput .right true) (sizing .measure) :=
  ⟨⟨_, (h ready _ (.driveFaultInput .left false) false false .driveL ⟨false, false, false, false, false⟩ (by decide) rfl).1 (.inl rfl)⟩,
    ⟨_, (h State.reset _ (.supplyWarningInput true) true false .supplyLow ⟨false, false, false, true, false⟩ (by decide) rfl).1 (.inr (.inr (.inr rfl)))⟩,
    ⟨_, ((h braking _ (.driveFaultInput .left true) true false .driveL ⟨true, false, false, false, false⟩ (by decide) rfl).2 rfl rfl (.inr rfl)).1 (by decide)
      ⟨rfl, rfl⟩⟩,
    .of (((h (moving .winding .wind) _ (.supplyWarningInput true) true false .supplyLow ⟨false, false, false, true, false⟩
      (by decide) rfl).2 rfl rfl (.inr rfl)).2
      (by decide) (by decide) (by decide) moving_ok),
    .of (((h (moving .winding .wind) _ (.driveFaultInput .capstan true) true false .driveC ⟨false, false, true, false, false⟩
      (by decide) rfl).2 rfl rfl (.inr rfl)).2
      (by decide) (by decide) (by decide) moving_ok),
    .of (((h (sizing .measure) _ (.driveFaultInput .right true) true false .driveR ⟨false, true, false, false, false⟩
      (by decide) rfl).2 rfl rfl (.inr rfl)).2
      (by decide) (by decide) (by decide) sizing_ok)⟩

theorem witness_ClassBTimeouts (h : Obligations.ClassBTimeouts) :
    Runs .rollerSlipTimeout ready ∧ Runs .pinchTimeout ready ∧ Runs .measureTimeout (sizing .threadCheck) ∧
      Runs .rollerSlipTimeout slipping ∧ Runs .pinchTimeout (engaging .play) ∧ Runs .measureTimeout (sizing .measure) :=
  ⟨⟨_, (h ready).1 rfl⟩, ⟨_, (h ready).2.1 rfl⟩, ⟨_, (h (sizing .threadCheck)).2.2.1 (fun z e => by cases e; decide)⟩,
    .of (((h slipping).2.2.2 slipping_ok rfl rfl rfl rfl).1 5 rfl rfl),
    .of (((h (engaging .play)).2.2.2 engaging_ok rfl rfl rfl rfl).2.1 0 rfl (.inl rfl)),
    .of (((h (sizing .measure)).2.2.2 sizing_ok rfl rfl rfl rfl).2.2 _ rfl rfl)⟩

/-! ### The servo and reference updates -/

theorem witness_ServoSpeed (h : Obligations.ServoSpeed) :
    Runs .reelServoUpdate State.reset ∧ Runs .reelServoUpdate (moving .winding .wind) :=
  ⟨⟨_, (h State.reset _ _ rfl rfl).1 rfl⟩, .of ((h (moving .winding .wind) _ _ rfl rfl).2 rfl)⟩

/-- The left reel 39 clamped updates on. -/
def saturated (accel : Nat) : State := { moving .winding .wind with
  reelL := { ready.reelL with sat := 39 }
  motion := { (moving .winding .wind).motion with active := some { someMove .wind with accel := accel, tension := 1500 } }
  profile := { ready.profile with tauL := 100 } }

theorem witness_ServoTorque (h : Obligations.ServoTorque) :
    (∃ t : State, exec .reelServoUpdate (moving .winding .wind) = .next t.handOver ∧ t.reelR.sat = 0) ∧
      ∃ t : State, exec .reelServoUpdate (saturated 2000) = .next t.handOver ∧ t.motion.active.map (·.accel) = some 1000 :=
  have k : ∀ (s t : State), exec .reelServoUpdate s = .next t.handOver → t.speed.aCmd = (match exec .reelServoUpdate s with
    | .next u => u.speed.aCmd
    | _ => 0) := fun s t e => by rw [e]; exact congrArg (·.aCmd) (handOver_speed (s := t)).symm
  ⟨let ⟨t, e, g⟩ := h (moving .winding .wind) .right _ _ 1500 120 0 390 390 rfl rfl rfl rfl
    have a := g (by rw [k _ _ e]; rfl) (by decide) (by decide)
    ⟨t, e, by rw [show t.reelR = t.reel .right from rfl, a.1]; rfl⟩,
    let ⟨t, e, g⟩ := h (saturated 2000) .left _ _ 100 120 0 1525 100 rfl rfl rfl rfl
    have a := g (by rw [k _ _ e]; rfl) (by decide) (by decide)
    ⟨t, e, by rw [((a.2 (by decide)).2 (by decide) (by decide)).1]; rfl⟩⟩

theorem witness_CapstanServo (h : Obligations.CapstanServo) :
    Runs (.capstanCount .forward) held ∧ Runs .capstanUpdate (moving .winding .wind) ∧ Runs .capstanUpdate (moving .winding .play) :=
  ⟨⟨_, h.1 held .forward⟩, ⟨_, h.2 (moving .winding .wind) _ _ _ _ _ rfl rfl rfl rfl rfl⟩,
    _, h.2 (moving .winding .play) _ _ _ _ _ rfl rfl rfl rfl rfl⟩

/-- The reference of a moving tape, and the phase of its locate. -/
def withRef (s : State) (v : Int) (l : Option LocateCtx) : State := { s with motion := { s.motion with vRef := v, locate := l } }

theorem witness_ReferenceUpdate (h : Obligations.ReferenceUpdate) :
    ((∃ t : State, exec .referenceUpdate State.reset = .next t.handOver ∧ t.motion.vRef = 0) ∧
      (∃ t : State, exec .referenceUpdate (withRef (moving .winding .wind) 10000000 none) = .next t.handOver ∧ t.motion.vRef.natAbs ≤ 10000000) ∧
      (∃ t : State, exec .referenceUpdate (withRef (halting .stopped) 751 none) = .next t.handOver ∧ t.motion.vRef = 1) ∧
      (∃ t : State, exec .referenceUpdate (withRef (inState .stopped) (-501) none) = .next t.handOver ∧ t.motion.vRef = -1) ∧
      (∃ t : State, exec .referenceUpdate (withRef (engaging .play) 381000 none) = .next t.handOver ∧ t.motion.vRef = 381000)) ∧
      ((∃ t : State, exec .referenceUpdate (withRef (playing .playing .play) 381000 none) = .next t.handOver ∧ t.motion.vRef = 381000) ∧
      (∃ t : State, exec .referenceUpdate (withRef (playing .playing .hold) 501 none) = .next t.handOver ∧ t.motion.vRef = 1)) ∧
      (∃ t : State, exec .referenceUpdate (moving .winding .wind) = .next t.handOver ∧ t.motion.vRef = 500) ∧
      (∃ t : State, exec .referenceUpdate (withRef (moving .winding .locate) 0 (some ⟨.run, .reverse, -100000⟩)) = .next t.handOver ∧
        t.motion.vRef = -500) ∧
      (∃ t : State, exec .referenceUpdate (withRef (moving .winding .locate) 0 (some ⟨.creep, .forward, 1⟩)) = .next t.handOver ∧ t.motion.vRef = 500) ∧
      ∃ t : State, exec .referenceUpdate (withRef (moving .winding .locate) 1 (some ⟨.settle, .forward, -6⟩)) = .next t.handOver ∧ t.motion.vRef = 0 :=
  ⟨⟨let ⟨t, e, _, _, g, _⟩ := h State.reset
    ⟨t, e, (g rfl).1⟩,
    let ⟨t, e, _, _, _, g, _⟩ := h (withRef (moving .winding .wind) 10000000 none)
    ⟨t, e, (g (by decide)).1⟩,
    let ⟨t, e, _, _, _, _, g⟩ := h (withRef (halting .stopped) 751 none)
    ⟨t, e, (g 0 3000 rfl rfl (.inl ⟨rfl, rfl, rfl⟩)).1.trans (by decide)⟩,
    let ⟨t, e, _, _, _, _, g⟩ := h (withRef (inState .stopped) (-501) none)
    ⟨t, e, (g 0 2000 rfl rfl (.inr (.inl ⟨rfl, rfl, rfl⟩))).1.trans (by decide)⟩,
    let ⟨t, e, _, _, _, _, g⟩ := h (withRef (engaging .play) 381000 none)
    ⟨t, e, (g 381000 0 rfl rfl (.inr (.inr (.inl ⟨.inl rfl, rfl⟩)))).1.trans (by decide)⟩⟩,
    ⟨let ⟨t, e, _, _, _, _, g⟩ := h (withRef (playing .playing .play) 381000 none)
    ⟨t, e, (g 381000 2000 rfl rfl (.inr (.inr (.inr (.inl ⟨_, rfl, rfl, rfl, rfl⟩))))).1.trans (by decide)⟩,
    let ⟨t, e, _, _, _, _, g⟩ := h (withRef (playing .playing .hold) 501 none)
    ⟨t, e, (g 0 2000 rfl rfl (.inr (.inr (.inr (.inl ⟨_, rfl, rfl, rfl, rfl⟩))))).1.trans (by decide)⟩⟩,
    (let ⟨t, e, _, _, _, _, g⟩ := h (moving .winding .wind)
    ⟨t, e, (g 9000000 2000 rfl rfl (.inr (.inr (.inr (.inr ⟨_, 9000000, rfl, rfl, rfl, rfl, no_zone _ rfl, rfl, rfl, rfl,
      .inl ⟨rfl, .inl ⟨rfl, rfl, rfl⟩⟩⟩))))).1.trans (by decide)⟩),
    (let ⟨t, e, _, _, _, _, g⟩ := h (withRef (moving .winding .locate) 0 (some ⟨.run, .reverse, -100000⟩))
    ⟨t, e, (g (-9000000) 2000 rfl rfl (.inr (.inr (.inr (.inr ⟨_, 9000000, rfl, rfl, rfl, rfl, no_zone _ rfl, rfl, rfl, rfl,
      .inr ⟨_, -1, 100000, 0, rfl, rfl, rfl, rfl, rfl, by decide, by decide, .inl ⟨rfl, by decide, rfl⟩⟩⟩))))).1.trans (by decide)⟩),
    (let ⟨t, e, _, _, _, _, g⟩ := h (withRef (moving .winding .locate) 0 (some ⟨.creep, .forward, 1⟩))
    ⟨t, e, (g 50000 2000 rfl rfl (.inr (.inr (.inr (.inr ⟨_, 9000000, rfl, rfl, rfl, rfl, no_zone _ rfl, rfl, rfl, rfl,
      .inr ⟨_, 1, 1, 0, rfl, rfl, rfl, rfl, rfl, by decide, by decide, .inr (.inl ⟨.inr ⟨rfl, .inl (by decide)⟩, by decide⟩)⟩⟩))))).1.trans
        (by decide)⟩),
    let ⟨t, e, _, _, _, _, g⟩ := h (withRef (moving .winding .locate) 1 (some ⟨.settle, .forward, -6⟩))
    ⟨t, e, (g 0 2000 rfl rfl (.inr (.inr (.inr (.inr ⟨_, 9000000, rfl, rfl, rfl, rfl, no_zone _ rfl, rfl, rfl, rfl,
      .inr ⟨_, 1, -6, 1, rfl, rfl, rfl, rfl, rfl, by decide, by decide, .inr (.inr ⟨.inl rfl, rfl⟩)⟩⟩))))).1.trans (by decide)⟩⟩

theorem witness_ZoneCeilings (h : Obligations.ZoneCeilings) :
    ∃ t : State, exec .referenceUpdate { moving .winding .wind with zones := { ready.zones with
      entries := [some ⟨-5, 0, .slow, 500000, true, none⟩, some ⟨1, 9, .barrier, 0, false, none⟩] } } = .next t.handOver ∧
      t.zones.ceilF = some 0 ∧ t.zones.ceilR = some 500000 :=
  let ⟨t, e, f, r⟩ := h { moving .winding .wind with zones := { ready.zones with
    entries := [some ⟨-5, 0, .slow, 500000, true, none⟩, some ⟨1, 9, .barrier, 0, false, none⟩] } } _ _ rfl rfl (by decide) (fun _ => rfl)
  ⟨t, e, f.trans (by decide +kernel), r.trans (by decide +kernel)⟩

/-- A zone table with one entry, and a guard. -/
def facing (s : State) (z : Option Zone) (guard : Option Nat) : State := { s with zones := { s.zones with entries := [z], guardF := guard } }

/-- A LOCATE at rest within its tolerance, in RUN, with a BARRIER a number of counts ahead in its direction. -/
def stopped (d : Direction) (x : Int) : State :=
  facing (withRef (moving .winding .locate) 0 (some ⟨.run, d, (moving .winding .locate).position.pos⟩))
    (some (match d with
      | .forward => ⟨(moving .winding .locate).position.pos + x, (moving .winding .locate).position.pos + 500, .barrier, 0, false, none⟩
      | .reverse => ⟨(moving .winding .locate).position.pos - 500, (moving .winding .locate).position.pos - x, .barrier, 0, false,
        none⟩)) none

/-- A LOCATE past its target by one count more than the tolerance. -/
def overrun (n : Nat) : State :=
  { withRef (moving .winding .locate) 0 (some ⟨.run, .forward, 0⟩) with
    position := { (moving .winding .locate).position with pos := Config.defaultProfile.tolerance + 1 }
    motion := { (withRef (moving .winding .locate) 0 (some ⟨.run, .forward, 0⟩)).motion with
      active := some { someMove .locate with reversals := n } } }

theorem witness_UpdateEnds (h : Obligations.UpdateEnds) :
    (Runs .referenceUpdate (facing (moving .winding .wind) none (some 0)) ∧
      Runs .referenceUpdate (facing (moving .winding .wind) (some ⟨-5, 5, .barrier, 0, true, some .reverse⟩) none)) ∧
      (Runs .referenceUpdate (facing (withRef (playing .playing .play) 381000 none) none (some 381000)) ∧
      Runs .referenceUpdate (facing (withRef (playing .playing .play) 381000 none) (some ⟨410, 420, .barrier, 0, false, none⟩) none)) ∧
      Runs .referenceUpdate { withRef (moving .winding .play) 381000 none with speed := { ready.speed with v := 381000 } } ∧
      (Runs .referenceUpdate (overrun 2) ∧ Runs .referenceUpdate (overrun 3)) ∧
      Runs .referenceUpdate (stopped .forward 1) ∧ Runs .referenceUpdate (stopped .reverse Config.defaultProfile.tolerance) :=
  have calm (s : State) (a : s.armL.state = .normal) (b : s.armR.state = .normal) (c : s.faults.set = []) : s.Calm := ⟨a, b, c⟩
  ⟨⟨.of ((h (facing (moving .winding .wind) none (some 0)) _ _ _ (calm _ rfl rfl rfl) rfl rfl (by decide) rfl rfl rfl rfl rfl).1 .forward
      _ rfl rfl rfl rfl rfl rfl (.inl rfl)),
    .of ((h (facing (moving .winding .wind) (some ⟨-5, 5, .barrier, 0, true, some .reverse⟩) none) _ _ _ (calm _ rfl rfl rfl) rfl rfl
      (by decide) rfl rfl rfl rfl rfl).1 .forward _ rfl rfl rfl rfl rfl rfl
      (.inr ⟨_, List.mem_singleton.2 rfl, rfl, rfl, by decide, by decide⟩))⟩,
    ⟨.of (((h (facing (withRef (playing .playing .play) 381000 none) none (some 381000)) _ _ _ (calm _ rfl rfl rfl) rfl rfl (by decide) rfl
      rfl rfl rfl rfl).2.1 rfl rfl rfl rfl rfl (by decide) (by decide)).1 _ rfl (by decide)),
    .of (((h (facing (withRef (playing .playing .play) 381000 none) (some ⟨410, 420, .barrier, 0, false, none⟩) none) _ _ _
      (calm _ rfl rfl rfl) rfl rfl (by decide) rfl rfl rfl rfl rfl).2.1 rfl rfl rfl rfl rfl (by decide) (by decide)).2 _ rfl
      (List.mem_singleton.2 rfl) rfl rfl (by decide) (by decide) (by decide) (by decide))⟩,
    .of (((h { withRef (moving .winding .play) 381000 none with speed := { ready.speed with v := 381000 } } _ _ _ (calm _ rfl rfl rfl) rfl
      rfl (by decide) rfl rfl rfl rfl rfl).2.2.1 (no_zone _ rfl) rfl rfl rfl).1 rfl rfl rfl (by decide) (by decide) (by decide) (by decide)),
    ⟨.of ((((h (overrun 2) _ _ _ (calm _ rfl rfl rfl) rfl rfl (by decide) rfl rfl rfl rfl rfl).2.2.1 (no_zone _ rfl) rfl rfl rfl).2 _ rfl rfl
      (fun _ => by decide) nofun).1 (by decide)),
    .of ((((h (overrun 3) _ _ _ (calm _ rfl rfl rfl) rfl rfl (by decide) rfl rfl rfl rfl rfl).2.2.1 (no_zone _ rfl) rfl rfl rfl).2 _ rfl rfl
      (fun _ => by decide) nofun).2 rfl)⟩,
    .of ((h (stopped .forward 1) _ _ _ (calm _ rfl rfl rfl) rfl rfl (by decide) rfl rfl rfl rfl rfl).2.2.2 _ _ 1 rfl rfl rfl rfl (by decide)
      (List.mem_singleton.2 rfl) rfl rfl (by decide) (by decide) (by decide)),
    .of ((h (stopped .reverse Config.defaultProfile.tolerance) _ _ _ (calm _ rfl rfl rfl) rfl rfl (by decide) rfl rfl rfl rfl rfl).2.2.2 _ _
      Config.defaultProfile.tolerance rfl rfl rfl rfl (by decide) (List.mem_singleton.2 rfl) rfl rfl (by decide) (by decide) (by decide))⟩

/-- A WIND held at the end of the tape by the guard, from its first update on or later. -/
def atEnd (updated : Bool) : State :=
  { facing (moving .winding .wind) none (some 0) with
    zones := { (facing (moving .winding .wind) none (some 0)).zones with updated := updated } }

theorem witness_UpdateEnds_guard (h : Obligations.UpdateEnds) :
    (∃ t : State, exec .referenceUpdate (atEnd false) = .next t.handOver ∧ t.zones.guardReported = false) ∧
      ∃ t : State, exec .referenceUpdate (atEnd true) = .next t.handOver ∧ t.zones.guardReported = true :=
  have k (b : Bool) := (h (atEnd b) _ _ _ ⟨rfl, rfl, rfl⟩ rfl rfl (Nat.zero_lt_succ 15) rfl rfl rfl rfl rfl).1 .forward _ rfl rfl rfl rfl rfl rfl
    (.inl rfl)
  ⟨let ⟨t, e, _, _, _, _, _, _, g, _⟩ := k false;
    ⟨t, e, (g rfl rfl).1⟩,
    let ⟨t, e, _, _, _, _, _, _, _, g⟩ := k true;
    ⟨t, e, (g rfl rfl rfl (fun z m => nomatch List.mem_singleton.1 m) (by decide) (by decide) (by decide)).1⟩⟩

/-! ### The sequencer's events -/

theorem calm (s : State) (a : s.armL.state = .normal) (b : s.armR.state = .normal) (c : s.faults.set = []) : s.Calm := ⟨a, b, c⟩

/-- RELEASING with the pinch timer running. -/
def releasing (k : MoveKind) : State :=
  { playing .releasing k with
    pins := ⟨false, false, false, false, true⟩
    motion := { (playing .releasing k).motion with pinchTimer := some 0 } }

/-- RELEASING with the move gone and a halt pending. -/
def releasingHalt (rest : Bool) : State :=
  { releasing .wind with
    position := { ready.position with atRest := rest }
    motion := { (releasing .wind).motion with queue := [], active := none, haltPending := some .stopped } }

/-- A PLAY with a duration. -/
def timed : State := { playing .playing .play with
  motion := { (playing .playing .play).motion with queue := [{ someRecord .play with duration := some 3600000 }] } }

theorem witness_SequencerEvents (h : Obligations.SequencerEvents) :
    (Runs (.pinchEngagedSense true) ready ∧ Runs (.pinchEngagedSense true) (engaging .play) ∧
      Runs (.pinchEngagedSense true) (engaging .wind) ∧
      Runs (.pinchEngagedSense true) { engaging .play with motion := { (engaging .play).motion with queue := [], active := none } } ∧
      Runs (.pinchEngagedSense false) (releasing .wind) ∧ Runs (.pinchEngagedSense false) (releasingHalt true) ∧
      Runs (.pinchEngagedSense false) (releasingHalt false)) ∧
      (Runs .durationExpiry ready ∧ Runs .durationExpiry (moving .winding .wind) ∧ Runs .durationExpiry timed) ∧
      (Runs .threadCheckTimeout (sizing .measure) ∧ Runs .threadCheckTimeout (sizing .threadCheck)) ∧
      (Runs .brakingTimeout ready ∧ Runs .brakingTimeout { braking with motion := { braking.motion with brakingTimer := some 0 } }) ∧
      Runs .supervisionExpiry ready ∧
      Runs .supervisionExpiry { moving .winding .wind with faults := { ready.faults with supervision := some 0 } } :=
  ⟨⟨⟨_, (h.1 ready true).1 rfl _ rfl ⟨rfl, rfl⟩⟩,
    .of (((h.1 (engaging .play) true).2 (calm _ rfl rfl rfl) rfl rfl).1 rfl rfl |>.1 _ rfl rfl rfl),
    .of (((h.1 (engaging .wind) true).2 (calm _ rfl rfl rfl) rfl rfl).1 rfl rfl |>.2 (.inr ⟨_, rfl, rfl, rfl⟩)),
    .of (((h.1 { engaging .play with motion := { (engaging .play).motion with queue := [], active := none } } true).2
      (calm _ rfl rfl rfl) rfl rfl).1 rfl rfl |>.2 (.inl rfl)),
    .of (((h.1 (releasing .wind) false).2 (calm _ rfl rfl rfl) rfl rfl).2 rfl rfl |>.1 _ rfl rfl rfl),
    .of (((h.1 (releasingHalt true) false).2 (calm _ rfl rfl rfl) rfl rfl).2 rfl rfl |>.2 rfl rfl),
    .of (((h.1 (releasingHalt false) false).2 (calm _ rfl rfl rfl) rfl rfl).2 rfl rfl |>.2 rfl rfl)⟩,
    ⟨⟨_, (h.2 ready).1 (.inl rfl)⟩, ⟨_, (h.2 (moving .winding .wind)).1 (.inr ⟨_, _, rfl, rfl⟩)⟩,
      .of ((h.2 timed).2.1 _ _ _ (calm _ rfl rfl rfl) rfl rfl rfl rfl rfl rfl (by decide) rfl)⟩,
    ⟨⟨_, (h.2 (sizing .measure)).2.2.1 (fun z e => by cases e; decide)⟩, .of ((h.2 (sizing .threadCheck)).2.2.2.1 _ rfl rfl)⟩,
    ⟨⟨_, (h.2 ready).2.2.2.2.1 rfl⟩,
      .of ((h.2 { braking with motion := { braking.motion with brakingTimer := some 0 } }).2.2.2.2.2.1 _ rfl rfl)⟩,
    ⟨_, (h.2 ready).2.2.2.2.2.2.1 rfl⟩,
    .of ((h.2 { moving .winding .wind with faults := { ready.faults with supervision := some 0 } }).2.2.2.2.2.2.2 _ _ _ rfl
      (calm _ rfl rfl rfl) rfl rfl rfl (by decide) rfl (by decide))⟩

/-! ### The chase -/

/-- A CHASE in PLAYING, in a chase state with its counts one before their ends, the reader at frame 0. -/
def chasing (c : ChaseState) : State := { playing .playing .chase with
  position := { (playing .playing .chase).position with anchor := some ⟨.preset, 0, 1⟩ }
  chase := { ready.chase with
    present := true, run := 3, lastFrame := some 0, lossTimer := some 0, state := c, lock := 9, unlock := 2 } }

/-- A CHASE in LOST whose tape lies 1,500 frames behind the third word of a run, the reader one frame before it. -/
def longLost : State := { chasing .lost with
  pins := ⟨false, false, false, false, true⟩
  position := { (chasing .lost).position with anchor := some ⟨.preset, 0, 0⟩ }
  motion := { (chasing .lost).motion with active := some { someMove .chase with offset := 0 } }
  chase := { (chasing .lost).chase with run := 2, lastFrame := some 1499 } }

theorem witness_ReferenceWords (h : Obligations.ReferenceWords) :
    (Runs (.referenceWord ⟨0x24, 0, 0, 0⟩ false) ready ∧ Runs (.referenceWord ⟨0, 0, 0, 1⟩ true) ready) ∧
      Runs (.referenceWord ⟨0, 0, 0, 1⟩ false) ready ∧ Runs (.referenceWord ⟨0, 0, 0, 1⟩ false) (chasing .approach) ∧
      Runs (.referenceWord ⟨0, 0, 0, 2⟩ false) (chasing .locked) ∧
      Runs (.referenceWord ⟨0, 0, 0, 2⟩ false) (chasing .freewheel) ∧ Runs (.referenceWord ⟨0, 0, 0, 1⟩ false) (chasing .lost) ∧
      Runs (.referenceWord ⟨0, 0x01, 0, 0⟩ false) longLost :=
  have off (s : State) (m : ActiveMove) (e : s.motion.active = some m) (o : m.offset = 0) :
      ∀ n, s.motion.active = some n → (0 : Int) = if n.kind = .chase then n.offset else 0 := fun n g => by
    cases e.symm.trans g; simp [o]
  ⟨⟨⟨_, (h ready ready ⟨0x24, 0, 0, 0⟩ false _ 0 none none (by decide) rfl).1 (.inl (by decide))⟩,
      _, (h ready ready ⟨0, 0, 0, 1⟩ true _ 0 none none (by decide) rfl).1 (.inr rfl)⟩,
    ⟨_, ((h ready _ ⟨0, 0, 0, 1⟩ false _ 0 _ _ (by decide) rfl).2 1 (by decide) rfl (idle _ rfl) (fun _ => rfl) rfl rfl rfl).1 (idle _ rfl)
      ⟨rfl, rfl⟩⟩,
    .of (((h (chasing .approach) _ ⟨0, 0, 0, 1⟩ false _ 0 _ _ (by decide) rfl).2 1 (by decide) rfl (off _ _ rfl rfl) nofun rfl rfl
      rfl).2.2 _ 0 0 rfl rfl rfl (calm _ rfl rfl rfl) (by decide) (.inl rfl) (by decide) (by decide)),
    .of (((h (chasing .locked) _ ⟨0, 0, 0, 2⟩ false _ 0 _ _ (by decide) rfl).2 2 (by decide) rfl (off _ _ rfl rfl) nofun rfl rfl
      rfl).2.2 _ 100 25 rfl rfl rfl (calm _ rfl rfl rfl) (by decide) (.inr rfl) (by decide) (by decide)),
    .of (((h (chasing .freewheel) _ ⟨0, 0, 0, 2⟩ false _ 0 _ _ (by decide) rfl).2 2 (by decide) rfl (off _ _ rfl rfl) nofun rfl rfl
      rfl).2.1 _ 100 rfl rfl rfl (calm _ rfl rfl rfl) (by decide) (.inl rfl) rfl |>.1 (by decide)),
    .of (((h (chasing .lost) _ ⟨0, 0, 0, 1⟩ false _ 0 _ _ (by decide) rfl).2 1 (by decide) rfl (off _ _ rfl rfl) nofun rfl rfl
      rfl).2.1 _ 0 rfl rfl rfl (calm _ rfl rfl rfl) (by decide) (.inr rfl) rfl |>.2.1 (by decide) (by decide)),
    (let ⟨_, _, _, e, _⟩ := ((h longLost _ ⟨0, 0x01, 0, 0⟩ false _ 0 _ _ (by decide) rfl).2 1500 (by decide) rfl (off _ _ rfl rfl) nofun rfl rfl
      rfl).2.1 _ 150000 rfl rfl rfl (calm _ rfl rfl rfl) (by decide) (.inr rfl) rfl |>.2.2 _ (by decide) (by decide) rfl rfl rfl
    ⟨_, e⟩)⟩

/-- The seek of a parked CHASE with its rendezvous a number of frames ahead. -/
def parked (rendezvous : Nat) : State := { chasing .seek with
  motion := { (moving .winding .chase).motion with state := .winding }
  capstan := ready.capstan
  chase := { (chasing .seek).chase with seek := some ⟨rendezvous, 0, 0, true⟩ } }

/-- The same CHASE with another freewheel limit. -/
def freewheeling (limit : Nat) : State :=
  { chasing .freewheel with
    profile := { ready.profile with freewheel := limit }
    chase := { (chasing .freewheel).chase with freewheel := some 0 } }

theorem witness_SeeksAndLosses (h : Obligations.SeeksAndLosses) :
    (Runs (.referenceWord ⟨0, 0x01, 0, 0⟩ false) { chasing .locked with pins := ⟨false, false, false, false, true⟩ } ∧
      Runs (.referenceWord ⟨0, 0, 0x01, 0⟩ false) (parked 150) ∧ Runs (.referenceWord ⟨0, 0, 0x01, 0⟩ false) (parked 151)) ∧
      Runs .lossTimerExpiry ready ∧
      Runs .lossTimerExpiry { ready with chase := { ready.chase with present := true, lossTimer := some 0 } } ∧
      (Runs .lossTimerExpiry (chasing .locked) ∧
        Runs .lossTimerExpiry { chasing .approach with profile := { ready.profile with freewheel := 0 } }) ∧
      Runs .freewheelExpiry ready ∧ Runs .freewheelExpiry (freewheeling 1) :=
  ⟨⟨let ⟨_, _, _, e, _⟩ := (h.1 { chasing .locked with pins := ⟨false, false, false, false, true⟩ } ⟨0, 0x01, 0, 0⟩ _ _ 1500 _ 100
        149900 (by decide) rfl (by decide) (calm _ rfl rfl rfl) rfl rfl rfl).1 (.inr rfl) rfl rfl rfl (by decide) (by decide) (by decide);
      ⟨_, e⟩,
    .of ((h.1 (parked 150) ⟨0, 0, 0x01, 0⟩ _ _ 25 _ 0 0 (by decide) rfl (by decide) (calm _ rfl rfl rfl) rfl rfl rfl).2 _ 0 rfl rfl rfl rfl
      (by decide) (by decide) rfl),
    .of ((h.1 (parked 151) ⟨0, 0, 0x01, 0⟩ _ _ 25 _ 0 0 (by decide) rfl (by decide) (calm _ rfl rfl rfl) rfl rfl rfl).2 _ (-1) rfl rfl rfl
      rfl (by decide) (by decide) rfl)⟩,
    ⟨_, (h.2 ready ready).1 rfl⟩,
    ⟨_, ((h.2 { ready with chase := { ready.chase with present := true, lossTimer := some 0 } } _).2.1 0 rfl rfl).1 (idle _ rfl) ⟨rfl, rfl⟩⟩,
    ⟨.of (((h.2 (chasing .locked) _).2.1 0 rfl rfl).2 _ rfl rfl rfl (calm _ rfl rfl rfl) (.inr rfl) rfl),
      .of (((h.2 { chasing .approach with profile := { ready.profile with freewheel := 0 } } _).2.1 0 rfl rfl).2 _ rfl rfl rfl
        (calm _ rfl rfl rfl) (.inl rfl) rfl)⟩,
    ⟨_, (h.2 ready ready).2.2.1 rfl⟩,
    .of ((h.2 (freewheeling 1) ready).2.2.2 0 _ rfl (calm _ rfl rfl rfl) rfl rfl rfl (.inl rfl) (fun _ => rfl))⟩

/-! ### Cue bits, captures, reports -/

/-- A MARK being written at the last bit of its code. -/
def writing : State := { playing .playing .play with cue := { ready.cue with
  gen := .writing, write := some ⟨.mark, ready.cue.mark, -5, 5, 0, 1, 5, 5⟩, out := .active none } }

/-- The tape at play speed with a bit history one bit before the sixth MARK. -/
def beforeMark (auto : Bool) (full : List Bool) (locate : List (Option LocateEntry)) : State := { ready with
  position := { ready.position with locate := locate }
  speed := { ready.speed with v := Config.defaultProfile.vPlay }
  cue := { ready.cue with auto := auto, hist := full, detMark := ⟨5, 5, false⟩, detClear := ⟨0, 0, true⟩ } }

/-- The last eight bits of a tape that repeats MARK, but the newest. -/
def markBits : List Bool := [false, false, false, true, true, false, true, false]

/-- The same under a WIND that waits for the next cue. -/
def cueing : State := { beforeMark false markBits [] with
  position := { ready.position with atRest := false }
  motion := { (moving .winding .wind).motion with queue := [{ someRecord .wind with target := some .nextCue }] } }

/-- The tape at play speed one bit before the sixth CLEAR. -/
def beforeClear : State := { beforeMark false [false, false, true, true, false, true, true, false] [] with
  cue := { (beforeMark false [false, false, true, true, false, true, true, false] []).cue with
    detMark := ⟨0, 0, true⟩, detClear := ⟨5, 5, false⟩ } }

theorem witness_CueBits (h : Obligations.CueBits) :
    (Runs (.cueBit true) held ∧ Runs (.cueBit true) writing ∧ Runs (.cueBit true) ready ∧
      Runs (.cueBit true) { ready with speed := { ready.speed with v := 95250 } } ∧
      Runs (.cueBit false) (beforeMark false markBits []) ∧ Runs (.cueBit false) cueing ∧ Runs (.cueBit false) beforeClear) ∧
      Runs (.cueBit false) (beforeMark true markBits [some ⟨.cue, 6350, none⟩]) ∧
      Runs (.cueBit false) (beforeMark true markBits [some ⟨.cue, 6351, none⟩, none]) ∧
      Runs (.cueBit false) (beforeMark true markBits [some ⟨.cue, -6351, none⟩]) :=
  ⟨⟨⟨_, (h.1 held true).1 rfl⟩, ⟨_, ((h.1 writing true).2 (by decide)).1 _ rfl rfl⟩,
    ⟨_, ((h.1 ready true).2 (by decide)).2.1 (by decide) (.inl (by decide)) _ rfl ⟨rfl, rfl⟩⟩,
    ⟨_, ((((h.1 { ready with speed := { ready.speed with v := 95250 } } true).2 (by decide)).2.2 .forward _ _ _ _ _ (by decide) (by decide)
      (by decide) (by decide) rfl rfl (fun _ _ => rfl) rfl).1 (by decide)).1 (by decide) rfl ⟨rfl, rfl⟩⟩,
    ⟨_, ((((h.1 (beforeMark false markBits []) false).2 (by decide)).2.2 .forward _ _ _ _ _ (by decide) (by decide)
      (by decide) (by decide) rfl rfl (fun _ _ => rfl) rfl).1 (by decide)).2 (by decide) (by decide) rfl |>.1 (no_head _ rfl) rfl ⟨rfl, rfl⟩⟩,
    .of (((((h.1 cueing false).2 (by decide)).2.2 .forward _ _ _ _ ready (by decide) (by decide) (by decide) (by decide) rfl rfl
      (fun _ _ => rfl) rfl).1 (by decide)).2 (by decide) (by decide) rfl |>.2 _ _ rfl rfl rfl (by decide) (.inl rfl) (by decide) rfl
      (calm _ rfl rfl rfl)),
    ⟨_, (((h.1 beforeClear false).2 (by decide)).2.2 .forward _ _ _ _ _ (by decide) (by decide) (by decide) (by decide) rfl rfl
      (fun _ _ => rfl) rfl).2 (by decide) (by decide) (by decide) rfl ⟨rfl, rfl⟩⟩⟩,
    .of ((h.2 (beforeMark true markBits [some ⟨.cue, 6350, none⟩]) True _ _ (by decide) rfl rfl rfl (by decide) rfl rfl rfl (by decide)
      (by decide) (by decide) (by decide) (by decide) rfl rfl rfl rfl rfl rfl (calm _ rfl rfl rfl) rfl
      ⟨fun _ => ⟨_, List.mem_singleton.2 rfl, rfl, by decide⟩, fun _ => trivial⟩).1 trivial),
    .of ((h.2 (beforeMark true markBits [some ⟨.cue, 6351, none⟩, none]) False _ _ (by decide) rfl rfl rfl (by decide) rfl rfl rfl
      (by decide) (by decide) (by decide) (by decide) (by decide) rfl rfl rfl rfl rfl rfl (calm _ rfl rfl rfl) rfl
      ⟨nofun, fun ⟨e, m, _, l⟩ => by
        rcases List.mem_cons.1 m with g | g
        · cases g; revert l; decide
        · cases List.mem_singleton.1 g⟩).2.1 1 nofun rfl (fun j l => by
          match j with
          | 0 => nofun) (by decide)),
    .of ((h.2 (beforeMark true markBits [some ⟨.cue, -6351, none⟩]) False _ _ (by decide) rfl rfl rfl (by decide) rfl rfl rfl
      (by decide) (by decide) (by decide) (by decide) (by decide) rfl rfl rfl rfl rfl rfl (calm _ rfl rfl rfl) rfl
      ⟨nofun, fun ⟨e, m, _, l⟩ => by cases List.mem_singleton.1 m; revert l; decide⟩).2.2 nofun (by decide))⟩

/-- A capture of the deck: one channel, one sample stored, every sample kept. -/
def capturing (st : CapState) (mode : CapMode) (stop : CapEnd) (post phase : Nat) : State := { ready with
  comps := [some ⟨.captureEnd, none, 9, .either, .armed⟩, none, none, none]
  capture := { ready.capture with
    state := st, holder := some .deck, mode := mode, channels := [.torqueL], decim := 2, phase := phase, stop := stop, post := post
    taken := 1, samples := [[0]], endComp := some 0 } }

theorem witness_CaptureSamples (h : Obligations.CaptureSamples) :
    Runs .captureSampleEvent ready ∧ Runs .captureSampleEvent (capturing .running .oneShot (.count 3) 1 1) ∧
      Runs .captureSampleEvent (capturing .running .oneShot (.count 3) 1 0) ∧
      Runs .captureSampleEvent (capturing .running .oneShot (.count 2) 1 0) ∧
      Runs .captureSampleEvent (capturing .triggered .ring .full 1 0) :=
  ⟨⟨_, (h ready _ _ _ _ (fun _ => rfl) rfl rfl rfl).1 (.inl rfl)⟩,
    ⟨_, ((h (capturing .running .oneShot (.count 3) 1 1) _ _ _ _ (fun _ => rfl) rfl rfl rfl).2 (.inl rfl)).1 (by decide)⟩,
    ⟨_, (((h (capturing .running .oneShot (.count 3) 1 0) _ _ _ _ (fun _ => rfl) rfl rfl rfl).2 (.inl rfl)).2 _ rfl rfl _ rfl).1 rfl⟩,
    ⟨_, (((h (capturing .running .oneShot (.count 2) 1 0) _ _ _ _ (fun _ => rfl) rfl rfl rfl).2 (.inl rfl)).2 _ rfl rfl _ rfl).2 _ _ rfl
      rfl rfl⟩,
    ⟨_, (((h (capturing .triggered .ring .full 1 0) _ _ _ _ (fun _ => rfl) rfl rfl rfl).2 (.inr rfl)).2 _ rfl rfl _ rfl).2 _ _ rfl rfl
      rfl⟩⟩

theorem witness_ReportsAndWrites (h : Obligations.ReportsAndWrites) :
    Runs .positionReportPeriod ready ∧
      Runs .positionReportPeriod { ready with position := atLimit.position, ctl := ⟨.deck, 100, 0, none⟩ } ∧
      Runs .profileWriteDone ready ∧ Runs .profileWriteDone { ready with store := { ready.store with busy := true } } :=
  ⟨⟨_, (h ready ready).1 rfl⟩,
    ⟨_, (h { ready with position := atLimit.position, ctl := ⟨.deck, 100, 0, none⟩ } _).2.1 (by decide) (by decide) (by decide) rfl⟩,
    ⟨_, (h ready ready).2.2.1 rfl⟩, _, (h { ready with store := { ready.store with busy := true } } ready).2.2.2 rfl⟩

/-- A receive queue of a number of frames. -/
def received (n : Nat) : State := { ready with deck := { ready.deck with rx := List.replicate n ⟨0x14, 0, []⟩ } }

theorem witness_FramesReceived (h : Obligations.FramesReceived) :
    (Runs (.frameReceived .deck 0x14 0 []) held ∧ Runs (.byteReceived .deck 0xA5 true) held) ∧
      (Runs (.frameReceived .deck 0x14 0 []) (received 3) ∧ Runs (.frameReceived .deck 0x14 0 []) (received 4)) ∧
      Runs (.byteReceived .deck 0xA5 false) ready ∧ Runs (.frameGapTimeout .deck) ready ∧
      Runs (.frameGapTimeout .deck) { ready with deck := { ready.deck with part := some [] } } :=
  ⟨⟨⟨_, ((h held .deck ⟨0x14, 0, []⟩ 0xA5 (by decide)).1 (by decide)).1⟩,
      _, ((h held .deck ⟨0x14, 0, []⟩ 0xA5 (by decide)).1 (by decide)).2 true⟩,
    ⟨⟨_, ((h (received 3) .deck ⟨0x14, 0, []⟩ 0xA5 (by decide)).2.1 rfl).1 (by decide)⟩,
      _, ((h (received 4) .deck ⟨0x14, 0, []⟩ 0xA5 (by decide)).2.1 rfl).2.1 (by decide)⟩,
    ⟨_, ((h ready .deck ⟨0x14, 0, []⟩ 0xA5 (by decide)).2.1 rfl).2.2⟩,
    ⟨_, (h ready .deck ⟨0x14, 0, []⟩ 0xA5 (by decide)).2.2.1 rfl⟩,
    _, (h { ready with deck := { ready.deck with part := some [] } } .deck ⟨0x14, 0, []⟩ 0xA5 (by decide)).2.2.2 (by decide)⟩

/-! ### Requests about motion -/

/-- All four comparators taken, the first by a watch, the second by a move. -/
def taken : State := { ready with comps := [some ⟨.watch, none, 9, .either, .armed⟩, some ⟨.move, some 0, 9, .forward, .armed⟩,
  some ⟨.cueStart, none, 8, .forward, .armed⟩, some ⟨.cueStop, none, 9, .forward, .armed⟩] }

theorem witness_SubmitMove (h : Obligations.SubmitMove) :
    (Runs (.submitMove (req ([7, 0, 0b00000011, 0, 0] ++ wordBytes (BitVec.ofInt 32 2000000000)))) ready ∧
      Runs (.submitMove (req ([7, 0, 0b00000011, 1, 0] ++ wordBytes (BitVec.ofInt 32 0)))) ready) ∧
      Runs (.submitMove (req ([7, 2, 0b01111000] ++ wordBytes (BitVec.ofNat 32 0) ++ [BitVec.ofNat 8 255, BitVec.ofNat 8 65535] ++
        [BitVec.ofNat 8 0, BitVec.ofNat 8 0] ++ [BitVec.ofInt 8 (-128), BitVec.ofInt 8 (-32768)]))) ready ∧
      (Runs (.submitMove (req ([9, 4, 0b00000100] ++ wordBytes (BitVec.ofNat 32 3600000)))) (inState .fault) ∧
      Runs (.submitMove (req ([9, 4, 0b00000100] ++ wordBytes (BitVec.ofNat 32 1)))) { moving .winding .wind with
        motion := { (moving .winding .wind).motion with queue := List.replicate 16 (someRecord .wind) } } ∧
      Runs (.submitMove (req ([9, 4, 0b00000100] ++ wordBytes (BitVec.ofNat 32 1)))) (moving .winding .locate) ∧
      Runs (.submitMove (req ([9, 4, 0b00000100] ++ wordBytes (BitVec.ofNat 32 1)))) (playing .playing .play)) :=
  have e : ∀ (k : MoveKind), ∀ x ∈ [someRecord k], x.slot ≠ 1 := fun k x m => by cases List.mem_singleton.1 m; exact Nat.zero_ne_one
  have f : ∀ (k : MoveKind) (i : Nat), i < 1 → ∃ x ∈ [someRecord k], x.slot = i := fun k i l =>
    ⟨_, List.mem_singleton.2 rfl, (by cases Nat.lt_one_iff.1 l; rfl)⟩
  ⟨⟨.of (((h ready _ (req ([7, 0, 0b00000011, 0, 0] ++ wordBytes (BitVec.ofInt 32 2000000000))) 7 ⟨by decide, rfl⟩ ⟨rfl, rfl⟩).1 .forward
      2000000000 0 rfl (by decide) (by decide) rfl nofun rfl rfl rfl rfl ⟨rfl, rfl, rfl⟩).1 (.inl ⟨rfl, by decide⟩)),
    .of (((h ready _ (req ([7, 0, 0b00000011, 1, 0] ++ wordBytes (BitVec.ofInt 32 0))) 7 ⟨by decide, rfl⟩ ⟨rfl, rfl⟩).1 .reverse 0 0 rfl
      (by decide) (by decide) rfl nofun rfl rfl rfl rfl ⟨rfl, rfl, rfl⟩).2 (.inr ⟨rfl, by decide⟩) (by decide))⟩,
    .of ((h ready _ (req ([7, 2, 0b01111000] ++ wordBytes (BitVec.ofNat 32 0) ++ [BitVec.ofNat 8 255, BitVec.ofNat 8 65535] ++
        [BitVec.ofNat 8 0, BitVec.ofNat 8 0] ++ [BitVec.ofInt 8 (-128), BitVec.ofInt 8 (-32768)])) 7 ⟨by decide, rfl⟩ ⟨rfl, rfl⟩).2.2.2.2.2.1 0 65535
      0 (-32768) (by decide) (by decide) (by decide) (by decide) (by decide) rfl rfl rfl rfl rfl ⟨rfl, rfl, rfl⟩ (by decide)),
    ⟨_, ((h (inState .fault) _ (req ([9, 4, 0b00000100] ++ wordBytes (BitVec.ofNat 32 3600000))) 9 ⟨by decide, rfl⟩ ⟨rfl, rfl⟩).2.2.2.2.2.2 3600000
      0 _ _ (by decide) (by decide) rfl rfl rfl).1 (by decide)⟩,
    ⟨_, (((h { moving .winding .wind with
        motion := { (moving .winding .wind).motion with queue := List.replicate 16 (someRecord .wind) } } _
      (req ([9, 4, 0b00000100] ++ wordBytes (BitVec.ofNat 32 1))) 9 ⟨by decide, rfl⟩ ⟨rfl, rfl⟩).2.2.2.2.2.2 1 0 _ _ (by decide) (by decide) rfl rfl
      rfl).2 (by decide)).1 (by decide)⟩,
    ⟨_, ((((h (moving .winding .locate) _ (req ([9, 4, 0b00000100] ++ wordBytes (BitVec.ofNat 32 1))) 9 ⟨by decide, rfl⟩ ⟨rfl, rfl⟩).2.2.2.2.2.2 1 1
      _ _ (by decide) (by decide) rfl rfl rfl).2 (by decide)).2 _ _ _ (by decide) rfl rfl (by decide) (e _) (f _)).1 (by decide)
      (.inl rfl) _ rfl ⟨rfl, rfl⟩⟩,
    .of (((((h (playing .playing .play) _ (req ([9, 4, 0b00000100] ++ wordBytes (BitVec.ofNat 32 1))) 9 ⟨by decide, rfl⟩ ⟨rfl, rfl⟩).2.2.2.2.2.2
      1 1 _ _ (by decide) (by decide) rfl rfl rfl).2 (by decide)).2 _ _ _ (by decide) rfl rfl (by decide) (e _) (f _)).2 rfl rfl rfl rfl rfl
      rfl (by decide) rfl ⟨rfl, rfl, rfl⟩)⟩

/-- At rest in STOPPED with the reference present at frame 701, an anchor at frame 700, and the tape's subframe at the last word. -/
def following (sub : Option Int) : State := { ready with
  position := { ready.position with anchor := some ⟨.preset, 0, 700⟩ }
  chase := { ready.chase with present := true, lastFrame := some 701, lastSub := sub } }

theorem witness_SubmitMove_starts (h : Obligations.SubmitMove) :
    (Runs (.submitMove (req ([7, 0, 0b00000011, 1, 0] ++ wordBytes (BitVec.ofInt 32 2000000000)))) taken ∧
      Runs (.submitMove (req ([7, 2, 0b00000010, 0] ++ wordBytes (BitVec.ofInt 32 0)))) taken) ∧
      (Runs (.submitMove (req ([7, 1, 0b00000010, 0] ++ wordBytes (BitVec.ofInt 32 Config.defaultProfile.tolerance)))) ready ∧
      Runs (.submitMove (req ([7, 1, 0b00000010, 0] ++ wordBytes (BitVec.ofInt 32 (-(Config.defaultProfile.tolerance + 1)))))) ready) ∧
      (Runs (.submitMove (req [7, 1, 0b00000010, 1, 0, 0, 0, 1])) ready ∧ Runs (.submitMove (req [7, 2, 0b00000010, 2, 0, 0, 0, 31])) ready) ∧
      Runs (.submitMove (req [7, 3, 0])) ready ∧
      Runs (.submitMove (req [7, 3, 0])) { following none with position := ready.position } ∧
      Runs (.submitMove (req [7, 3, 0])) (following (some 70100)) ∧
      Runs (.submitMove (req [7, 3, 0])) (following none) :=
  have none_free : ∀ j : Nat, taken.comps[j]? ≠ some none := fun j => match j with
    | 0 | 1 | 2 | 3 => by decide
    | n + 4 => by simp [taken]
  have k (s : State) (b : Bytes) (a : s.Takes 0x12 (req b) s) (g : s.Grants .deck) := h s s (req b) 7 a g
  have c (s : State) (a : s.Takes 0x12 (req [7, 3, 0]) s) (g : s.Grants .deck) := (k s [7, 3, 0] a g).2.2.2.2.1
  ⟨⟨⟨_, (k taken _ ⟨by decide, rfl⟩ ⟨rfl, rfl⟩).2.1 2000000000 (by decide) (by decide) none_free (by decide) (.inl rfl)
      (.inl ⟨.reverse, rfl⟩)⟩,
    _, (k taken _ ⟨by decide, rfl⟩ ⟨rfl, rfl⟩).2.1 0 (by decide) (by decide) none_free (by decide) (.inl rfl) (.inr rfl)⟩,
    ⟨.of (((k ready _ ⟨by decide, rfl⟩ ⟨rfl, rfl⟩).2.2.1 Config.defaultProfile.tolerance _ _ _ rfl (by decide) (by decide) rfl rfl rfl rfl
      ⟨rfl, rfl, rfl⟩ rfl rfl rfl).1 (by decide) rfl (by decide)),
    .of (((k ready _ ⟨by decide, rfl⟩ ⟨rfl, rfl⟩).2.2.1 (-(Config.defaultProfile.tolerance + 1)) _ _ _ rfl (by decide) (by decide) rfl rfl
      rfl rfl ⟨rfl, rfl, rfl⟩ rfl rfl rfl).2 (.inl (by decide)))⟩,
    ⟨.of ((k ready _ ⟨by decide, rfl⟩ ⟨rfl, rfl⟩).2.2.2.1 1 _ (.inl rfl) rfl rfl rfl (by decide) ⟨rfl, rfl, rfl⟩
      (.inl ⟨⟨0, 0, 0, 1⟩, rfl, by decide, rfl, rfl⟩)),
    .of ((k ready _ ⟨by decide, rfl⟩ ⟨rfl, rfl⟩).2.2.2.1 2 _ (.inr ⟨rfl, 0, rfl⟩) rfl rfl rfl (by decide) ⟨rfl, rfl, rfl⟩
      (.inr ⟨31, rfl, by decide, rfl, rfl⟩))⟩,
    .of ((c ready ⟨by decide, rfl⟩ ⟨rfl, rfl⟩ _ none _ rfl rfl rfl rfl rfl rfl rfl ⟨rfl, rfl, rfl⟩ rfl).1 rfl),
    .of (((c { following none with position := ready.position } ⟨by decide, rfl⟩ ⟨rfl, rfl⟩ _ _ _ rfl rfl rfl rfl rfl rfl rfl
      ⟨rfl, rfl, rfl⟩ rfl).2 701 rfl rfl rfl).1 rfl (by decide)),
    .of (((c (following (some 70100)) ⟨by decide, rfl⟩ ⟨rfl, rfl⟩ _ _ _ rfl rfl rfl rfl rfl rfl rfl ⟨rfl, rfl, rfl⟩ rfl).2 701 rfl rfl
      rfl).2.1 _ 0 rfl (by decide) (by decide)),
    let ⟨_, _, e, _⟩ := ((c (following none) ⟨by decide, rfl⟩ ⟨rfl, rfl⟩ _ _ _ rfl rfl rfl rfl rfl rfl rfl ⟨rfl, rfl, rfl⟩ rfl).2 701 rfl
      rfl rfl).2.2 _ ⟨951, 826, 32004, false⟩ rfl nofun (by decide) (by decide) rfl (by decide) (by decide)
    ⟨_, e⟩⟩

/-- A second record behind the active one. -/
def twoMoves (s : State) : State :=
  { s with motion := { s.motion with queue := [someRecord .wind, { someRecord .wind with slot := 1, id := 8 }] } }

theorem witness_FlushAndStop (h : Obligations.FlushAndStop) :
    (Runs (.flushMoves (req [0])) (moving .winding .wind) ∧ Runs (.flushMoves (req [0])) (twoMoves (moving .winding .wind)) ∧
      Runs (.flushMoves (req [1])) ready ∧ Runs (.flushMoves (req [1])) (playing .playing .play)) ∧
      Runs (.stop (req [])) ready ∧ Runs (.stop (req [])) (twoMoves (moving .winding .wind)) ∧
      Runs (.stop (req [])) (twoMoves (engaging .wind)) :=
  ⟨⟨⟨_, ((h (moving .winding .wind) _ (req [0])).1 0 ⟨by decide, rfl⟩ ⟨rfl, rfl⟩ rfl).1 rfl _ _ rfl rfl⟩,
    ⟨_, ((h (twoMoves (moving .winding .wind)) _ (req [0])).1 0 ⟨by decide, rfl⟩ ⟨rfl, rfl⟩ rfl).2.1 rfl _ _ _ _ rfl rfl rfl (by decide)
      rfl⟩,
    ⟨_, ((h ready _ (req [1])).1 1 ⟨by decide, rfl⟩ ⟨rfl, rfl⟩ rfl).2.2.1 rfl rfl ⟨rfl, rfl⟩ (.inr rfl)⟩,
    .of (((h (playing .playing .play) _ (req [1])).1 1 ⟨by decide, rfl⟩ ⟨rfl, rfl⟩ rfl).2.2.2 rfl _ _ rfl rfl rfl rfl (by decide) rfl
      ⟨rfl, rfl, rfl⟩)⟩,
    ⟨_, ((h ready _ (req [])).2 ⟨by decide, rfl⟩ rfl).1 rfl rfl rfl rfl ⟨rfl, rfl⟩⟩,
    .of ((((h (twoMoves (moving .winding .wind)) _ (req [])).2 ⟨by decide, rfl⟩ rfl).2 _ _ _ rfl rfl (by decide) rfl
      ⟨rfl, rfl, rfl⟩).1 rfl),
    .of ((((h (twoMoves (engaging .wind)) _ (req [])).2 ⟨by decide, rfl⟩ rfl).2 _ _ _ rfl rfl (by decide) rfl ⟨rfl, rfl, rfl⟩).2 rfl rfl
      rfl)⟩

/-- UNTHREADED with both arms SLACK, as after a reset. -/
def unthreaded : State := { State.reset with startup := ready.startup, ctl := ready.ctl }

/-- FAULT with two kinds latched, one of them still present. -/
def faulted (still : Bool) : State := { unthreaded with
  pins := ⟨still, false, false, false, false⟩
  motion := { unthreaded.motion with state := .fault }
  faults := { ready.faults with set := [.driveL, .tapeBreak], primary := some ⟨.driveL, 0, .winding⟩ } }

theorem witness_SizeWakeClear (h : Obligations.SizeWakeClear) :
    (Runs (.sizeReels (req [])) { ready with store := { ready.store with invalid := true } } ∧
      Runs (.sizeReels (req [])) (moving .winding .wind) ∧ Runs (.sizeReels (req [])) unthreaded) ∧
      (Runs (.wake (req [])) ready ∧ Runs (.wake (req [])) (inState .standby) ∧
        Runs (.wake (req [])) { unthreaded with motion := { unthreaded.motion with state := .standby } }) ∧
      Runs (.clearFault (req [])) ready ∧ Runs (.clearFault (req [])) (faulted true) ∧ Runs (.clearFault (req [])) (faulted false) :=
  ⟨⟨⟨_, ((h { ready with store := { ready.store with invalid := true } } _ (req []) rfl ⟨rfl, rfl⟩).1 ⟨by decide, rfl⟩).1 rfl⟩,
    ⟨_, ((h (moving .winding .wind) _ (req []) rfl ⟨rfl, rfl⟩).1 ⟨by decide, rfl⟩).2.1 rfl (by decide) (.inl (by decide))⟩,
    .of (((h unthreaded _ (req []) rfl ⟨rfl, rfl⟩).1 ⟨by decide, rfl⟩).2.2 rfl rfl rfl (by decide) (by decide))⟩,
    ⟨⟨_, ((h ready _ (req []) rfl ⟨rfl, rfl⟩).2.1 ⟨by decide, rfl⟩).1 (by decide)⟩,
    .of (((h (inState .standby) _ (req []) rfl ⟨rfl, rfl⟩).2.1 ⟨by decide, rfl⟩).2 rfl rfl rfl (by decide) (by decide)),
    .of (((h { unthreaded with motion := { unthreaded.motion with state := .standby } } _ (req []) rfl ⟨rfl, rfl⟩).2.1
      ⟨by decide, rfl⟩).2 rfl rfl rfl (by decide) (by decide))⟩,
    ⟨_, ((h ready _ (req []) rfl ⟨rfl, rfl⟩).2.2 _ ⟨by decide, rfl⟩ rfl).1 (by decide)⟩,
    (let ⟨_, _, _, _, _, k⟩ := ((h (faulted true) _ (req []) rfl ⟨rfl, rfl⟩).2.2 [.driveL] ⟨by decide, rfl⟩ rfl).2 rfl
    ⟨_, (k (by decide)).1⟩),
    (let ⟨_, _, _, _, k, _⟩ := ((h (faulted false) _ (req []) rfl ⟨rfl, rfl⟩).2.2 [] ⟨by decide, rfl⟩ rfl).2 rfl
    ⟨_, (k rfl).1⟩)⟩

theorem witness_EnterStandby (h : Obligations.EnterStandby) :
    (Runs (.enterStandby ⟨.service, 5, []⟩) ready ∧ Runs (.enterStandby (req [])) resetting) ∧ Runs (.enterStandby (req [])) ready ∧
      Runs (.enterStandby (req [])) unthreaded ∧
      Runs (.enterStandby (req [])) { ready with position := { ready.position with atRest := false } } :=
  ⟨⟨⟨_, (h ready _ ⟨.service, 5, []⟩ ⟨by decide, rfl⟩ rfl).1 (by decide)⟩,
    _, (h resetting _ (req []) ⟨by decide, rfl⟩ rfl).2.1 rfl (by decide)⟩,
    .of (((h ready _ (req []) ⟨by decide, rfl⟩ rfl).2.2 ⟨rfl, rfl⟩).1 (.inr ⟨rfl, rfl, rfl⟩)),
    .of (((h unthreaded _ (req []) ⟨by decide, rfl⟩ rfl).2.2 ⟨rfl, rfl⟩).1 (.inl rfl)),
    ⟨_, ((h { ready with position := { ready.position with atRest := false } } _ (req []) ⟨by decide, rfl⟩ rfl).2.2 ⟨rfl, rfl⟩).2 (by decide)
      (fun e => Bool.noConfusion e.2.2)⟩⟩

/-! ### Requests about tables, units, links and the profile -/

/-- The body of a Set Zone. -/
def zoneBody (i c : Nat) (lo hi : Int) (k : ZoneKind) : Bytes :=
  [BitVec.ofNat 8 i] ++ wordBytes (BitVec.ofInt 32 lo) ++ wordBytes (BitVec.ofInt 32 hi) ++ [BitVec.ofNat 8 k.ctorIdx] ++
    wordBytes (BitVec.ofNat 32 c)

theorem witness_TableRequests_zones (h : Obligations.TableRequests) :
    (Runs (.setZone (req (zoneBody 7 0 1 0 .notify))) ready ∧ Runs (.setZone (req (zoneBody 7 10000 0 0 .slow))) ready ∧
      Runs (.setZone (req (zoneBody 0 0 (-2000000000) 2000000000 .barrier))) ready) ∧
      Runs (.clearZone (req [BitVec.ofNat 8 7])) ready ∧ Runs (.clearZone (req [BitVec.ofNat 8 255])) ready ∧
      Runs (.clearZone (req [BitVec.ofNat 8 8])) ready :=
  ⟨⟨⟨_, ((h ready _ (req (zoneBody 7 0 1 0 .notify)) ⟨rfl, rfl⟩).1 7 0 1 0 .notify ⟨by decide, rfl⟩ rfl (by decide) (by decide)
      (by decide) (by decide) (by decide) (by decide)).1 (by decide)⟩,
    ⟨_, ((h ready _ (req (zoneBody 7 10000 0 0 .slow)) ⟨rfl, rfl⟩).1 7 10000 0 0 .slow ⟨by decide, rfl⟩ rfl (by decide) (by decide)
      (by decide) (by decide) (by decide) (by decide)).2 (by decide) (by decide)⟩,
    ⟨_, ((h ready _ (req (zoneBody 0 0 (-2000000000) 2000000000 .barrier)) ⟨rfl, rfl⟩).1 0 0 (-2000000000) 2000000000 .barrier
      ⟨by decide, rfl⟩ rfl (by decide) (by decide) (by decide) (by decide) (by decide) (by decide)).2 (by decide) (by decide)⟩⟩,
    ⟨_, ((h ready _ (req [BitVec.ofNat 8 7]) ⟨rfl, rfl⟩).2.1 7 ⟨by decide, rfl⟩ rfl rfl).1 (by decide)⟩,
    ⟨_, ((h ready _ (req [BitVec.ofNat 8 255]) ⟨rfl, rfl⟩).2.1 255 ⟨by decide, rfl⟩ rfl rfl).2.1 rfl⟩,
    ⟨_, ((h ready _ (req [BitVec.ofNat 8 8]) ⟨rfl, rfl⟩).2.1 8 ⟨by decide, rfl⟩ rfl rfl).2.2 (by decide) (by decide)⟩⟩

theorem witness_TableRequests_entries (h : Obligations.TableRequests) :
    (Runs (.setLocateEntry (req ([BitVec.ofNat 8 31, 0] ++ wordBytes 0))) ready ∧
      Runs (.setLocateEntry (req ([BitVec.ofNat 8 0, 1] ++ wordBytes (BitVec.ofInt 32 2000000000)))) ready ∧
      Runs (.setLocateEntry (req ([BitVec.ofNat 8 0, 2] ++ wordBytes 1))) anchored ∧
      Runs (.setLocateEntry (req [31, 2, 0, 0, 0, 1])) ready) ∧
      Runs (.clearLocateEntry (req [BitVec.ofNat 8 31])) ready ∧ Runs (.clearLocateEntry (req [BitVec.ofNat 8 255])) ready :=
  ⟨⟨⟨_, (h ready _ (req ([BitVec.ofNat 8 31, 0] ++ wordBytes 0)) ⟨rfl, rfl⟩).2.2.1 31 0 0 ⟨.user, 0, none⟩ ⟨by decide, rfl⟩ (by decide) rfl rfl
      (.inl ⟨rfl, rfl, rfl⟩)⟩,
    ⟨_, (h ready _ (req ([BitVec.ofNat 8 0, 1] ++ wordBytes (BitVec.ofInt 32 2000000000))) ⟨rfl, rfl⟩).2.2.1 0 1 _ ⟨.user, 2000000000, none⟩
      ⟨by decide, rfl⟩ (by decide) rfl rfl (.inr (.inl ⟨rfl, rfl, by decide, by decide, rfl⟩))⟩,
    ⟨_, (h anchored _ (req ([BitVec.ofNat 8 0, 2] ++ wordBytes 1)) ⟨rfl, rfl⟩).2.2.1 0 2 1 ⟨.user, 0, some ⟨0, 0, 0, 1⟩⟩
      ⟨by decide, rfl⟩ (by decide) rfl rfl (.inr (.inr ⟨⟨0, 0, 0, 1⟩, 1, _, rfl, rfl, rfl, by decide, rfl, by decide⟩))⟩,
    ⟨_, (h ready _ (req [31, 2, 0, 0, 0, 1]) ⟨rfl, rfl⟩).2.2.2.1 31 ⟨0, 0, 0, 1⟩ ⟨by decide, rfl⟩ (by decide) rfl (by decide) rfl⟩⟩,
    ⟨_, (h ready _ (req [BitVec.ofNat 8 31]) ⟨rfl, rfl⟩).2.2.2.2.1 31 ⟨by decide, rfl⟩ rfl rfl (.inl (by decide))⟩,
    ⟨_, (h ready _ (req [BitVec.ofNat 8 255]) ⟨rfl, rfl⟩).2.2.2.2.1 255 ⟨by decide, rfl⟩ rfl rfl (.inr rfl)⟩⟩

/-- A Set Schedule with the default schedule. -/
def scheduleRequest : Request := req (defaultSchedule.map (fun x => BitVec.ofNat 8 x.ctorIdx))

theorem witness_TableRequests_schedule (h : Obligations.TableRequests) :
    Runs (.setAnchor (req [0, 0, 0, 0])) ready ∧ Runs (.setSchedule scheduleRequest) ready ∧
      Runs (.setSchedule scheduleRequest) (moving .winding .wind) := by
  have arms : ∀ x, x = Slot.armL ∨ x = .armR → 4 ≤ defaultSchedule.count x ∧ defaultSchedule.count x ≤ 8 := by
    rintro x (rfl | rfl) <;> decide
  have others : ∀ x, x = Slot.curL ∨ x = .curR ∨ x = .curC ∨ x = .supply →
      1 ≤ defaultSchedule.count x ∧ defaultSchedule.count x ≤ 5 := by
    rintro x (rfl | rfl | rfl | rfl) <;> decide
  have k (s : State) (g : s.Grants .deck) (a : s.Takes 0x25 scheduleRequest s) :=
    (h s s scheduleRequest g).2.2.2.2.2.2 defaultSchedule a rfl rfl arms others (by decide)
  exact ⟨⟨_, (h ready _ (req [0, 0, 0, 0]) ⟨rfl, rfl⟩).2.2.2.2.2.1 ⟨0, 0, 0, 0⟩ 0 ⟨by decide, rfl⟩ rfl (by decide)⟩,
    ⟨_, (k ready ⟨rfl, rfl⟩ ⟨by decide, rfl⟩).1 (by decide)⟩,
    ⟨_, (k (moving .winding .wind) ⟨rfl, rfl⟩ ⟨by decide, rfl⟩).2 (by decide) (by decide) (by decide) (by decide)⟩⟩

theorem witness_CaptureRequests_watches (h : Obligations.CaptureRequests) :
    (Runs (.watchPosition (req (wordBytes (BitVec.ofInt 32 (-2000000000)) ++ [BitVec.ofNat 8 2]))) ready ∧
      Runs (.watchPosition (req (wordBytes (BitVec.ofInt 32 2000000000) ++ [BitVec.ofNat 8 0]))) taken) ∧
      Runs (.cancelWatch (req [0])) taken ∧ Runs (.cancelWatch (req [1])) taken ∧ Runs (.cancelWatch (req [0xFF])) taken := by
  refine ⟨⟨⟨_, ((h ready ready (req (wordBytes (BitVec.ofInt 32 (-2000000000)) ++ [BitVec.ofNat 8 2])) rfl).1 (-2000000000) .either
      ⟨by decide, rfl⟩ rfl rfl (by decide) (by decide)).1 0 rfl (by decide) nofun⟩,
    ⟨_, ((h taken taken (req (wordBytes (BitVec.ofInt 32 2000000000) ++ [BitVec.ofNat 8 0])) rfl).1 2000000000 .forward
      ⟨by decide, rfl⟩ rfl rfl (by decide) (by decide)).2 (fun j => ?_)⟩⟩,
    ⟨_, ((h taken taken (req [0]) rfl).2.1 0 ⟨by decide, rfl⟩ rfl rfl).1 _ (by decide) rfl rfl⟩,
    ⟨_, ((h taken taken (req [1]) rfl).2.1 1 ⟨by decide, rfl⟩ rfl rfl).2.1 (by decide) (fun c e => by cases e; decide)⟩,
    let ⟨_, _, e, _⟩ := ((h taken taken (req [0xFF]) rfl).2.1 0xFF ⟨by decide, rfl⟩ rfl rfl).2.2 rfl rfl; ⟨_, e⟩⟩
  match j with
  | 0 => decide
  | 1 => decide
  | 2 => decide
  | 3 => decide
  | n + 4 => simp [taken]

/-- A body of Arm Capture with four channels: ONE_SHOT, immediate, COUNT 65,535. -/
def armBody (flag : Byte) : Bytes :=
  [0, flag, BitVec.ofNat 8 4] ++ [Signal.armTensionL, .armTensionR, .torqueL, .positionLow].map (fun x => BitVec.ofNat 8 x.ctorIdx) ++
    List.replicate (4 - 4) 0 ++ [BitVec.ofNat 8 255, 0, 0, 0, 0, 0, 0, 0] ++
    [BitVec.ofNat 8 (65535 / 256), BitVec.ofNat 8 65535] ++ [0, 0, 0, 0, 0, 0, 0]

/-- A ring of one channel, triggered at a position. -/
def ringBody : Bytes :=
  [1, 0, BitVec.ofNat 8 1] ++ [Signal.torqueL].map (fun x => BitVec.ofNat 8 x.ctorIdx) ++ List.replicate (4 - 1) 0 ++
    [BitVec.ofNat 8 0, 2] ++ wordBytes (BitVec.ofInt 32 2000000000) ++ [BitVec.ofNat 8 2, 0, 0, 0, 0, 0, 0, 0, 0] ++
    [BitVec.ofNat 8 (0 / 256), BitVec.ofNat 8 0]

/-- A capture held by a link. -/
def heldBy (l : Link) (st : CapState) (mode : CapMode) : State :=
  { ready with capture := { ready.capture with state := st, holder := some l, mode := mode, channels := [.torqueL] } }

theorem witness_CaptureRequests_arm (h : Obligations.CaptureRequests) :
    Runs (.armCapture (req (armBody 0))) ready ∧ Runs (.armCapture (req (armBody 1))) (heldBy .service .done .ring) ∧
      Runs (.armCapture ⟨.service, 5, armBody 0⟩) (heldBy .deck .done .ring) ∧
      Runs (.armCapture (req (armBody 0))) (heldBy .deck .running .ring) ∧
      Runs (.armCapture ⟨.service, 5, armBody 1⟩) (heldBy .deck .running .ring) ∧ Runs (.armCapture (req ringBody)) ready := by
  have k (s : State) (f : Byte) (g : f = 0 ∨ f = 1) (r : Request) (e : r.body = armBody f) (n : s.ctl.resetPending = none)
      (a : s.Takes 0x30 r s) := ((h s s r n).2.2.1 [Signal.armTensionL, .armTensionR, .torqueL, .positionLow] 255 65535 0 f _ _ a
        (by decide) (by decide) (by decide) (by decide) (by decide) g rfl rfl).1 _ rfl e
  exact ⟨⟨_, (k ready 0 (.inl rfl) (req (armBody 0)) rfl rfl ⟨by decide, rfl⟩).1 rfl rfl rfl rfl⟩,
    ⟨_, (k (heldBy .service .done .ring) 1 (.inr rfl) (req (armBody 1)) rfl rfl ⟨by decide, rfl⟩).2.1 rfl (by decide) rfl⟩,
    ⟨_, (k (heldBy .deck .done .ring) 0 (.inl rfl) ⟨.service, 5, armBody 0⟩ rfl rfl ⟨by decide, rfl⟩).2.2.1 rfl (by decide) rfl rfl⟩,
    ⟨_, (k (heldBy .deck .running .ring) 0 (.inl rfl) (req (armBody 0)) rfl rfl ⟨by decide, rfl⟩).2.2.2.1 rfl (.inr (.inl rfl))⟩,
    ⟨_, (k (heldBy .deck .running .ring) 1 (.inr rfl) ⟨.service, 5, armBody 1⟩ rfl rfl ⟨by decide, rfl⟩).2.2.2.2 rfl (by decide) rfl rfl rfl
      rfl⟩,
    ⟨_, ((h ready ready (req ringBody) rfl).2.2.1 [.torqueL] 0 0 0 0 _ _ ⟨by decide, rfl⟩ (by decide) (by decide) (by decide) (by decide)
      (by decide) (.inl rfl) rfl rfl).2 2000000000 .either 0 (by decide) (by decide) rfl rfl rfl rfl rfl rfl nofun⟩⟩

theorem witness_CaptureRequests_hold (h : Obligations.CaptureRequests) :
    (Runs (.triggerCapture (req [])) ready ∧ Runs (.abortCapture (req [])) (heldBy .service .done .ring) ∧
      Runs (.releaseCapture (req [])) ready) ∧
      (Runs (.triggerCapture (req [])) { heldBy .deck .armed .oneShot with
        capture := { (heldBy .deck .armed .oneShot).capture with startComp := some 3 } } ∧
      Runs (.triggerCapture (req [])) (heldBy .deck .running .ring) ∧ Runs (.triggerCapture (req [])) (heldBy .deck .triggered .ring) ∧
      Runs (.triggerCapture (req [])) (heldBy .deck .done .ring)) ∧
      (Runs (.abortCapture (req [])) (heldBy .deck .done .ring) ∧ Runs (.abortCapture (req [])) (heldBy .deck .running .ring)) ∧
      Runs (.releaseCapture (req [])) (heldBy .deck .done .ring) := by
  have t (s : State) (n : s.ctl.resetPending = none) (a : s.Takes 0x31 (req []) s) := (h s s (req []) n).2.2.2 rfl (.inl a)
  have b (s : State) (n : s.ctl.resetPending = none) (a : s.Takes 0x32 (req []) s) := (h s s (req []) n).2.2.2 rfl (.inr (.inl a))
  have r (s : State) (n : s.ctl.resetPending = none) (a : s.Takes 0x33 (req []) s) := (h s s (req []) n).2.2.2 rfl (.inr (.inr a))
  exact ⟨⟨⟨_, ((t ready rfl ⟨by decide, rfl⟩).1 (.triggerCapture (req [])) 0x31 (by decide) ⟨by decide, rfl⟩).1 rfl⟩,
    ⟨_, ((b (heldBy .service .done .ring) rfl ⟨by decide, rfl⟩).1 (.abortCapture (req [])) 0x32 (by decide) ⟨by decide, rfl⟩).2 (by decide)
      (by decide)⟩,
    ⟨_, ((r ready rfl ⟨by decide, rfl⟩).1 (.releaseCapture (req [])) 0x33 (by decide) ⟨by decide, rfl⟩).1 rfl⟩⟩,
    ⟨⟨_, ((t { heldBy .deck .armed .oneShot with
        capture := { (heldBy .deck .armed .oneShot).capture with startComp := some 3 } } rfl ⟨by decide, rfl⟩).2 (by decide) rfl).1
      ⟨by decide, rfl⟩ |>.1 3 rfl rfl rfl rfl⟩,
    ⟨_, ((t (heldBy .deck .running .ring) rfl ⟨by decide, rfl⟩).2 (by decide) rfl).1 ⟨by decide, rfl⟩ |>.2.1 rfl rfl rfl⟩,
    ⟨_, ((t (heldBy .deck .triggered .ring) rfl ⟨by decide, rfl⟩).2 (by decide) rfl).1 ⟨by decide, rfl⟩ |>.2.2.1 (.inl rfl)⟩,
    ⟨_, ((t (heldBy .deck .done .ring) rfl ⟨by decide, rfl⟩).2 (by decide) rfl).1 ⟨by decide, rfl⟩ |>.2.2.2 rfl⟩⟩,
    ⟨⟨_, ((b (heldBy .deck .done .ring) rfl ⟨by decide, rfl⟩).2 (by decide) rfl).2.1 ⟨by decide, rfl⟩ |>.1 rfl⟩,
    ⟨_, ((b (heldBy .deck .running .ring) rfl ⟨by decide, rfl⟩).2 (by decide) rfl).2.1 ⟨by decide, rfl⟩ |>.2 (by decide) rfl rfl⟩⟩,
    ⟨_, ((r (heldBy .deck .done .ring) rfl ⟨by decide, rfl⟩).2 (by decide) rfl).2.2 ⟨by decide, rfl⟩ rfl rfl⟩⟩

/-- A Write Cue of MARK from −5 to 5. -/
def cueRequest : Request := req ([BitVec.ofNat 8 0] ++ wordBytes (BitVec.ofInt 32 (-5)) ++ wordBytes (BitVec.ofInt 32 5))

theorem witness_CueRequests (h : Obligations.CueRequests) :
    (Runs (.setCueCodes (req [BitVec.ofNat 8 3, 0b10000000, BitVec.ofNat 8 3, 0b11000000, BitVec.ofNat 8 16])) ready ∧
      Runs (.setCueCodes (req [BitVec.ofNat 8 3, 0b10000000, BitVec.ofNat 8 3, 0b11000000, BitVec.ofNat 8 16])) writing) ∧
      Runs (.setAutoCue (req [1])) ready ∧
      (Runs (.writeCue (req ([BitVec.ofNat 8 1] ++ wordBytes (BitVec.ofInt 32 5) ++ wordBytes (BitVec.ofInt 32 5)))) ready ∧
      Runs (.writeCue cueRequest) (moving .winding .wind) ∧ Runs (.writeCue cueRequest) writing ∧ Runs (.writeCue cueRequest) ready ∧
      Runs (.writeCue cueRequest) (playing .playing .play)) ∧
      Runs (.cancelCueWrite (req [])) ready ∧ Runs (.cancelCueWrite (req [])) writing := by
  have bits : ∀ (b : Byte) (l : List Bool), l.length = 3 → l[0]? = some (b.getLsbD 7) → l[1]? = some (b.getLsbD 6) →
      l[2]? = some (b.getLsbD 5) → ∀ (i : Nat) (x : Bool), l[i]? = some x → b.getLsbD (7 - i) = x := by
    intro b l n e0 e1 e2 i x e
    match i with
    | 0 => simpa [e0] using e
    | 1 => simpa [e1] using e
    | 2 => simpa [e2] using e
    | i + 3 => rw [List.getElem?_eq_none (by omega)] at e; cases e
  have apart : ∀ m k : List Bool, k.length = 3 → (∀ r, r < 3 → ∃ i, i < m.length ∧ m[i]? ≠ k[(r + i) % 3]?) →
      ∀ j : Nat, ∃ i, i < m.length ∧ m[i]? ≠ k[(j + i) % k.length]? := by
    intro m k n e j
    obtain ⟨i, l, g⟩ := e (j % 3) (Nat.mod_lt _ (by decide))
    exact ⟨i, l, by rw [n]; simpa [Nat.add_mod] using g⟩
  have codes (s : State) (g : s.Grants .deck)
      (a : s.Takes 0x34 (req [BitVec.ofNat 8 3, 0b10000000, BitVec.ofNat 8 3, 0b11000000, BitVec.ofNat 8 16]) s) :=
    (h s s (req [BitVec.ofNat 8 3, 0b10000000, BitVec.ofNat 8 3, 0b11000000, BitVec.ofNat 8 16]) g).1 [true, false, false]
      [true, true, false] 0b10000000 0b11000000 16 a rfl (by decide) (by decide) (by decide) (by decide) (by decide) (by decide)
      (bits _ _ rfl rfl rfl rfl) (bits _ _ rfl rfl rfl rfl) (by decide) (by decide) (by decide) (by decide) (by decide)
      (apart _ _ rfl (by decide)) (apart _ _ rfl (by decide))
  have write (s : State) (g : s.Grants .deck) (a : s.Takes 0x36 cueRequest s) :=
    ((h s s cueRequest g).2.2.1 .mark (-5) 5 0 1 _ _ a rfl (by decide) (by decide) (by decide) (by decide) rfl rfl).2 (by decide)
  have only : ∀ k : Nat, k < 1 → k ≠ 0 → False := fun k l n => n (Nat.lt_one_iff.1 l)
  exact ⟨⟨⟨_, (codes ready ⟨rfl, rfl⟩ ⟨by decide, rfl⟩).1 rfl⟩, ⟨_, (codes writing ⟨rfl, rfl⟩ ⟨by decide, rfl⟩).2 (by decide)⟩⟩,
    ⟨_, (h ready ready (req [1]) ⟨rfl, rfl⟩).2.1 false ⟨by decide, rfl⟩ rfl⟩,
    ⟨⟨_, ((h ready ready (req ([BitVec.ofNat 8 1] ++ wordBytes (BitVec.ofInt 32 5) ++ wordBytes (BitVec.ofInt 32 5))) ⟨rfl, rfl⟩).2.2.1 .clear 5
      5 0 1 _ _ ⟨by decide, rfl⟩ rfl (by decide) (by decide) (by decide) (by decide) rfl rfl).1 (by decide)⟩,
    ⟨_, (write (moving .winding .wind) ⟨rfl, rfl⟩ ⟨by decide, rfl⟩).1 (by decide) (by decide)⟩,
    ⟨_, ((write writing ⟨rfl, rfl⟩ ⟨by decide, rfl⟩).2 (.inl rfl)).1 (by decide)⟩,
    ⟨_, (((write ready ⟨rfl, rfl⟩ ⟨by decide, rfl⟩).2 (.inr rfl)).2 rfl (by decide) rfl rfl (fun k l n => (only k l n).elim)).1 (.inl rfl)⟩,
    ⟨_, (((write (playing .playing .play) ⟨rfl, rfl⟩ ⟨by decide, rfl⟩).2 (.inl rfl)).2 rfl (by decide) rfl rfl
      (fun k l n => (only k l n).elim)).2 rfl (by decide) (by decide)⟩⟩,
    ⟨_, ((h ready ready (req []) ⟨rfl, rfl⟩).2.2.2 ⟨by decide, rfl⟩ rfl).1 rfl⟩,
    ⟨_, ((h writing writing (req []) ⟨rfl, rfl⟩).2.2.2 ⟨by decide, rfl⟩ rfl).2 _ rfl⟩⟩

/-- Clearing latches that are not set changes none. -/
theorem blanks (n i : Nat) (p : Prop) [Decidable (i < n ∧ p)] :
    (List.replicate n (none : Option Latch))[i]? = if i < n ∧ p then some none else (List.replicate n none)[i]? := by
  split
  · rename_i g
    simp [g.1]
  · rfl

theorem witness_LinkRequests (h : Obligations.LinkRequests) :
    (Runs (.claimTransport (req [0])) { ready with ctl := ⟨.free, 0, 0, none⟩ } ∧ Runs (.claimTransport (req [1])) ready ∧
      Runs (.claimTransport (req [1])) { ready with ctl := ⟨.service, 0, 0, none⟩ } ∧ Runs (.claimTransport ⟨.service, 5, [0]⟩) ready ∧
      Runs (.claimTransport ⟨.service, 5, [1]⟩) (moving .winding .wind)) ∧
      (Runs (.releaseTransport ⟨.service, 5, []⟩) ready ∧ Runs (.releaseTransport (req [])) (moving .winding .wind) ∧
      Runs (.releaseTransport (req [])) ready) ∧
      (Runs (.setEventMask (req [0x80, 0x02])) ready ∧ Runs (.acknowledgeEvents (req [0x80, 0x02])) ready) ∧
      (Runs (.setReportRate ⟨.service, 5, [BitVec.ofNat 8 10]⟩) ready ∧ Runs (.setReportRate (req [BitVec.ofNat 8 9])) ready ∧
      Runs (.setReportRate (req [BitVec.ofNat 8 100])) ready) ∧
      Runs (.resetPart (req [])) { ready with ctl := ⟨.service, 0, 0, none⟩ } ∧ Runs (.resetPart (req [])) ready ∧
      Runs (.resetPart (req [])) (moving .winding .wind) := by
  have claim (s t : State) (r : Request) (f : Byte) (n : t.ctl.resetPending = none) (a : s.Takes 0x10 r t) (b : r.body = [f])
      (g : f = 0 ∨ f = 1) := (h s t r n).1 f a b g
  have release (s : State) (r : Request) (n : s.ctl.resetPending = none) (a : s.Takes 0x11 r s) (b : r.body = []) :=
    (h s s r n).2.1 a b
  have mask := (h ready ready (req [0x80, 0x02]) rfl).2.2.1 0x8002 (List.replicate 16 none) rfl
  have rate (r : Request) (n : Nat) (a : ready.Takes 0x28 r ready) (b : r.body = [BitVec.ofNat 8 n]) (l : n < 256) :=
    (h ready ready r rfl).2.2.2.1 n _ a l b rfl
  have reset (s : State) (r : Request) (n : s.ctl.resetPending = none) (a : s.Takes 0x3D r s) (b : r.body = []) :=
    (h s s r n).2.2.2.2 a b
  exact ⟨⟨⟨_, (claim { ready with ctl := ⟨.free, 0, 0, none⟩ } _ (req [0]) 0 rfl ⟨by decide, rfl⟩ rfl (.inl rfl)).1 rfl⟩,
    ⟨_, (claim ready ready (req [1]) 1 rfl ⟨by decide, rfl⟩ rfl (.inr rfl)).2.1 rfl⟩,
    ⟨_, (claim { ready with ctl := ⟨.service, 0, 0, none⟩ } _ (req [1]) 1 rfl ⟨by decide, rfl⟩ rfl (.inr rfl)).2.2.1 rfl rfl⟩,
    ⟨_, ((claim ready ready ⟨.service, 5, [0]⟩ 0 rfl ⟨by decide, rfl⟩ rfl (.inl rfl)).2.2.2 rfl rfl).1 rfl⟩,
    .of (((claim (moving .winding .wind) _ ⟨.service, 5, [1]⟩ 1 rfl ⟨by decide, rfl⟩ rfl (.inr rfl)).2.2.2 rfl rfl).2 _ _ rfl rfl rfl rfl
      (by decide) rfl ⟨rfl, rfl, rfl⟩)⟩,
    ⟨⟨_, (release ready ⟨.service, 5, []⟩ rfl ⟨by decide, rfl⟩ rfl).1 (by decide)⟩,
    ⟨_, ((release (moving .winding .wind) (req []) rfl ⟨by decide, rfl⟩ rfl).2 rfl).1 (.inr rfl)⟩,
    ⟨_, ((release ready (req []) rfl ⟨by decide, rfl⟩ rfl).2 rfl).2 rfl rfl⟩⟩,
    ⟨⟨_, mask.1 ⟨by decide, rfl⟩⟩, ⟨_, mask.2 ⟨by decide, rfl⟩ (by decide) (fun i => blanks 16 i _)⟩⟩,
    ⟨⟨_, (rate ⟨.service, 5, [BitVec.ofNat 8 10]⟩ 10 ⟨by decide, rfl⟩ rfl (by decide)).1 (by decide)⟩,
    ⟨_, (rate (req [BitVec.ofNat 8 9]) 9 ⟨by decide, rfl⟩ rfl (by decide)).2 rfl⟩,
    ⟨_, (rate (req [BitVec.ofNat 8 100]) 100 ⟨by decide, rfl⟩ rfl (by decide)).2 rfl⟩⟩,
    ⟨_, (reset { ready with ctl := ⟨.service, 0, 0, none⟩ } (req []) rfl ⟨by decide, rfl⟩ rfl).1 rfl rfl⟩,
    ⟨_, ((reset ready (req []) rfl ⟨by decide, rfl⟩ rfl).2 (.inr (by decide))).1 rfl⟩,
    .of (((reset (moving .winding .wind) (req []) rfl ⟨by decide, rfl⟩ rfl).2 (.inr (by decide))).2 _ _ rfl rfl rfl (by decide) rfl
      ⟨rfl, rfl, rfl⟩)⟩

/-- A valid profile with another frame rate and another slack threshold. -/
def otherProfile : Profile := { Config.defaultProfile with rate := 24, slackAt := Config.defaultProfile.slackAt - 1 }

theorem witness_WriteProfile (h : Obligations.WriteProfile) :
    Runs (.writeProfile (req (profileBytes otherProfile))) (moving .winding .wind) ∧
      Runs (.writeProfile (req (profileBytes otherProfile)))
        { ready with motion := { ready.motion with queue := [someRecord .chase], active := some (someMove .chase) } } ∧
      Runs (.writeProfile (req (profileBytes otherProfile))) { ready with store := { ready.store with busy := true } } ∧
      Runs (.writeProfile (req (profileBytes otherProfile))) ready ∧
      Runs (.writeProfile (req (profileBytes Config.defaultProfile))) unthreaded ∧
      Runs (.writeProfile (req (profileBytes { Config.defaultProfile with jHub := Config.defaultProfile.jHub + 1 }))) ready := by
  have k (s : State) (q : Profile) (g : s.Grants .deck) (a : s.Takes 0x3C (req (profileBytes q)) s) (v : profileOk q = true) :=
    h s s (req (profileBytes q)) q a g v rfl
  have v : profileOk otherProfile = true := by decide
  exact ⟨⟨_, (k (moving .winding .wind) otherProfile ⟨rfl, rfl⟩ ⟨by decide, rfl⟩ v).1 (by decide)⟩,
    ⟨_, (k { ready with motion := { ready.motion with queue := [someRecord .chase], active := some (someMove .chase) } } otherProfile
      ⟨rfl, rfl⟩ ⟨by decide, rfl⟩ v).1 (by decide)⟩,
    ⟨_, ((k { ready with store := { ready.store with busy := true } } otherProfile ⟨rfl, rfl⟩ ⟨by decide, rfl⟩ v).2 (by decide)).1 rfl⟩,
    .of (((k ready otherProfile ⟨rfl, rfl⟩ ⟨by decide, rfl⟩ v).2 (by decide)).2 rfl),
    .of (((k unthreaded Config.defaultProfile ⟨rfl, rfl⟩ ⟨by decide, rfl⟩ (by decide)).2 (by decide)).2 rfl),
    .of (((k ready { Config.defaultProfile with jHub := Config.defaultProfile.jHub + 1 } ⟨rfl, rfl⟩ ⟨by decide, rfl⟩ (by decide)).2
      (by decide)).2 rfl)⟩

end Sys2Proof.Tests
end

section
/-! Timecodes and frame counts convert into each other (R5, R6). -/

namespace Sys2Proof.Machine

/-! ### Timecodes (R5, R6) -/

theorem bcdValue_bcdByte {n : Nat} (h : n < 100) : bcdValue (bcdByte n) = some n := by
  have e : (bcdByte n).toNat = 16 * (n / 10) + n % 10 := by
    simp only [bcdByte, BitVec.toNat_ofNat]
    omega
  have q : (16 * (n / 10) + n % 10) / 16 = n / 10 := by omega
  have m : (16 * (n / 10) + n % 10) % 16 = n % 10 := by omega
  have lt : n / 10 < 10 ∧ n % 10 < 10 := by omega
  simp only [bcdValue, e, q, m, lt, decide_true, Bool.and_self, if_true, Option.some.injEq]
  omega

theorem bcdByte_of_bcdValue {b : Byte} {n : Nat} (h : bcdValue b = some n) : bcdByte n = b ∧ n < 100 := by
  simp only [bcdValue, Option.ite_none_right_eq_some, Option.some.injEq, Bool.and_eq_true, decide_eq_true_eq] at h
  obtain ⟨⟨hq, hm⟩, rfl⟩ := h
  have lt := b.isLt
  refine ⟨BitVec.eq_of_toNat_eq ?_, by omega⟩
  simp only [bcdByte, BitVec.toNat_ofNat]
  omega

/-- The frame count of a timecode, and its fields as the digits give them (R5, R6). -/
theorem timecodeFrames_eq_some_iff {p : Profile} {t : BcdTime} {n : Nat} :
    timecodeFrames p t = some n ↔ ∃ h m s f, bcdValue t.hh = some h ∧ bcdValue t.mm = some m ∧ bcdValue t.ss = some s ∧
      bcdValue t.ff = some f ∧ h < 24 ∧ m < 60 ∧ s < 60 ∧ f < p.rate ∧ n = ((h * 60 + m) * 60 + s) * p.rate + f := by
  unfold timecodeFrames
  constructor
  · intro e
    split at e
    · rename_i h m s f eh em es ef
      split at e
      · rename_i lt
        simp only [Bool.and_eq_true, decide_eq_true_eq] at lt
        obtain ⟨⟨⟨lh, lm⟩, ls⟩, lf⟩ := lt
        exact ⟨h, m, s, f, eh, em, es, ef, lh, lm, ls, lf, (Option.some.inj e).symm⟩
      · cases e
    · cases e
  · rintro ⟨h, m, s, f, eh, em, es, ef, lh, lm, ls, lf, rfl⟩
    simp [eh, em, es, ef, lh, lm, ls, lf]

/-- A valid timecode's frame count lies within the day (R6). -/
theorem timecodeFrames_lt {p : Profile} {t : BcdTime} {n : Nat} (h : timecodeFrames p t = some n) : n < 86400 * p.rate := by
  obtain ⟨hh, m, s, f, -, -, -, -, lh, lm, ls, lf, rfl⟩ := timecodeFrames_eq_some_iff.1 h
  have seconds : (hh * 60 + m) * 60 + s + 1 ≤ 86400 := by omega
  have frames := Nat.mul_le_mul_right p.rate seconds
  rw [Nat.add_mul, Nat.one_mul] at frames
  omega

theorem timecodeFrames_framesTimecode {p : Profile} {n : Nat} (pos : 0 < p.rate) (le : p.rate ≤ 100) (h : n < 86400 * p.rate) :
    timecodeFrames p (framesTimecode p n) = some n := by
  have day : n / p.rate < 86400 := Nat.div_lt_of_lt_mul (by rwa [Nat.mul_comm])
  have frame : n % p.rate < p.rate := Nat.mod_lt _ pos
  refine timecodeFrames_eq_some_iff.2 ⟨n / p.rate / 60 / 60, n / p.rate / 60 % 60, n / p.rate % 60, n % p.rate,
    bcdValue_bcdByte (by omega), bcdValue_bcdByte (by omega), bcdValue_bcdByte (by omega), bcdValue_bcdByte (by omega),
    by omega, by omega, by omega, frame, ?_⟩
  have seconds : (n / p.rate / 60 / 60 * 60 + n / p.rate / 60 % 60) * 60 + n / p.rate % 60 = n / p.rate := by omega
  rw [seconds, Nat.mul_comm, Nat.div_add_mod]

theorem framesTimecode_of_timecodeFrames {p : Profile} {t : BcdTime} {n : Nat} (h : timecodeFrames p t = some n) :
    framesTimecode p n = t := by
  obtain ⟨hh, m, s, f, eh, em, es, ef, lh, lm, ls, lf, rfl⟩ := timecodeFrames_eq_some_iff.1 h
  have pos : 0 < p.rate := by omega
  have q : (((hh * 60 + m) * 60 + s) * p.rate + f) / p.rate = (hh * 60 + m) * 60 + s := by
    rw [Nat.add_comm, Nat.add_mul_div_right _ _ pos, Nat.div_eq_of_lt lf, Nat.zero_add]
  have r : (((hh * 60 + m) * 60 + s) * p.rate + f) % p.rate = f := by
    rw [Nat.add_comm, Nat.add_mul_mod_self_right, Nat.mod_eq_of_lt lf]
  have qh : ((hh * 60 + m) * 60 + s) / 60 / 60 = hh := by omega
  have qm : ((hh * 60 + m) * 60 + s) / 60 % 60 = m := by omega
  have qs : ((hh * 60 + m) * 60 + s) % 60 = s := by omega
  simp only [framesTimecode, q, r, qh, qm, qs, (bcdByte_of_bcdValue eh).1, (bcdByte_of_bcdValue em).1,
    (bcdByte_of_bcdValue es).1, (bcdByte_of_bcdValue ef).1]

/-- Settles O13: successive division undoes the count of R6, field by field. -/
theorem timecodeRoundTrip : Obligations.TimecodeRoundTrip := by
  intro p hr
  exact ⟨fun n h => timecodeFrames_framesTimecode (by omega) (by omega) h,
    fun t n h => ⟨timecodeFrames_lt h, framesTimecode_of_timecodeFrames h⟩⟩

end Sys2Proof.Machine
end

section
/-! What the Motion Sequencer and the units it moves do to the counters of the part: each shared operation keeps them in the ranges
of their state tables. -/

namespace Sys2Proof.Machine
variable {s : State}

/-! ### Latches, comparators -/

/-- An event offered to a link keeps every count of its latches in 1 to 255 (R183). -/
theorem offer_latchCounts {p : LinkPort} (h : ∀ x, some x ∈ p.latches → 1 ≤ x.count ∧ x.count ≤ 255) (src : Source)
    (v pos : Int) : ∀ x, some x ∈ (p.offer src v pos).latches → 1 ≤ x.count ∧ x.count ≤ 255 := by
  intro x hx
  unfold LinkPort.offer at hx
  split at hx
  · rcases List.mem_or_eq_of_mem_set hx with hx | hx
    · exact h x hx
    · cases hx
      unfold latchAfter
      split
      · simp
      · dsimp only; omega
  · exact h x hx

/-- A link replaced by one whose latches count rightly. -/
theorem withPort_counts (h : s.CountsOk) (l : Link) {p : LinkPort}
    (hp : ∀ x, some x ∈ p.latches → 1 ≤ x.count ∧ x.count ≤ 255) : (s.withPort l p).CountsOk := by
  cases l
  · exact { h with latches := fun
      | .deck => hp
      | .service => h.latches .service }
  · exact { h with latches := fun
      | .deck => h.latches .deck
      | .service => hp }

theorem reportTo_counts (h : s.CountsOk) (l : Link) (src : Source) (v pos : Int) : (s.reportTo l src v pos).CountsOk :=
  withPort_counts h l (offer_latchCounts (h.latches l) src v pos)

theorem report_counts (h : s.CountsOk) (src : Source) (v : Int) : (s.report src v).CountsOk := reportTo_counts h ..

theorem freeComp_counts (h : s.CountsOk) (i : Option Nat) : (s.freeComp i).CountsOk := by
  cases i
  · exact h
  · exact { h with }

theorem setComp_counts (h : s.CountsOk) (i : Nat) (c : Comparator) : (s.setComp i c).CountsOk := { h with }

/-! ### The Capture Unit -/

theorem captureDone_counts (h : s.CountsOk) (r : DoneReason) : (s.captureDone r).CountsOk := by
  have done : State.CountsOk { s with capture :=
      { s.capture with state := .done, reason := some r, startComp := none, endComp := none } } :=
    { h with capture := { h.capture with triggered := nofun } }
  have freed := freeComp_counts (freeComp_counts done s.capture.startComp) s.capture.endComp
  unfold State.captureDone
  dsimp only
  split
  · exact reportTo_counts freed ..
  · exact freed

theorem captureRun_counts (h : s.CountsOk) : s.captureRun.CountsOk := by
  have running : State.CountsOk { s with capture := { s.capture with state := .running, phase := 0 } } :=
    { h with capture := { h.capture with phase := h.capture.decim.1, triggered := nofun } }
  unfold State.captureRun
  dsimp only
  split
  · exact { running with }
  · exact running

theorem captureTrigger_counts (h : s.CountsOk) : s.captureTrigger.CountsOk := by
  unfold State.captureTrigger
  split
  · rename_i g
    refine freeComp_counts ?_ _
    exact { h with capture := { h.capture with
      postTaken := Nat.zero_le _, triggered := fun _ => ⟨g.1, h.capture.post.1⟩ } }
  · exact h

theorem captureIdle_countsOk (n : Nat) : (Capture.idle n).CountsOk :=
  ⟨⟨Nat.le_refl 1, Nat.le_add_left 1 63⟩, Nat.one_pos, ⟨Nat.le_refl 1, Nat.le_add_left 1 8191⟩, Nat.zero_le _, nofun,
    Nat.zero_le _⟩

theorem captureIdle_counts (h : s.CountsOk) : s.captureIdle.CountsOk :=
  freeComp_counts (freeComp_counts (by exact { h with capture := captureIdle_countsOk _ }) _) _

/-! ### Cue writes and the chase state -/

/-- A fresh detector counts rightly for each code of 3 bits or more (8.1). -/
theorem fresh_countsOk {code : List Bool} (h : 3 ≤ code.length) (n : Nat) : Detector.fresh.CountsOk n code :=
  ⟨Nat.zero_le _, Nat.lt_of_lt_of_le (by decide) h⟩

theorem State.CountsOk.freshMark (h : s.CountsOk) : Detector.fresh.CountsOk s.cue.threshold s.cue.mark :=
  fresh_countsOk h.codes.1 _

theorem State.CountsOk.freshClear (h : s.CountsOk) : Detector.fresh.CountsOk s.cue.threshold s.cue.clear :=
  fresh_countsOk h.codes.2.2.1 _

theorem endCueWrite_counts (h : s.CountsOk) (b : Nat) : (s.endCueWrite b).CountsOk := by
  unfold State.endCueWrite
  split
  · exact h
  · exact report_counts (freeComp_counts (freeComp_counts (by exact { h with }) _) _) ..

theorem tryCueWrite_counts (h : s.CountsOk) : s.tryCueWrite.CountsOk := by
  unfold State.tryCueWrite
  split
  · exact h
  · split
    · exact { h with mark := h.freshMark, clear := h.freshClear }
    · exact h

theorem setChase_counts (h : s.CountsOk) (x : ChaseState) : (s.setChase x).CountsOk := by
  unfold State.setChase
  split
  · exact h
  · refine report_counts (s := { s with chase := { s.chase with state := x, c := _ } }) { h with c := ?_ } ..
    dsimp only
    split
    · exact Nat.zero_le _
    · exact h.c

theorem endChase_counts (h : s.CountsOk) : s.endChase.CountsOk :=
  { setChase_counts h .inactive with c := Nat.zero_le _, lock := Nat.zero_le _, unlock := Nat.zero_le _ }

/-! ### The queue and the active move -/

theorem pushCompletion_counts (h : s.CountsOk) (c : Completion) : (s.pushCompletion c).CountsOk := { h with }

theorem dropRecord_counts (h : s.CountsOk) (r : MoveRecord) : (s.dropRecord r).CountsOk :=
  pushCompletion_counts (freeComp_counts h _) _

theorem dropRecords_counts (l : List MoveRecord) : ∀ {s : State}, s.CountsOk → (l.foldl State.dropRecord s).CountsOk := by
  induction l with
  | nil => exact id
  | cons r l ih => exact fun h => ih (dropRecord_counts h r)

theorem discardQueue_counts (h : s.CountsOk) : s.discardQueue.CountsOk := { dropRecords_counts s.motion.queue h with }

theorem endActive_counts (h : s.CountsOk) (res : MoveResult) : (s.endActive res).CountsOk := by
  unfold State.endActive
  split
  · rename_i a r rest _ _
    have chase : (if a.kind = .chase then s.endChase else s).CountsOk := by
      split
      · exact endChase_counts h
      · exact h
    have pushed := pushCompletion_counts (freeComp_counts chase r.comp) ⟨r.id, res, s.position.pos, s.timeAt s.position.pos,
      s.elapsedSince a.start, a.derated, if res.discards then rest.length else 0, false⟩
    dsimp only
    split
    · exact discardQueue_counts { pushed with passes := nofun }
    · exact { pushed with passes := nofun }
  · exact h

theorem endAll_counts (h : s.CountsOk) (res : MoveResult) : (s.endAll res).CountsOk := by
  unfold State.endAll
  split
  · exact endActive_counts h res
  · exact discardQueue_counts h

/-! ### Entries into the transport states -/

theorem leavePlaying_counts (h : s.CountsOk) : s.leavePlaying.CountsOk := by
  have stopped : State.CountsOk { s with faults := { s.faults with slip := none } } := { h with }
  unfold State.leavePlaying
  dsimp only
  split
  · exact endCueWrite_counts stopped 3
  · exact stopped

theorem arrivePlaying_counts (h : s.CountsOk) : s.arrivePlaying.CountsOk := by
  unfold State.arrivePlaying
  refine tryCueWrite_counts ?_
  split
  · exact setChase_counts (by exact { h with c := Nat.zero_le _, lock := Nat.zero_le _, unlock := Nat.zero_le _ }) _
  · exact h

/-- A reel that brakes keeps its counters in range: no window stays open and the saturation counter is 0 (R23, R42). -/
theorem Reel.CountsOk.brake {r : Reel} (h : r.CountsOk) : r.brake.CountsOk :=
  { h with sat := Nat.zero_le _, angle := nofun }

theorem brake_counts (h : s.CountsOk) : s.brake.CountsOk :=
  { h with left := h.left.brake, right := h.right.brake, integral := Nat.zero_le _ }

theorem enter_counts (h : s.CountsOk) (t : Transport) : (s.enter t).CountsOk := by
  have left : (if s.motion.state = .playing ∧ t ≠ .playing then s.leavePlaying else s).CountsOk := by
    split
    · exact leavePlaying_counts h
    · exact h
  have braked : ∀ u : State, u.CountsOk → (if t.braked then u.brake else u).CountsOk := by
    intro u hu
    split
    · exact brake_counts hu
    · exact hu
  have arrived : ∀ u : State, u.CountsOk → (if t = .playing then u.arrivePlaying else u).CountsOk := by
    intro u hu
    split
    · exact arrivePlaying_counts hu
    · exact hu
  unfold State.enter
  refine arrived _ (braked _ { left with watch := ?_, sizing := ?_ })
  · intro w hw
    dsimp only at hw
    split at hw <;> cases hw
    exact ⟨Nat.zero_le 3, Nat.zero_le 3⟩
  · intro z hz
    dsimp only at hz
    split at hz
    · exact left.sizing z hz
    · cases hz

theorem enterHalting_counts (h : s.CountsOk) (b : Bool) (d : HaltDest) : (s.enterHalting b d).CountsOk :=
  { discardQueue_counts (enter_counts h .halting) with }

theorem queueEmptied_counts (h : s.CountsOk) : s.queueEmptied.CountsOk := by
  unfold State.queueEmptied
  split
  case h_1 | h_2 => exact enterHalting_counts h ..
  case h_3 | h_4 => exact { h with }
  all_goals exact h

theorem failMove_counts (h : s.CountsOk) (res : MoveResult) : (s.failMove res).CountsOk :=
  queueEmptied_counts (endActive_counts h res)

theorem stopTransport_counts (h : s.CountsOk) : s.stopTransport.CountsOk := by
  unfold State.stopTransport
  split
  case h_1 =>
    split
    · exact h
    · exact enterHalting_counts h ..
  case h_2 | h_3 => exact enterHalting_counts h ..
  case h_4 | h_5 => exact { h with }
  case h_6 => exact report_counts (enterHalting_counts h ..) ..
  all_goals exact h

/-! ### Moves -/

/-- A change of the active move's fields that keeps its passes in range. -/
theorem onActive_counts (h : s.CountsOk) {f : ActiveMove → ActiveMove}
    (hf : ∀ a, s.motion.active = some a → (f a).reversals ≤ 3) : (s.onActive f).CountsOk := by
  refine { h with passes := fun b hb => ?_ }
  obtain ⟨a, ha, rfl⟩ := Option.map_eq_some_iff.1 hb
  exact hf a ha

theorem goWinding_counts (h : s.CountsOk) : s.goWinding.CountsOk := by
  unfold State.goWinding
  split
  case h_1 | h_2 => exact enter_counts h _
  all_goals exact h

theorem goPlaying_counts (h : s.CountsOk) : s.goPlaying.CountsOk := by
  unfold State.goPlaying
  split
  case h_1 => exact enter_counts h _
  all_goals exact h

theorem beginSeek_counts (h : s.CountsOk) (fr : Nat) : (s.beginSeek fr).CountsOk := by
  have begun := onActive_counts h (f := fun a => { a with reversals := 0 }) (fun _ _ => Nat.zero_le 3)
  unfold State.beginSeek
  dsimp only
  split
  · exact failMove_counts h _
  · exact goWinding_counts { begun with }

theorem startChase_counts (h : s.CountsOk) : s.startChase.CountsOk := by
  have started : State.CountsOk { s with chase := { s.chase with e := s.startError } } := { h with }
  unfold State.startChase
  dsimp only
  split
  · split
    · exact failMove_counts h _
    · split
      · exact beginSeek_counts (setChase_counts started _) _
      · split
        · exact goPlaying_counts (setChase_counts started _)
        · exact beginSeek_counts (setChase_counts started _) _
  · exact goPlaying_counts (setChase_counts started _)

theorem makeActive_counts (h : s.CountsOk) (r : MoveRecord) (t : Option Int) : (s.makeActive r t).CountsOk := by
  unfold State.makeActive
  dsimp only
  split
  · refine setComp_counts ?_ ..
    exact { h with passes := fun _ ha => Option.some.inj ha ▸ Nat.zero_le 3 }
  · exact { h with passes := fun _ ha => Option.some.inj ha ▸ Nat.zero_le 3 }

theorem startMove_counts (h : s.CountsOk) (r : MoveRecord) (t : Option Int) : (s.startMove r t).CountsOk := by
  unfold State.startMove
  split
  · exact goWinding_counts h
  · exact goWinding_counts { h with }
  · exact goPlaying_counts h
  · exact startChase_counts h
  · exact h

theorem activateNext_counts (n : Nat) : ∀ {s : State}, s.CountsOk → (s.activateNext n).CountsOk := by
  induction n with
  | zero => exact id
  | succ n ih =>
    intro s h
    unfold State.activateNext
    split
    · exact queueEmptied_counts h
    · split
      · exact failMove_counts (makeActive_counts h ..) _
      · dsimp only
        split
        · exact ih (endActive_counts (makeActive_counts h ..) _)
        · split
          · exact ih (endActive_counts (makeActive_counts h ..) _)
          · exact startMove_counts (makeActive_counts h ..) ..

theorem activate_counts (h : s.CountsOk) : s.activate.CountsOk := activateNext_counts _ h

theorem finishMove_counts (h : s.CountsOk) (res : MoveResult) : (s.finishMove res).CountsOk :=
  activate_counts (endActive_counts h res)

theorem supersede_counts (h : s.CountsOk) : s.supersede.CountsOk := by
  unfold State.supersede
  split
  · split
    · exact finishMove_counts h _
    · exact h
  · exact h

/-- A pass is counted only below three, so the fourth is never counted (R99, R107). -/
theorem countPass_counts (h : s.CountsOk) (lt : s.reversals < 3) : s.countPass.CountsOk := by
  unfold State.countPass
  unfold State.reversals at lt
  split
  · rename_i z hz
    refine { h with sizing := fun y hy => ?_ }
    simp only [hz] at lt
    cases hy
    exact lt
  · rename_i hz
    refine onActive_counts h fun a ha => ?_
    simp only [hz, ha] at lt
    exact lt

theorem passTarget_counts (h : s.CountsOk) (l : LocateCtx) : (s.passTarget l).CountsOk := by
  unfold State.passTarget
  split
  · exact { countPass_counts h ‹_› with }
  · unfold State.overshoot
    split
    · exact report_counts (enterHalting_counts h ..) ..
    · exact failMove_counts h _

theorem settleEnd_counts (h : s.CountsOk) (l : LocateCtx) : (s.settleEnd l).CountsOk := by
  unfold State.settleEnd
  split
  · split
    · exact report_counts (enter_counts h _) ..
    · split
      · exact { h with }
      · exact finishMove_counts h _
  · split
    · exact passTarget_counts h l
    · exact { h with }

/-! ### Faults -/

theorem faultRequest_counts (h : s.CountsOk) (c : FaultClass) : (s.faultRequest c).CountsOk := by
  have ended : (if s.motion.state = .sizing then (s.endAll .faulted).sizingDone 3 else s.endAll .faulted).CountsOk := by
    split
    · exact report_counts (endAll_counts h _) ..
    · exact endAll_counts h _
  unfold State.faultRequest
  dsimp only
  split
  · split
    case h_1 | h_2 => exact ended
    all_goals exact enter_counts ended _
  · split
    case h_9 | h_10 | h_11 => exact ended
    case h_7 | h_8 => exact enter_counts ended _
    all_goals exact enterHalting_counts ended ..

theorem latchFault_counts (h : s.CountsOk) (k : FaultKind) : (s.latchFault k).CountsOk := by
  have triggered : ∀ u : State, u.CountsOk → (if u.capture.trigger = .fault then u.captureTrigger else u).CountsOk := by
    intro u hu
    split
    · exact captureTrigger_counts hu
    · exact hu
  unfold State.latchFault
  split
  · exact h
  · exact faultRequest_counts (triggered _ (report_counts (by exact { h with }) ..)) _

theorem latchIf_counts (h : s.CountsOk) (b : Bool) (k : FaultKind) : (s.latchIf b k).CountsOk := by
  unfold State.latchIf
  split
  · exact latchFault_counts h k
  · exact h

theorem readInputs_counts (h : s.CountsOk) : s.readInputs.CountsOk :=
  latchIf_counts (latchIf_counts (latchIf_counts (latchIf_counts h ..) ..) ..) ..

/-! ### Reactions -/

variable {t : State}

theorem reactTension_counts (h : s.CountsOk) (ht : s.reactTension = some t) : t.CountsOk := by
  unfold State.reactTension at ht
  dsimp only at ht
  split at ht
  · cases ht; exact latchFault_counts h _
  · split at ht
    · cases ht; exact latchFault_counts h _
    · split at ht
      · cases ht; exact latchFault_counts h _
      · split at ht <;> cases ht
        exact enter_counts (endAll_counts h _) _

theorem reactSizing_counts (h : s.CountsOk) (ht : s.reactSizing = some t) : t.CountsOk := by
  have noTape : ((s.enterHalting false .unthreaded).sizingDone 1).CountsOk := report_counts (enterHalting_counts h ..) ..
  unfold State.reactSizing at ht
  split at ht
  · rename_i z _ hz
    split at ht
    · split at ht
      · split at ht <;> cases ht
        · exact { h with sizing := fun y hy => by cases hy; exact h.sizing z hz }
        · exact enter_counts h _
      · cases ht
    · split at ht
      · cases ht; exact noTape
      · split at ht <;> cases ht
        exact { h with sizing := fun y hy => by cases hy; exact Nat.zero_le 3 }
    · split at ht <;> cases ht
      exact noTape
  · cases ht

theorem engaged_counts (h : s.CountsOk) : s.engaged.CountsOk := by
  unfold State.engaged
  split
  · split
    case h_3 => split <;> exact enter_counts h _
    all_goals exact enter_counts h _
  · exact enter_counts h _

theorem released_counts (h : s.CountsOk) : s.released.CountsOk := { h with integral := Nat.zero_le _ }

theorem leaveReleasing_counts (h : s.CountsOk) : s.leaveReleasing.CountsOk := by
  have free := released_counts h
  unfold State.leaveReleasing
  dsimp only
  split
  · split <;> exact enter_counts free _
  · split
    · exact enter_counts (by exact { free with }) _
    · exact enterHalting_counts free ..

theorem reactPinch_counts (h : s.CountsOk) (ht : s.reactPinch = some t) : t.CountsOk := by
  unfold State.reactPinch at ht
  split at ht
  · cases ht
  · split at ht
    case h_1 => split at ht <;> cases ht; exact engaged_counts h
    case h_2 => split at ht <;> cases ht; exact leaveReleasing_counts h
    case h_3 => split at ht <;> cases ht; exact { released_counts h with }
    all_goals cases ht

theorem reactHalting_counts (h : s.CountsOk) (ht : s.reactHalting = some t) : t.CountsOk := by
  unfold State.reactHalting at ht
  split at ht
  · split at ht
    · split at ht
      · cases ht
        unfold State.endHalting
        split
        · exact enter_counts h _
        · split <;> exact enter_counts h _
      · split at ht <;> cases ht
        exact { h with }
    · cases ht
  · cases ht

theorem reactBraking_counts (h : s.CountsOk) (ht : s.reactBraking = some t) : t.CountsOk := by
  unfold State.reactBraking at ht
  split at ht <;> cases ht
  exact enter_counts h _

theorem reactHold_counts (h : s.CountsOk) (ht : s.reactHold = some t) : t.CountsOk := by
  unfold State.reactHold at ht
  split at ht
  · split at ht
    · split at ht
      · cases ht; exact enter_counts h _
      · split at ht <;> cases ht; exact enter_counts h _
    · cases ht
  · cases ht

theorem reactSettled_counts (h : s.CountsOk) (ht : s.reactSettled = some t) : t.CountsOk := by
  unfold State.reactSettled at ht
  split at ht
  · split at ht <;> cases ht; exact settleEnd_counts h _
  · cases ht

theorem reactQueue_counts (h : s.CountsOk) (ht : s.reactQueue = some t) : t.CountsOk := by
  unfold State.reactQueue at ht
  split at ht <;> cases ht
  exact activate_counts h

theorem react_counts (h : s.CountsOk) (ht : s.react = some t) : t.CountsOk := by
  rcases react_cases ht with ht | ht | ht | ht | ht | ht | ht | ht
  · exact reactTension_counts h ht
  · exact reactSizing_counts h ht
  · exact reactPinch_counts h ht
  · exact reactHalting_counts h ht
  · exact reactBraking_counts h ht
  · exact reactHold_counts h ht
  · exact reactSettled_counts h ht
  · exact reactQueue_counts h ht

theorem syncLoop_counts (h : s.CountsOk) : s.syncLoop.CountsOk := by
  unfold State.syncLoop
  split
  · exact { h with }
  · exact { h with integral := Nat.zero_le _ }

theorem settle_counts (h : s.CountsOk) : s.settle.CountsOk :=
  syncLoop_counts (reactions_keep (P := State.CountsOk) (fun _ _ => react_counts) 64 s h)

end Sys2Proof.Machine
end

section
/-! The remaining operations on the counters: transmitters, resets, profile changes, counts, samples, servos, words, cue bits and
captures. -/

namespace Sys2Proof.Machine
variable {s t : State}

/-! ### The transmitters -/

theorem chooseNotice_latchCounts {p : LinkPort} (h : ∀ x, some x ∈ p.latches → 1 ≤ x.count ∧ x.count ≤ 255) :
    ∀ x, some x ∈ p.chooseNotice.latches → 1 ≤ x.count ∧ x.count ≤ 255 := by
  unfold LinkPort.chooseNotice
  split
  · rename_i i _
    unfold LinkPort.sendEvent
    split
    · rename_i x hx
      intro y hy
      rcases List.mem_or_eq_of_mem_set hy with hy | hy
      · exact h y hy
      · cases hy
        rw [List.getD_eq_getElem?_getD] at hx
        cases e : p.latches[i]? with
        | none => simp [e] at hx
        | some o =>
          rw [e, Option.getD_some] at hx
          exact h x (hx ▸ List.mem_of_getElem? e)
    · exact h
  · split
    · exact h
    · exact h

theorem feed_counts (h : s.CountsOk) (l : Link) : (s.feed l).CountsOk := by
  have notice := withPort_counts h l (chooseNotice_latchCounts (h.latches l))
  unfold State.feed State.chooseNext
  split
  · exact h
  · split
    · unfold State.chooseFrame
      dsimp only
      split
      · exact withPort_counts h l (h.latches l)
      · split
        · exact withPort_counts h l (h.latches l)
        · split
          · split
            · exact withPort_counts (by exact { h with }) l (h.latches l)
            · exact notice
          · exact notice
    · exact h

theorem handOver_counts (h : s.CountsOk) : s.handOver.CountsOk := feed_counts (feed_counts h _) _

/-! ### Resets -/

theorem afterReset_latchCounts (p : LinkPort) : ∀ x, some x ∈ p.afterReset.latches → 1 ≤ x.count ∧ x.count ≤ 255 := by
  intro x hx
  cases List.eq_of_mem_replicate hx

theorem Capture.CountsOk.afterReset {c : Capture} (h : c.CountsOk) (k : ResetKind) : (c.afterReset k).CountsOk := by
  unfold Capture.afterReset
  split
  · split
    case h_1 | h_2 | h_3 => exact { h with triggered := nofun }
    case h_4 => exact h
    case h_5 => exact captureIdle_countsOk _
  · exact captureIdle_countsOk _

theorem Arm.fresh_countsOk : Arm.fresh.CountsOk := ⟨Nat.zero_le _, Nat.zero_le _, Nat.zero_le _⟩

theorem Reel.fresh_countsOk (p : Profile) : (Reel.fresh p).CountsOk :=
  ⟨Nat.zero_le _, Nat.zero_le _, Nat.zero_le _, nofun⟩

theorem reset_counts : State.reset.CountsOk where
  position := ⟨by decide, by decide⟩
  chain := by decide
  left := Reel.fresh_countsOk _
  right := Reel.fresh_countsOk _
  mismL := by decide
  mismR := by decide
  mismC := by decide
  supply := by decide
  integral := by decide
  run := by decide
  frame := nofun
  c := by decide
  lock := by decide
  unlock := by decide
  armL := Arm.fresh_countsOk
  armR := Arm.fresh_countsOk
  watch := nofun
  threshold := ⟨by decide, by decide⟩
  codes := ⟨by decide, by decide, by decide, by decide⟩
  mark := ⟨by decide, by decide⟩
  clear := ⟨by decide, by decide⟩
  capture := captureIdle_countsOk 0
  latches := fun
    | .deck => afterReset_latchCounts LinkPort.fresh
    | .service => afterReset_latchCounts LinkPort.fresh
  passes := nofun
  sizing := nofun

/-- After a reset every counter stands at its chapter's reset value; of what stood only the capture may outlive it (R166). -/
theorem afterReset_counts (h : s.CountsOk) (k : ResetKind) (ph : StartPhase) : (s.afterReset k ph).CountsOk :=
  { reset_counts with
    left := Reel.fresh_countsOk _
    right := Reel.fresh_countsOk _
    frame := nofun
    capture := h.capture.afterReset k
    latches := fun
      | .deck => afterReset_latchCounts s.deck
      | .service => afterReset_latchCounts s.service }

theorem handNotice_latches (p : LinkPort) (f : Frame) : (p.handNotice f).latches = p.latches := by
  unfold LinkPort.handNotice
  split <;> rfl

theorem handNotices_counts (h : s.CountsOk) : s.handNotices.CountsOk :=
  { h with latches := fun
      | .deck => handNotice_latches s.deck _ ▸ h.latches .deck
      | .service => handNotice_latches s.service _ ▸ h.latches .service }

theorem linkReset_counts (h : s.CountsOk) (k : ResetKind) : (s.linkReset k).CountsOk :=
  settle_counts (readInputs_counts (handNotices_counts (afterReset_counts h ..)))

/-! ### The profile -/

/-- A reel whose estimate starts again has its counters at 0 (R32). -/
theorem Reel.CountsOk.restart {r : Reel} (h : r.CountsOk) (p : Profile) : (r.restart p).CountsOk :=
  { h with conf := Nat.zero_le _, streak := Nat.zero_le _, angle := nofun }

theorem Reel.CountsOk.estimate {r : Reel} (h : r.CountsOk) (p : Profile) (n : Nat) : (r.estimate p n).CountsOk := { h with }

theorem Reel.CountsOk.reprofiled {r : Reel} (h : r.CountsOk) (p q : Profile) : (r.reprofiled p q).CountsOk := by
  unfold Reel.reprofiled
  split
  · exact h.restart q
  · exact h.estimate ..

theorem Arm.CountsOk.reprofiled {a : Arm} (h : a.CountsOk) (p q : Profile) : (a.reprofiled p q).CountsOk := by
  unfold Arm.reprofiled
  split
  · exact ⟨Nat.zero_le _, Nat.zero_le _, Nat.zero_le _⟩
  · exact h

theorem reprofiled_run {c : Chase} (h : c.run ≤ 3) (p q : Profile) : (c.reprofiled p q).run ≤ 3 := by
  unfold Chase.reprofiled
  split
  · exact h
  · exact Nat.zero_le _

/-- Under another frame rate no reference frame is kept (R128), so that it stays below the day of the rate in force (R6). -/
theorem reprofiled_frame {c : Chase} {p : Profile} (h : ∀ f, c.lastFrame = some f → f < 86400 * p.rate) (q : Profile) :
    ∀ f, (c.reprofiled p q).lastFrame = some f → f < 86400 * q.rate := by
  unfold Chase.reprofiled
  split
  · rename_i e; rwa [← e]
  · nofun

theorem reprofiled_correction (c : Chase) (p q : Profile) :
    (c.reprofiled p q).c = c.c ∧ (c.reprofiled p q).lock = c.lock ∧ (c.reprofiled p q).unlock = c.unlock := by
  unfold Chase.reprofiled
  split <;> exact ⟨rfl, rfl, rfl⟩

theorem restartReels_counts (h : s.CountsOk) : s.restartReels.CountsOk :=
  { h with left := h.left.restart _, right := h.right.restart _ }

theorem loadProfile_counts (h : s.CountsOk) : s.loadProfile.CountsOk := by
  obtain ⟨ec, el, eu⟩ := reprofiled_correction s.chase s.profile s.store.load.1
  exact { h with
    left := h.left.restart _
    right := h.right.restart _
    run := reprofiled_run h.run ..
    frame := reprofiled_frame h.frame _
    c := (congrArg Int.natAbs ec).trans_le h.c
    lock := el.trans_le h.lock
    unlock := eu.trans_le h.unlock }

theorem reprofiled_position (u : PositionUnit) (p q : Profile) : (u.reprofiled p q).pos = u.pos := by
  unfold PositionUnit.reprofiled
  split <;> rfl

theorem reprofiled_chain {u : PositionUnit} (h : u.chain.len ≤ 2) (p q : Profile) : (u.reprofiled p q).chain.len ≤ 2 := by
  unfold PositionUnit.reprofiled
  split
  · exact Nat.zero_le _
  · exact h

theorem writeProfile_counts (h : s.CountsOk) (b : Bytes) : (s.writeProfile b).CountsOk := by
  obtain ⟨ec, el, eu⟩ := reprofiled_correction s.chase s.profile (profileOfBytes b)
  have ep := reprofiled_position s.position s.profile (profileOfBytes b)
  exact { h with
    position := ⟨h.position.1.trans_eq ep.symm, ep.trans_le h.position.2⟩
    chain := reprofiled_chain h.chain ..
    left := h.left.reprofiled ..
    right := h.right.reprofiled ..
    armL := h.armL.reprofiled ..
    armR := h.armR.reprofiled ..
    run := reprofiled_run h.run ..
    frame := reprofiled_frame h.frame _
    c := (congrArg Int.natAbs ec).trans_le h.c
    lock := el.trans_le h.lock
    unlock := eu.trans_le h.unlock }

/-! ### Roller and reel counts -/

theorem reports_counts (l : List Int) (src : Source) (pos : Int) :
    ∀ {s : State}, s.CountsOk → (l.foldl (fun t v => t.reportAt src v pos) s).CountsOk := by
  induction l with
  | nil => exact id
  | cons v l ih => exact fun h => ih (reportTo_counts h ..)

theorem stepZones_counts (h : s.CountsOk) (d : Direction) : (s.stepZones d).CountsOk :=
  reports_counts _ _ _ (by exact { h with })

theorem deliverHit_counts (h : s.CountsOk) (i : Nat) (c : Comparator) : (s.deliverHit i c).CountsOk := by
  unfold State.deliverHit
  split
  · split
    · split
      · exact finishMove_counts h _
      · exact h
    · exact h
  · split
    · exact captureRun_counts h
    · exact h
  · split
    · exact captureDone_counts h _
    · exact captureTrigger_counts h
    · exact h
  · exact tryCueWrite_counts h
  · split
    · exact endCueWrite_counts h _
    · exact endCueWrite_counts h _
    · exact h
  · exact reportTo_counts h ..

theorem deliverHits_counts (l : List (Nat × Comparator)) :
    ∀ {s : State}, s.CountsOk → (l.foldl (fun t x => t.deliverHit x.1 x.2) s).CountsOk := by
  induction l with
  | nil => exact id
  | cons x l ih => exact fun h => ih (deliverHit_counts h ..)

theorem stepComps_counts (h : s.CountsOk) (d : Direction) : (s.stepComps d).CountsOk :=
  deliverHits_counts _ (by exact { h with })

theorem Reel.CountsOk.rolled {r : Reel} (h : r.CountsOk) (d : Direction) : (r.rolled d).CountsOk := by
  refine { h with angle := fun w hw => ?_ }
  obtain ⟨o, ho, rfl⟩ := Option.map_eq_some_iff.1 hw
  exact h.angle o ho

theorem rollerSums_counts (h : s.CountsOk) (d : Direction) : (s.rollerSums d).CountsOk :=
  { h with left := h.left.rolled d, right := h.right.rolled d }

theorem stepPosition_counts (h : s.CountsOk) (d : Direction) (limit : absorbed s.position.pos d = false) :
    (s.stepPosition d).CountsOk := by
  have range : ¬(s.position.pos + dirSign d < -2000000000 ∨ 2000000000 < s.position.pos + dirSign d) := by
    rw [← absorbed_iff, limit]; nofun
  have moved : State.CountsOk { s with position := { s.position with pos := s.position.pos + dirSign d } } :=
    { h with position := by dsimp only; omega }
  exact settle_counts (stepComps_counts (stepZones_counts moved d) d)

theorem Reel.CountsOk.measured {r : Reel} (h : r.CountsOk) (p : Profile) (m : Nat) : (r.measured p m).1.CountsOk := by
  unfold Reel.measured
  split
  · exact { h with conf := Nat.min_le_left .., streak := Nat.zero_le _ }
  · split
    · exact { h with streak := Nat.zero_le _ }
    · exact { h with streak := by dsimp only; omega }

theorem Reel.CountsOk.counted {r : Reel} (h : r.CountsOk) (p : Profile) (d : Direction) (now : Nat) :
    (r.counted p d now).1.CountsOk := by
  have opened : Reel.CountsOk { r with window := some ⟨d, 0, 0, now⟩ } :=
    { h with angle := fun _ hw => Option.some.inj hw ▸ Nat.zero_le _ }
  unfold Reel.counted
  split
  · exact opened
  · split
    · split
      · exact Reel.CountsOk.measured (by exact { h with angle := nofun }) ..
      · exact { h with angle := fun v hv => by cases hv; dsimp only; omega }
    · exact opened

theorem State.CountsOk.reel (h : s.CountsOk) (d : Side) : (s.reel d).CountsOk := by
  cases d
  · exact h.left
  · exact h.right

theorem withReel_counts (h : s.CountsOk) (d : Side) {r : Reel} (hr : r.CountsOk) : (s.withReel d r).CountsOk := by
  cases d
  · exact { h with left := hr }
  · exact { h with right := hr }

theorem tach_pos (u : PositionUnit) (r : Side) (d : Direction) : (u.tach r d).pos = u.pos ∧ (u.tach r d).chain = u.chain := by
  cases r <;> exact ⟨rfl, rfl⟩

theorem tach_counts (h : s.CountsOk) (r : Side) (d : Direction) :
    State.CountsOk { s with position := s.position.tach r d } := by
  cases r <;> exact { h with }

theorem restSettled_counts (h : s.CountsOk) : s.restSettled.CountsOk := by
  unfold State.restSettled
  split
  · split
    · exact settleEnd_counts h _
    · exact h
  · exact h

/-! ### Timecode words -/

theorem withAnchor_counts (h : s.CountsOk) (a : Anchor) : (s.withAnchor a).CountsOk := { h with chain := Nat.zero_le _ }

theorem reanchor_counts (h : s.CountsOk) (f : Nat) : (s.reanchor f).CountsOk := by
  have anchored := withAnchor_counts h ⟨.tape, s.position.pos, f⟩
  unfold State.reanchor
  dsimp only
  split
  · exact report_counts (by exact { anchored with }) ..
  · exact { anchored with }

theorem disagree_counts (h : s.CountsOk) (f : Nat) (d : Direction) : (s.disagree f d).CountsOk := by
  unfold State.disagree
  dsimp only
  split
  · exact reanchor_counts h f
  · exact { h with chain := by dsimp only; omega }

/-! ### Samples and input lines -/

/-- The persistence counts of a valid profile are at most 255 (R192). -/
theorem runs_of_profileOk {p : Profile} (h : profileOk p = true) : p.nSlack ≤ 255 ∧ p.nOver ≤ 255 ∧ p.nClear ≤ 255 := by
  have field : ∀ b ∈ profileChecks p, b = true := by simpa [profileOk] using h
  have slack := field (inRange 1 255 p.nSlack) (by simp [profileChecks])
  have most := field (inRange 1 255 p.nOver) (by simp [profileChecks])
  have clear := field (inRange 1 255 p.nClear) (by simp [profileChecks])
  simp only [inRange, Bool.and_eq_true, decide_eq_true_eq] at slack most clear
  exact ⟨slack.2, most.2, clear.2⟩

/-- A run that has not come to the count which ends it stays below that count (R57, R58). -/
theorem Arm.CountsOk.sampled {a : Arm} (h : a.CountsOk) {p : Profile} (hp : profileOk p = true) (f : Nat) :
    (a.sampled p f).CountsOk := by
  obtain ⟨slack, most, clear⟩ := runs_of_profileOk hp
  have zero : ∀ x, Arm.CountsOk ⟨f, x, 0, 0, 0⟩ := fun _ => ⟨Nat.zero_le _, Nat.zero_le _, Nat.zero_le _⟩
  have back : ∀ n, (if p.nClear ≤ n then ⟨f, .normal, 0, 0, 0⟩ else { a with tension := f, returnRun := n } : Arm).CountsOk := by
    intro n
    split
    · exact zero _
    · exact { h with returnRun := by dsimp only; omega }
  unfold Arm.sampled
  split
  · generalize (if f < p.slackAt then a.slackRun + 1 else 0) = n
    generalize (if p.overAt < f then a.overRun + 1 else 0) = m
    dsimp only
    split
    · exact zero _
    · split
      · exact zero _
      · exact ⟨by dsimp only; omega, by dsimp only; omega, h.returnRun⟩
  · exact back _
  · exact back _

theorem State.CountsOk.arm (h : s.CountsOk) (d : Side) : (s.arm d).CountsOk := by
  cases d
  · exact h.armL
  · exact h.armR

theorem withArm_counts (h : s.CountsOk) (d : Side) {a : Arm} (ha : a.CountsOk) : (s.withArm d a).CountsOk := by
  cases d
  · exact { h with armL := ha }
  · exact { h with armR := ha }

theorem judgeArm_counts (h : s.CountsOk) (hp : profileOk s.profile = true) (d : Side) (f : Nat) : (s.judgeArm d f).CountsOk := by
  have judged := withArm_counts h d ((h.arm d).sampled hp f)
  unfold State.judgeArm
  dsimp only
  split
  · exact judged
  · exact report_counts judged ..

theorem armMoved_counts (h : s.CountsOk) (d : Side) : (s.armMoved d).CountsOk := by
  have reported : (State.report { s with watch := none } .armMoved (sideNum d)).CountsOk :=
    report_counts (by exact { h with watch := nofun }) ..
  unfold State.armMoved
  dsimp only
  split
  · exact restartReels_counts (enter_counts reported _)
  · exact reported

theorem watchArm_counts (h : s.CountsOk) (d : Side) (raw : Nat) : (s.watchArm d raw).CountsOk := by
  unfold State.watchArm
  split
  · exact h
  · rename_i w hw
    obtain ⟨left, right⟩ := h.watch w hw
    dsimp only
    split
    · exact armMoved_counts h d
    · rename_i lt
      refine { h with watch := fun v hv => ?_ }
      cases hv
      cases d
      · exact ⟨Nat.not_lt.1 lt, right⟩
      · exact ⟨left, Nat.not_lt.1 lt⟩

theorem judgeArm_profile (d : Side) (f : Nat) : (s.judgeArm d f).profile = s.profile := by
  unfold State.judgeArm
  dsimp only
  split
  · cases d <;> rfl
  · cases d <;> exact State.reportTo_profile ..

theorem armSample_counts (h : s.CountsOk) (hp : profileOk s.profile = true) (d : Side) (raw : Nat) :
    (s.armSample d raw).CountsOk := watchArm_counts (judgeArm_counts h hp ..) ..

theorem mismatchAfter_le {n : Nat} (c x : Int) : mismatchAfter n c x ≤ 64 := by
  unfold mismatchAfter
  split
  · exact Nat.min_le_left ..
  · exact Nat.zero_le _

theorem currentSample_counts (h : s.CountsOk) (m : Motor) (raw : Nat) : (s.currentSample m raw).CountsOk := by
  have judged : ∀ (n : Nat) (c x : Int), n ≤ 64 → (if s.judging then mismatchAfter n c x else n) ≤ 64 := by
    intro n c x hn
    split
    · exact mismatchAfter_le c x
    · exact hn
  cases m
  · exact latchIf_counts (by exact { h with mismL := judged _ _ _ h.mismL }) ..
  · exact latchIf_counts (by exact { h with mismR := judged _ _ _ h.mismR }) ..
  · exact latchIf_counts (by exact { h with mismC := judged _ _ _ h.mismC }) ..

theorem supplyAfter_le (p : Profile) (n raw : Nat) : supplyAfter p n raw ≤ 16 := by
  unfold supplyAfter
  split
  · exact Nat.min_le_left ..
  · exact Nat.zero_le _

theorem supplySample_counts (h : s.CountsOk) (raw : Nat) : (s.supplySample raw).CountsOk := by
  unfold State.supplySample
  split
  · exact latchIf_counts (by exact { h with supply := supplyAfter_le .. }) ..
  · exact h

theorem handSample_counts (h : s.CountsOk) (hp : profileOk s.profile = true) (x : Slot) (raw : Nat) :
    (s.handSample x raw).CountsOk := by
  cases x
  case armL => exact armSample_counts h hp .left raw
  case armR => exact armSample_counts h hp .right raw
  case curL => exact currentSample_counts h .left raw
  case curR => exact currentSample_counts h .right raw
  case curC => exact currentSample_counts h .capstan raw
  case supply => exact supplySample_counts h raw
  case idle => exact h

/-! ### The servos -/

theorem syncAccel_counts (h : s.CountsOk) : s.syncAccel.CountsOk := { h with }

theorem derate_counts (h : s.CountsOk) : s.derate.CountsOk := by
  unfold State.derate
  split
  · exact h
  · split
    · exact report_counts (syncAccel_counts (by exact onActive_counts h h.passes)) ..
    · exact onActive_counts h h.passes

theorem Reel.CountsOk.driven {r : Reel} (h : r.CountsOk) (tauMax : Nat) (raw : Int) : (r.driven tauMax raw).1.CountsOk := by
  refine { h with sat := ?_ }
  dsimp only [Reel.driven]
  generalize (if clampInt (-(tauMax : Int)) tauMax raw = raw then 0 else r.sat + 1) = n
  split <;> omega

theorem driveReels_counts (h : s.CountsOk) : s.driveReels.CountsOk := by
  have derated : ∀ (b : Bool) (u : State), u.CountsOk → (if b then u.derate else u).CountsOk := by
    intro b u hu
    split
    · exact derate_counts hu
    · exact hu
  exact derated _ _ (derated _ _ (by exact { h with left := h.left.driven .., right := h.right.driven .. }))

theorem judgeSlip_counts (h : s.CountsOk) : s.judgeSlip.CountsOk := { h with }

theorem clampInt_natAbs (n : Nat) (x : Int) : (clampInt (-(n : Int)) n x).natAbs ≤ n := by
  rw [clampInt_eq _ _ _ (by omega)]
  omega

/-! ### The reference -/

theorem stepLocate_counts (h : s.CountsOk) : s.stepLocate.CountsOk := by
  unfold State.stepLocate
  split
  · split
    · split
      · exact passTarget_counts h _
      · exact { h with }
    · exact h
  · exact h

theorem formCeilings_counts (h : s.CountsOk) : s.formCeilings.CountsOk := { h with }

theorem stepReference_counts (h : s.CountsOk) (d : Demand) : (s.stepReference d).CountsOk := { h with }

theorem reportGuard_counts (h : s.CountsOk) (d : Direction) : (s.reportGuard d).CountsOk := by
  unfold State.reportGuard
  split
  · exact h
  · exact report_counts (by exact { h with }) ..

theorem settleHeld_counts (h : s.CountsOk) : s.settleHeld.CountsOk := by
  unfold State.settleHeld
  split
  · split
    · exact { h with }
    · exact h
  · exact h

theorem endWinding_counts (h : s.CountsOk) (d : Demand) (v : Int) : (s.endWinding d v).CountsOk := by
  have limited : State.CountsOk (match d.dir with
      | some x => if s.guardLimits x v then s.reportGuard x else s
      | none => s) := by
    split
    · split
      · exact reportGuard_counts h _
      · exact h
    · exact h
  unfold State.endWinding
  dsimp only
  split
  · split
    · split
      · split
        · exact failMove_counts limited _
        · exact failMove_counts h _
      · split
        · exact failMove_counts limited _
        · exact limited
    · exact limited
  · exact settleHeld_counts limited

theorem endPinched_counts (h : s.CountsOk) : s.endPinched.CountsOk := by
  unfold State.endPinched
  split
  · exact h
  · split
    · split
      · exact failMove_counts (reportGuard_counts h _) _
      · split
        · exact failMove_counts h _
        · exact h
    · split
      · exact failMove_counts h _
      · exact h

theorem endUpdate_counts (h : s.CountsOk) (d : Demand) (v : Int) : (s.endUpdate d v).CountsOk := by
  unfold State.endUpdate
  split
  case h_1 =>
    dsimp only
    split
    · exact enter_counts (endWinding_counts h ..) _
    · exact endWinding_counts h ..
  case h_2 | h_3 | h_4 => exact endPinched_counts h
  all_goals exact h

theorem referenceStep_counts (h : s.CountsOk) : s.referenceStep.CountsOk := by
  have ended := endUpdate_counts (stepReference_counts (formCeilings_counts (stepLocate_counts h))
    (s.stepLocate.formCeilings.demand s.stepLocate.formCeilings.ceiling))
    (s.stepLocate.formCeilings.demand s.stepLocate.formCeilings.ceiling) s.stepLocate.formCeilings.motion.vRef
  exact { ended with }

/-! ### Reference words and losses -/

theorem runAfter_le (c : Chase) (p : Profile) (f : Nat) : c.runAfter p f ≤ 3 := by
  unfold Chase.runAfter
  split
  · split
    · exact Nat.min_le_left ..
    · decide
  · decide

theorem readWord_counts (h : s.CountsOk) {f : Nat} (hf : f < 86400 * s.profile.rate) : (s.readWord f).CountsOk :=
  { h with run := runAfter_le .., frame := fun _ hg => Option.some.inj hg ▸ hf }

theorem withCounts_counts (h : s.CountsOk) {n k : Nat} (hn : n ≤ 9) (hk : k ≤ 2) : (s.withCounts n k).CountsOk :=
  { h with lock := hn, unlock := hk }

theorem correct_counts (h : s.CountsOk) (e : Int) : (s.correct e).CountsOk := { h with c := clampInt_natAbs 300 _ }

theorem dropSeek_counts (h : s.CountsOk) : s.dropSeek.CountsOk := { h with }

theorem seekWord_counts (h : s.CountsOk) (f : Nat) : (s.seekWord f).CountsOk := by
  unfold State.seekWord
  split
  · dsimp only
    split
    · exact beginSeek_counts h f
    · split
      · exact dropSeek_counts h
      · exact h
  · exact h

theorem approachWord_counts (h : s.CountsOk) (e : Int) : (s.approachWord e).CountsOk := by
  unfold State.approachWord
  generalize (if e.natAbs ≤ s.profile.lockWindow then s.chase.lock + 1 else 0) = n
  dsimp only
  split
  · exact correct_counts (withCounts_counts (setChase_counts h _) (Nat.zero_le _) (Nat.zero_le _)) e
  · exact correct_counts (withCounts_counts h (by omega) h.unlock) e

theorem lockedWord_counts (h : s.CountsOk) (e : Int) : (s.lockedWord e).CountsOk := by
  unfold State.lockedWord
  generalize (if 2 * s.profile.lockWindow < e.natAbs then s.chase.unlock + 1 else 0) = n
  dsimp only
  split
  · exact correct_counts (withCounts_counts (setChase_counts h _) (Nat.zero_le _) (Nat.zero_le _)) e
  · exact correct_counts (withCounts_counts h h.lock (by omega)) e

theorem followWord_counts (h : s.CountsOk) (f : Nat) : (s.followWord f).CountsOk := by
  unfold State.followWord
  split
  · exact failMove_counts h _
  · split
    · exact beginSeek_counts (withCounts_counts (setChase_counts h _) (Nat.zero_le _) (Nat.zero_le _)) f
    · split
      · exact h
      · split
        · exact lockedWord_counts h _
        · exact approachWord_counts h _

theorem returnWord_counts (h : s.CountsOk) (f : Nat) : (s.returnWord f).CountsOk := by
  have back : State.CountsOk { s with chase := { s.chase with freewheel := none, origin := none } } := { h with }
  unfold State.returnWord
  dsimp only
  split
  · exact failMove_counts back _
  · split
    · exact beginSeek_counts (setChase_counts back _) f
    · refine withCounts_counts (setChase_counts ?_ _) (Nat.zero_le _) (Nat.zero_le _)
      split
      · exact dropSeek_counts back
      · exact back

theorem chaseWord_counts (h : s.CountsOk) (f : Nat) : (s.chaseWord f).CountsOk := by
  unfold State.chaseWord
  split
  case h_1 => exact seekWord_counts h f
  case h_2 | h_3 => exact followWord_counts h f
  case h_4 | h_5 =>
    split
    · exact returnWord_counts h f
    · exact h
  case h_6 => exact h

theorem becomeLost_counts (h : s.CountsOk) : s.becomeLost.CountsOk := by
  have dropped : (if s.seeking then s.dropSeek else s).CountsOk := by
    split
    · exact dropSeek_counts h
    · exact h
  exact setChase_counts (by exact { dropped with }) _

theorem freewheel_counts (h : s.CountsOk) (o : ChaseOrigin) : (s.freewheel o).CountsOk := by
  have zeroed := withCounts_counts h (Nat.zero_le 9) (Nat.zero_le 2)
  unfold State.freewheel
  dsimp only
  split
  · exact becomeLost_counts zeroed
  · exact setChase_counts (by exact { zeroed with }) _

theorem loseReference_counts (h : s.CountsOk) : s.loseReference.CountsOk := by
  unfold State.loseReference
  split
  case h_1 | h_2 | h_3 => exact freewheel_counts h _
  all_goals exact h

/-! ### Cue bits and captures -/

theorem storeCue_counts (h : s.CountsOk) : s.storeCue.1.CountsOk := by
  unfold State.storeCue
  dsimp only
  split
  · exact h
  · split
    · exact h
    · exact { h with }

theorem reportMark_counts (h : s.CountsOk) : s.reportMark.CountsOk := by
  have taken : (if s.waitsForCue then s.finishMove .done else s).CountsOk := by
    split
    · exact finishMove_counts h _
    · exact h
  unfold State.reportMark
  generalize (if s.waitsForCue then s.finishMove .done else s) = u at taken
  dsimp only
  split
  · exact reportTo_counts (storeCue_counts taken) ..
  · exact reportTo_counts taken ..

/-- A detector's judgement of a bit keeps its run at most the threshold and its distance within the code (R147). -/
theorem Detector.CountsOk.judged {x : Detector} {n : Nat} {code : List Bool} (h : x.CountsOk n code) (hn : 4 ≤ n)
    (hc : 3 ≤ code.length) (hit : Bool) : (x.judged code.length n hit).CountsOk n code := by
  have len : 0 < code.length := by omega
  unfold Detector.judged
  split
  · split
    · exact ⟨by dsimp only; omega, len⟩
    · exact h
  · split
    · exact ⟨h.run, by dsimp only; omega⟩
    · split
      · exact ⟨Nat.min_le_left .., len⟩
      · exact fresh_countsOk hc n

/-- The reported flag is no counter. -/
theorem Detector.CountsOk.flagged {x : Detector} {n : Nat} {code : List Bool} (h : x.CountsOk n code) (p : Prop) [Decidable p] :
    (if p then { x with reported := true } else x).CountsOk n code := by
  split
  · exact { h with }
  · exact h

theorem judgeBit_counts (h : s.CountsOk) (d : Direction) : (s.judgeBit d).CountsOk := by
  have marked : ∀ (b : Bool) (u : State), u.CountsOk → (if b then u.reportMark else u).CountsOk := by
    intro b u hu
    split
    · exact reportMark_counts hu
    · exact hu
  have cleared : ∀ (b : Bool) (u : State), u.CountsOk → (if b then u.reportClear else u).CountsOk := by
    intro b u hu
    split
    · exact report_counts hu ..
    · exact hu
  refine cleared _ _ (marked _ _ ?_)
  exact { h with
    mark := (h.mark.judged h.threshold.1 h.codes.1 _).flagged _
    clear := (h.clear.judged h.threshold.1 h.codes.2.2.1 _).flagged _ }

theorem clearDetection_counts (h : s.CountsOk) : State.CountsOk { s with cue := s.cue.clearDetection } :=
  { h with mark := h.freshMark, clear := h.freshClear }

theorem takeBit_counts (h : s.CountsOk) (b : Bool) (d : Direction) : State.CountsOk { s with cue := s.cue.take b d } := by
  have turned : State.CountsOk { s with
      cue := if s.cue.hist ≠ [] ∧ s.cue.histDir ≠ d then s.cue.clearDetection else s.cue } := by
    split
    · exact clearDetection_counts h
    · exact h
  exact { turned with }

theorem readBit_counts (h : s.CountsOk) (b : Bool) : (s.readBit b).CountsOk := by
  unfold State.readBit
  split
  · exact judgeBit_counts (takeBit_counts h ..) _
  · exact clearDetection_counts h

theorem writeBit_counts (h : s.CountsOk) : s.writeBit.CountsOk := by
  unfold State.writeBit
  split
  · exact { h with }
  · exact h

/-- A sample after the trigger counts toward the post-trigger count, which it can reach and not pass (R163). -/
theorem sampled_postTaken {c : Capture} (h : c.CountsOk) (v : List Int) : (c.sampled v).postTaken ≤ c.post := by
  unfold Capture.sampled
  dsimp only
  split
  · exact (h.triggered ‹_›).2
  · exact h.postTaken

/-- A RING capture that a sample does not end has not reached its post-trigger count (R163). -/
theorem sampled_triggered {c : Capture} (h : c.CountsOk) (v : List Int) (e : (c.sampled v).ending = none)
    (g : c.state = .triggered) : c.mode = .ring ∧ (c.sampled v).postTaken < c.post := by
  have mode := (h.triggered g).1
  refine ⟨mode, Nat.lt_of_not_le fun le => ?_⟩
  have ring : (c.sampled v).mode = .ring := mode
  have state : (c.sampled v).state = .triggered := g
  rw [Capture.ending, ring] at e
  simp [state, le, show (c.sampled v).post = c.post from rfl] at e

theorem takeSample_counts (h : s.CountsOk) : s.takeSample.CountsOk := by
  have post := sampled_postTaken h.capture (s.capture.channels.map s.sampleOf)
  have taken := Nat.min_le_left 4294967295 (s.capture.taken + 1)
  unfold State.takeSample
  dsimp only
  split
  · rename_i r _
    have done := captureDone_counts (s := { s with capture :=
      { s.capture.sampled (s.capture.channels.map s.sampleOf) with state := .done } })
      { h with capture := { h.capture with postTaken := post, triggered := nofun, taken := taken } } r
    exact done
  · exact { h with capture := { h.capture with
      postTaken := post, triggered := sampled_triggered h.capture _ ‹_›, taken := taken } }

end Sys2Proof.Machine
end

section
/-! Every command keeps the counters in range, row by row, and so does every step. -/

namespace Sys2Proof.Machine
variable {s t : State}

/-! ### Outcomes -/

/-- Every next state that an outcome gives has its counters in range. -/
def LeadsToCounts (o : Host.Outcome State Fault Refusal) : Prop := ∀ t, o = .next t → t.CountsOk

theorem leads_next (h : t.CountsOk) : LeadsToCounts (.next t) := fun _ e => by cases e; exact h

theorem leads_refused (x : Refusal) : LeadsToCounts (.refused x) := fun _ e => by simp at e

/-- The end of most steps: the reactions due, then the transmitters. -/
theorem leads_settled (h : t.CountsOk) : LeadsToCounts (.next t.settle.handOver) :=
  leads_next (handOver_counts (settle_counts h))

theorem leads_ite {p : Prop} [Decidable p] {o q : Host.Outcome State Fault Refusal} (ho : p → LeadsToCounts o)
    (hq : ¬p → LeadsToCounts q) : LeadsToCounts (if p then o else q) := by
  split
  · exact ho ‹_›
  · exact hq ‹_›

theorem counts_ite {p : Prop} [Decidable p] {u v : State} (hu : p → u.CountsOk) (hv : ¬p → v.CountsOk) :
    (if p then u else v).CountsOk := by
  split
  · exact hu ‹_›
  · exact hv ‹_›

theorem reach_counts (h : s.CountsOk) (n : Nat) : (s.reach n).CountsOk := { h with }

/-! ### Reset and start-up -/

theorem execSettlePeriodEnd_counts (h : s.CountsOk) : LeadsToCounts (execSettlePeriodEnd s) := by
  unfold execSettlePeriodEnd
  split
  · exact leads_next (settle_counts (readInputs_counts (by exact { h with })))
  all_goals exact leads_next h

theorem execProfileLoadDone_counts (h : s.CountsOk) : LeadsToCounts (execProfileLoadDone s) := by
  have loaded := loadProfile_counts h
  unfold execProfileLoadDone
  split
  · exact leads_next (handNotices_counts (by exact { loaded with }))
  all_goals exact leads_next h

theorem execResetInputRelease_counts (h : s.CountsOk) : LeadsToCounts (execResetInputRelease s) := by
  unfold execResetInputRelease
  split
  · exact leads_next { h with }
  all_goals exact leads_next h

theorem execDeferredReset_counts (h : s.CountsOk) : LeadsToCounts (execDeferredReset s) := by
  unfold execDeferredReset
  split
  · exact leads_ite (fun _ => leads_next (linkReset_counts h _)) fun _ => leads_next h
  · exact leads_next h

/-! ### Counts, rest, words -/

theorem execRollerCount_counts (h : s.CountsOk) (d : Direction) : LeadsToCounts (execRollerCount d s) := by
  have summed := rollerSums_counts h d
  refine leads_ite (fun _ => leads_ite (fun _ => leads_next summed) fun limit => ?_) fun _ => leads_next h
  exact leads_next (handOver_counts (stepPosition_counts summed d (Bool.eq_false_of_not_eq_true limit)))

theorem execReelCount_counts (h : s.CountsOk) (r : Side) (d : Direction) : LeadsToCounts (execReelCount r d s) := by
  have tached := tach_counts h r d
  refine leads_ite (fun _ => leads_ite (fun _ => leads_next tached) fun _ => ?_) fun _ => leads_next h
  have measured := withReel_counts tached r ((tached.reel r).counted s.profile d s.now)
  exact leads_settled (counts_ite (fun _ => latchFault_counts (by exact { measured with }) _) fun _ => { measured with })

theorem execCapstanCount_counts (h : s.CountsOk) (d : Direction) : LeadsToCounts (execCapstanCount d s) :=
  leads_ite (fun _ => leads_next { h with }) fun _ => leads_next h

theorem execWindowTimeout_counts (h : s.CountsOk) (r : Side) : LeadsToCounts (execWindowTimeout r s) := by
  unfold execWindowTimeout
  split
  · exact leads_next (withReel_counts (reach_counts h _) r { h.reel r with angle := nofun })
  · exact leads_next h

theorem execRestTimerExpiry_counts (h : s.CountsOk) : LeadsToCounts (execRestTimerExpiry s) :=
  leads_ite (fun _ => leads_next h) fun _ => leads_settled (restSettled_counts (by exact { h with }))

theorem execTapeTimecodeWord_counts (h : s.CountsOk) (w : BcdTime) (rev : Bool) :
    LeadsToCounts (execTapeTimecodeWord w rev s) := by
  unfold execTapeTimecodeWord
  split
  · split
    · exact leads_ite (fun _ => leads_next (withAnchor_counts h _)) fun _ =>
        leads_next (handOver_counts (disagree_counts h ..))
    · exact leads_next (handOver_counts (disagree_counts h ..))
  · exact leads_next { h with chain := Nat.zero_le _ }

/-! ### Samples and input lines -/

theorem execConversionComplete_counts (h : s.CountsOk) (hp : profileOk s.profile = true) (raw : BitVec 12) :
    LeadsToCounts (execConversionComplete raw s) :=
  leads_ite (fun _ => leads_next h) fun _ => leads_settled (handSample_counts (by exact { h with }) (by exact hp) ..)

theorem execDriveFaultInput_counts (h : s.CountsOk) (m : Motor) (b : Bool) : LeadsToCounts (execDriveFaultInput m b s) := by
  have lined : State.CountsOk { s with pins := s.pins.withDriveFault m b } := { h with }
  exact leads_ite (fun _ => leads_settled (latchFault_counts lined _)) fun _ => leads_next lined

theorem execSupplyWarningInput_counts (h : s.CountsOk) (b : Bool) : LeadsToCounts (execSupplyWarningInput b s) := by
  have lined : State.CountsOk { s with pins := { s.pins with supplyWarning := b } } := { h with }
  exact leads_ite (fun _ => leads_settled (latchFault_counts lined _)) fun _ => leads_next lined

theorem execPinchEngagedSense_counts (h : s.CountsOk) (b : Bool) : LeadsToCounts (execPinchEngagedSense b s) :=
  leads_settled (by exact { h with })

/-! ### The servos and the ends of timers -/

theorem execReelServoUpdate_counts (h : s.CountsOk) : LeadsToCounts (execReelServoUpdate s) :=
  leads_ite (fun _ => leads_next (judgeSlip_counts (by exact { h with }))) fun _ =>
    leads_next (handOver_counts (judgeSlip_counts (driveReels_counts (by exact { h with }))))

theorem execCapstanUpdate_counts (h : s.CountsOk) : LeadsToCounts (execCapstanUpdate s) := by
  refine leads_next { h with integral := ?_ }
  dsimp only
  split
  · exact clampInt_natAbs 1024 _
  · exact Nat.zero_le _

theorem execRollerSlipTimeout_counts (h : s.CountsOk) : LeadsToCounts (execRollerSlipTimeout s) := by
  unfold execRollerSlipTimeout
  split
  · exact leads_settled (latchFault_counts (by exact { h with }) _)
  · exact leads_next h

theorem execPinchTimeout_counts (h : s.CountsOk) : LeadsToCounts (execPinchTimeout s) := by
  unfold execPinchTimeout
  split
  · exact leads_settled (latchFault_counts (by exact { h with }) _)
  · exact leads_next h

theorem execDurationExpiry_counts (h : s.CountsOk) : LeadsToCounts (execDurationExpiry s) := by
  unfold execDurationExpiry
  split
  · exact leads_settled (finishMove_counts (reach_counts h _) _)
  · exact leads_next h

theorem execThreadCheckTimeout_counts (h : s.CountsOk) : LeadsToCounts (execThreadCheckTimeout s) := by
  unfold execThreadCheckTimeout
  split
  · exact leads_settled (report_counts (enter_counts (reach_counts h _) _) ..)
  · exact leads_next h

theorem execMeasureTimeout_counts (h : s.CountsOk) : LeadsToCounts (execMeasureTimeout s) := by
  unfold execMeasureTimeout
  split
  · exact leads_settled (latchFault_counts (reach_counts h _) _)
  · exact leads_next h

theorem execBrakingTimeout_counts (h : s.CountsOk) : LeadsToCounts (execBrakingTimeout s) := by
  unfold execBrakingTimeout
  split
  · exact leads_settled (enter_counts (reach_counts h _) _)
  · exact leads_next h

theorem execSupervisionExpiry_counts (h : s.CountsOk) : LeadsToCounts (execSupervisionExpiry s) := by
  unfold execSupervisionExpiry
  split
  · exact leads_settled (report_counts (stopTransport_counts (endAll_counts (by exact { h with }) _)) ..)
  · exact leads_next h

theorem execReferenceUpdate_counts (h : s.CountsOk) : LeadsToCounts (execReferenceUpdate s) :=
  leads_ite (fun _ => leads_next (handOver_counts (by exact { h with }))) fun _ =>
    leads_settled (referenceStep_counts (by exact { h with }))

/-! ### Reference words, cue bits, sample events -/

theorem execReferenceWord_counts (h : s.CountsOk) (w : BcdTime) (rev : Bool) : LeadsToCounts (execReferenceWord w rev s) := by
  refine leads_ite (fun _ => leads_next h) fun _ => ?_
  split
  · rename_i f _ hf
    have read := readWord_counts h (timecodeFrames_lt hf)
    exact leads_settled (counts_ite (fun _ => chaseWord_counts read _) fun _ => read)
  · exact leads_next { h with run := Nat.zero_le _ }

theorem execLossTimerExpiry_counts (h : s.CountsOk) : LeadsToCounts (execLossTimerExpiry s) := by
  unfold execLossTimerExpiry
  split
  · rename_i n _
    have lost : State.CountsOk { s.reach (n + Config.usec (ceilDiv 2000000 s.profile.rate)) with
        chase := { s.chase with present := false, run := 0, lossTimer := none } } := { h with run := Nat.zero_le _ }
    exact leads_settled (counts_ite (fun _ => loseReference_counts lost) fun _ => lost)
  · exact leads_next h

theorem execFreewheelExpiry_counts (h : s.CountsOk) : LeadsToCounts (execFreewheelExpiry s) := by
  unfold execFreewheelExpiry
  split
  · exact leads_settled (becomeLost_counts (reach_counts h _))
  · exact leads_next h

theorem execCueBit_counts (h : s.CountsOk) (b : Bool) : LeadsToCounts (execCueBit b s) :=
  leads_ite (fun _ => leads_next h) fun _ => leads_ite (fun _ => leads_next (writeBit_counts h)) fun _ =>
    leads_settled (readBit_counts h b)

theorem execCaptureSampleEvent_counts (h : s.CountsOk) : LeadsToCounts (execCaptureSampleEvent s) := by
  have come : State.CountsOk { s.reach (s.capture.lastEvent + Config.updateTime) with
      capture := { s.capture with lastEvent := (s.reach (s.capture.lastEvent + Config.updateTime)).now } } :=
    { h with capture := { h.capture with } }
  have advanced : State.CountsOk { s.reach (s.capture.lastEvent + Config.updateTime) with
      capture := Capture.advancePhase { s.capture with
        lastEvent := (s.reach (s.capture.lastEvent + Config.updateTime)).now } } :=
    { h with capture := { h.capture with phase := Nat.mod_lt _ h.capture.decim.1 } }
  unfold execCaptureSampleEvent
  dsimp only
  split
  case h_1 | h_2 =>
    exact leads_next (handOver_counts (counts_ite (fun _ => takeSample_counts advanced) fun _ => advanced))
  all_goals exact leads_next come

/-! ### The links -/

theorem heard_counts (h : s.CountsOk) (l : Link) : (s.heard l).CountsOk := by
  unfold State.heard
  split
  · exact { h with }
  · exact h

theorem deliver_counts (h : s.CountsOk) (l : Link) (f : Frame) : (s.deliver l f).CountsOk := by
  unfold State.deliver
  split
  · exact heard_counts (withPort_counts h l (by exact h.latches l)) l
  · exact h

theorem withPart_counts (h : s.CountsOk) (l : Link) (b : Option Bytes) : (s.withPart l b).CountsOk :=
  withPort_counts h l (h.latches l)

theorem collect_counts (h : s.CountsOk) (l : Link) (b : Bytes) : (s.collect l b).CountsOk := by
  unfold State.collect
  split
  · exact withPart_counts h ..
  · split
    · exact withPart_counts h ..
    · dsimp only
      split
      · exact deliver_counts (withPart_counts h ..) ..
      · exact withPart_counts h ..

theorem execFrameReceived_counts (h : s.CountsOk) (l : Link) (kind tag : Byte) (body : Bytes) :
    LeadsToCounts (execFrameReceived l kind tag body s) :=
  leads_ite (fun _ => leads_refused _) fun _ => leads_ite (fun _ => leads_next (deliver_counts h ..)) fun _ => leads_next h

theorem execByteReceived_counts (h : s.CountsOk) (l : Link) (b : Byte) (stop : Bool) :
    LeadsToCounts (execByteReceived l b stop s) := by
  refine leads_ite (fun _ => leads_ite (fun _ => ?_) fun _ => leads_next (withPart_counts h ..)) fun _ => leads_next h
  split
  · exact leads_next (collect_counts h ..)
  · exact leads_next (counts_ite (fun _ => withPart_counts h ..) fun _ => h)

theorem execFrameGapTimeout_counts (h : s.CountsOk) (l : Link) : LeadsToCounts (execFrameGapTimeout l s) := by
  unfold execFrameGapTimeout
  split
  · exact leads_next (withPort_counts (reach_counts h _) l ((reach_counts h _).latches l))
  · exact leads_next h

theorem execTransmitDone_counts (h : s.CountsOk) (l : Link) : LeadsToCounts (execTransmitDone l s) := by
  have idle : (s.idleTransmitter l).CountsOk := withPort_counts h l (h.latches l)
  have chosen : ((s.idleTransmitter l).chooseNext l).CountsOk := by
    have fed := feed_counts idle l
    have none : ((s.idleTransmitter l).port l).sending = none := by cases l <;> rfl
    simpa only [State.feed, none] using fed
  unfold execTransmitDone
  dsimp only
  split
  · exact leads_ite (fun _ => leads_next (linkReset_counts idle _)) fun _ => leads_next chosen
  · exact leads_next chosen

theorem execPositionReportPeriod_counts (h : s.CountsOk) : LeadsToCounts (execPositionReportPeriod s) :=
  leads_ite (fun _ => leads_next h) fun _ =>
    leads_next (handOver_counts (withPort_counts (by exact { h with }) _ (by exact h.latches _)))

theorem execProfileWriteDone_counts (h : s.CountsOk) : LeadsToCounts (execProfileWriteDone s) :=
  leads_ite (fun _ => leads_next (handOver_counts (report_counts (by exact { h with }) ..))) fun _ => leads_next h

/-! ### Requests -/

theorem takeFrame_counts (h : s.CountsOk) (kind : Byte) (r : Request) : (s.takeFrame kind r).1.CountsOk := by
  unfold State.takeFrame
  dsimp only
  split
  · split
    · split
      · exact withPort_counts h _ (h.latches _)
      · exact deliver_counts h ..
    · split
      · exact heard_counts h _
      · exact h
  · exact h

theorem reply_counts (h : s.CountsOk) (l : Link) (o : Outgoing) : (s.reply l o).CountsOk :=
  withPort_counts h l (h.latches l)

/-- A request leads to right counts when its answer does from every state that has them. -/
theorem request_counts (h : s.CountsOk) {kind : Byte} {r : Request} {answer : State → Answer}
    (ha : ∀ u : State, u.CountsOk → (answer u).state.CountsOk) : LeadsToCounts (s.request kind r answer) := by
  have taken := takeFrame_counts h kind r
  exact leads_ite (fun _ => leads_refused _) fun _ =>
    leads_ite (fun _ => leads_next (handOver_counts (reply_counts (ha _ taken) ..))) fun _ => leads_next taken

/-- What a checked request leaves is right when the request it grants is, all its checks having passed. -/
theorem checked_counts (h : s.CountsOk) {checks : List Check} {act : Answer}
    (ha : (∀ c ∈ checks, c = none) → act.state.CountsOk) : (s.checked checks act).state.CountsOk := by
  unfold State.checked
  split
  · exact h
  · rename_i e
    exact ha fun c hc => List.findSome?_eq_none_iff.1 e c hc

/-- Fields that pass their check are all valid. -/
theorem fields_of_checkFields {l : List Bool} (h : checkFields l = none) : ∀ b ∈ l, b = true := by
  unfold checkFields firstBad at h
  split at h
  · cases h
  · rename_i e
    intro b hb
    simpa using List.findIdx?_eq_none_iff.1 e b hb

theorem execUnknownKind_counts (h : s.CountsOk) (kind : Byte) (r : Request) : LeadsToCounts (execUnknownKind kind r s) := by
  have taken := takeFrame_counts h kind r
  exact leads_ite (fun _ => leads_refused _) fun _ =>
    leads_ite (fun _ => leads_next (handOver_counts (reply_counts taken ..))) fun _ => leads_next taken

/-! ### The reads -/

theorem execReadStatus_counts (h : s.CountsOk) (r : Request) : LeadsToCounts (execReadStatus r s) :=
  request_counts h fun _ hu => checked_counts hu fun _ => hu

theorem execReadPosition_counts (h : s.CountsOk) (r : Request) : LeadsToCounts (execReadPosition r s) :=
  request_counts h fun _ hu => checked_counts hu fun _ => hu

theorem execReadReelModel_counts (h : s.CountsOk) (r : Request) : LeadsToCounts (execReadReelModel r s) :=
  request_counts h fun _ hu => checked_counts hu fun _ => hu

theorem execReadMoves_counts (h : s.CountsOk) (r : Request) : LeadsToCounts (execReadMoves r s) :=
  request_counts h fun _ hu => checked_counts hu fun _ => hu

theorem execReadLocateTable_counts (h : s.CountsOk) (r : Request) : LeadsToCounts (execReadLocateTable r s) :=
  request_counts h fun _ hu => checked_counts hu fun _ => hu

theorem execReadZones_counts (h : s.CountsOk) (r : Request) : LeadsToCounts (execReadZones r s) :=
  request_counts h fun _ hu => checked_counts hu fun _ => hu

theorem execReadCapture_counts (h : s.CountsOk) (r : Request) : LeadsToCounts (execReadCapture r s) :=
  request_counts h fun _ hu => checked_counts hu fun _ => hu

theorem execReadProfile_counts (h : s.CountsOk) (r : Request) : LeadsToCounts (execReadProfile r s) :=
  request_counts h fun _ hu => checked_counts hu fun _ => hu

theorem execReadEvents_counts (h : s.CountsOk) (r : Request) : LeadsToCounts (execReadEvents r s) :=
  request_counts h fun _ hu => checked_counts hu fun _ => hu

/-! ### Requests about motion -/

theorem allocMove_counts (h : s.CountsOk) (i slot : Nat) : (s.allocMove i slot).CountsOk := { h with }

theorem join_counts (h : s.CountsOk) (r : MoveRecord) : (s.join r).CountsOk := by
  have alloc : ∀ i : Option Nat, State.CountsOk (match i with
      | some i => s.allocMove i r.slot
      | none => s) := by
    intro i
    split
    · exact allocMove_counts h ..
    · exact h
  exact { alloc (if r.needsComp then (freeIndices s.comps).head? else none) with }

theorem afterJoin_counts (h : s.CountsOk) : s.afterJoin.CountsOk :=
  counts_ite (fun _ => activate_counts (supersede_counts h)) fun _ => supersede_counts h

theorem execSubmitMove_counts (h : s.CountsOk) (r : Request) : LeadsToCounts (execSubmitMove r s) :=
  request_counts h fun _ hu => checked_counts hu fun _ => settle_counts (afterJoin_counts (join_counts hu _))

theorem flushAll_counts (h : s.CountsOk) : s.flushAll.CountsOk := by
  unfold State.flushAll
  split
  · exact h
  · exact stopTransport_counts (endAll_counts h _)

theorem flushWaiting_counts (h : s.CountsOk) : s.flushWaiting.CountsOk := { dropRecords_counts s.waiting h with }

theorem execFlushMoves_counts (h : s.CountsOk) (r : Request) : LeadsToCounts (execFlushMoves r s) := by
  refine request_counts h fun u hu => checked_counts hu fun _ => ?_
  split
  · exact settle_counts (flushAll_counts hu)
  · exact flushWaiting_counts hu

theorem execStop_counts (h : s.CountsOk) (r : Request) : LeadsToCounts (execStop r s) :=
  request_counts h fun _ hu => checked_counts hu fun _ => settle_counts (stopTransport_counts (endAll_counts hu _))

theorem enterSizing_counts (h : s.CountsOk) (v : SizingVariant) : (s.enterSizing v).CountsOk :=
  enter_counts (by exact { h with sizing := fun _ hz => Option.some.inj hz ▸ Nat.zero_le 3 }) _

theorem execSizeReels_counts (h : s.CountsOk) (r : Request) : LeadsToCounts (execSizeReels r s) :=
  request_counts h fun _ hu => checked_counts hu fun _ => settle_counts (enterSizing_counts (restartReels_counts hu) _)

theorem execEnterStandby_counts (h : s.CountsOk) (r : Request) : LeadsToCounts (execEnterStandby r s) :=
  request_counts h fun _ hu => checked_counts hu fun _ => settle_counts (enter_counts hu _)

theorem execWake_counts (h : s.CountsOk) (r : Request) : LeadsToCounts (execWake r s) :=
  request_counts h fun _ hu => checked_counts hu fun _ => settle_counts (enterSizing_counts hu _)

theorem clearFault_counts (h : s.CountsOk) : s.clearFault.state.CountsOk := by
  have cleared : s.clearKinds.CountsOk := by
    have restarted := counts_ite (p := .tapeBreak ∈ s.faults.set ∨ .radiusLost ∈ s.faults.set)
      (fun _ => restartReels_counts h) fun _ => h
    exact { restarted with }
  unfold State.clearFault
  split
  · exact settle_counts (enter_counts (by exact { cleared with }) _)
  · exact cleared

theorem execClearFault_counts (h : s.CountsOk) (r : Request) : LeadsToCounts (execClearFault r s) :=
  request_counts h fun _ hu => checked_counts hu fun _ => clearFault_counts hu

/-! ### Requests about tables -/

theorem execSetZone_counts (h : s.CountsOk) (r : Request) : LeadsToCounts (execSetZone r s) :=
  request_counts h fun _ hu => checked_counts hu fun _ => { hu with }

theorem execClearZone_counts (h : s.CountsOk) (r : Request) : LeadsToCounts (execClearZone r s) :=
  request_counts h fun _ hu => checked_counts hu fun _ => { hu with }

theorem execSetLocateEntry_counts (h : s.CountsOk) (r : Request) : LeadsToCounts (execSetLocateEntry r s) :=
  request_counts h fun _ hu => checked_counts hu fun _ => { hu with }

theorem execClearLocateEntry_counts (h : s.CountsOk) (r : Request) : LeadsToCounts (execClearLocateEntry r s) :=
  request_counts h fun _ hu => checked_counts hu fun _ => { hu with }

theorem execSetAnchor_counts (h : s.CountsOk) (r : Request) : LeadsToCounts (execSetAnchor r s) :=
  request_counts h fun _ hu => checked_counts hu fun _ => { hu with chain := Nat.zero_le _ }

theorem execSetSchedule_counts (h : s.CountsOk) (r : Request) : LeadsToCounts (execSetSchedule r s) :=
  request_counts h fun _ hu => checked_counts hu fun _ => { hu with }

/-! ### Requests about watches, captures and the cue track -/

theorem execWatchPosition_counts (h : s.CountsOk) (r : Request) : LeadsToCounts (execWatchPosition r s) :=
  request_counts h fun _ hu => checked_counts hu fun _ => setComp_counts hu ..

theorem execCancelWatch_counts (h : s.CountsOk) (r : Request) : LeadsToCounts (execCancelWatch r s) := by
  refine request_counts h fun u hu => checked_counts hu fun _ => ?_
  split
  · exact { hu with }
  · exact freeComp_counts hu (some (bodyU8 r.body 0))

/-- A valid Arm Capture describes a capture with its counts in range: at most four channels leave room for 2,048 samples or more,
and the post-trigger count is clamped to that room (R161, 9.4). -/
theorem armedCapture_countsOk {b : Bytes} (h : checkFields (armFields b) = none) (l : Link) (n : Nat) :
    (armedCapture b l n).CountsOk := by
  have channels := fields_of_checkFields h (inRange 1 4 (bodyU8 b 2)) (by simp [armFields])
  simp only [inRange, Bool.and_eq_true, decide_eq_true_eq] at channels
  have room : 1 ≤ captureCapacity (bodyU8 b 2) ∧ captureCapacity (bodyU8 b 2) ≤ 8192 :=
    ⟨(Nat.le_div_iff_mul_le channels.1).2 (by omega), Nat.div_le_self ..⟩
  have clamped : ∀ lo hi x : Nat, lo ≤ hi → lo ≤ clampNat lo hi x ∧ clampNat lo hi x ≤ hi := by
    intro lo hi x le
    rw [clampNat_eq _ _ _ le]
    omega
  refine ⟨clamped 1 64 _ (by decide), (clamped 1 64 _ (by decide)).1, ?_, ?_, nofun, Nat.zero_le _⟩
  · dsimp only [armedCapture]
    split
    · exact ⟨(clamped _ _ _ room.1).1, (clamped _ _ _ room.1).2.trans room.2⟩
    · exact ⟨Nat.le_refl 1, by decide⟩
  · exact Nat.zero_le _

theorem giveUpCapture_counts (h : s.CountsOk) (r : Request) : (s.giveUpCapture r).CountsOk :=
  counts_ite (fun _ => reportTo_counts (captureIdle_counts h) ..) fun _ => captureIdle_counts h

theorem takeStartComp_counts (h : s.CountsOk) (c : Capture) : (s.takeStartComp c).1.CountsOk := by
  unfold State.takeStartComp
  split
  · exact setComp_counts h ..
  · exact h

theorem takeEndComp_counts (h : s.CountsOk) (c : Capture) : (s.takeEndComp c).1.CountsOk := by
  unfold State.takeEndComp
  split
  · exact setComp_counts h ..
  · exact setComp_counts h ..
  · exact h

theorem beginCapture_counts (h : s.CountsOk) {c : Capture} (hc : c.CountsOk) : (s.beginCapture c).CountsOk := by
  have comps := takeEndComp_counts (takeStartComp_counts h c) c
  have armed : State.CountsOk { ((s.takeStartComp c).1.takeEndComp c).1 with
      capture := { c with
        state := .armed, startComp := (s.takeStartComp c).2, endComp := ((s.takeStartComp c).1.takeEndComp c).2 } } :=
    { comps with capture := { hc with triggered := nofun } }
  unfold State.beginCapture
  dsimp only
  split
  · exact armed
  · exact captureRun_counts armed

theorem execArmCapture_counts (h : s.CountsOk) (r : Request) : LeadsToCounts (execArmCapture r s) := by
  refine request_counts h fun u hu => checked_counts hu fun passed => ?_
  have fields : checkFields (armFields r.body) = none := passed _ (by simp)
  exact beginCapture_counts (giveUpCapture_counts hu r) (armedCapture_countsOk fields ..)

theorem triggerCapture_counts (h : s.CountsOk) : s.triggerCapture.CountsOk := by
  have run := captureRun_counts h
  unfold State.triggerCapture
  split
  · exact freeComp_counts (by exact { run with capture := { run.capture with } }) _
  · exact captureTrigger_counts h
  · exact h

theorem execTriggerCapture_counts (h : s.CountsOk) (r : Request) : LeadsToCounts (execTriggerCapture r s) :=
  request_counts h fun _ hu => checked_counts hu fun _ => triggerCapture_counts hu

theorem execAbortCapture_counts (h : s.CountsOk) (r : Request) : LeadsToCounts (execAbortCapture r s) :=
  request_counts h fun _ hu => checked_counts hu fun _ => counts_ite (fun _ => captureDone_counts hu _) fun _ => hu

theorem execReleaseCapture_counts (h : s.CountsOk) (r : Request) : LeadsToCounts (execReleaseCapture r s) :=
  request_counts h fun _ hu => checked_counts hu fun _ => captureIdle_counts hu

theorem execSetCueCodes_counts (h : s.CountsOk) (r : Request) : LeadsToCounts (execSetCueCodes r s) := by
  refine request_counts h fun u hu => checked_counts hu fun passed => ?_
  have field := fields_of_checkFields (passed (checkFields (cueFields r.body)) (by simp))
  have mark := field (inRange 3 8 (bodyU8 r.body 0)) (by simp [cueFields])
  have clear := field (inRange 3 8 (bodyU8 r.body 2)) (by simp [cueFields])
  have threshold := field (inRange 4 16 (bodyU8 r.body 4)) (by simp [cueFields])
  simp only [inRange, Bool.and_eq_true, decide_eq_true_eq] at mark clear threshold
  have markLength : (bodyMark r.body).length = bodyU8 r.body 0 := by simp [bodyMark, codeBits]
  have clearLength : (bodyClear r.body).length = bodyU8 r.body 2 := by simp [bodyClear, codeBits]
  exact { hu with
    threshold := threshold
    codes := ⟨markLength ▸ mark.1, markLength ▸ mark.2, clearLength ▸ clear.1, clearLength ▸ clear.2⟩
    mark := fresh_countsOk (markLength ▸ mark.1) _
    clear := fresh_countsOk (clearLength ▸ clear.1) _ }

theorem execSetAutoCue_counts (h : s.CountsOk) (r : Request) : LeadsToCounts (execSetAutoCue r s) :=
  request_counts h fun _ hu => checked_counts hu fun _ => { hu with }

theorem armWrite_counts (h : s.CountsOk) (b : Bytes) : (s.armWrite b).CountsOk := { h with }

theorem execWriteCue_counts (h : s.CountsOk) (r : Request) : LeadsToCounts (execWriteCue r s) :=
  request_counts h fun _ hu => checked_counts hu fun _ => tryCueWrite_counts (armWrite_counts hu _)

theorem execCancelCueWrite_counts (h : s.CountsOk) (r : Request) : LeadsToCounts (execCancelCueWrite r s) :=
  request_counts h fun _ hu => checked_counts hu fun _ => endCueWrite_counts hu _

/-! ### Requests about ownership, events, reports, the profile and resets -/

theorem withOwner_counts (h : s.CountsOk) (o : Owner) : (s.withOwner o).CountsOk := by
  have owned : State.CountsOk { s with
      ctl := { s.ctl with owner := o }
      faults := { s.faults with
        supervision := if o = .free then none else s.faults.supervision.map (fun _ => s.now) } } := { h with }
  exact counts_ite (fun _ => owned) fun _ => withPort_counts owned _ (by exact owned.latches _)

theorem seize_counts (h : s.CountsOk) : s.seize.CountsOk :=
  settle_counts (reportTo_counts (stopTransport_counts (endAll_counts (withOwner_counts h _) _)) ..)

theorem claim_counts (h : s.CountsOk) (l : Link) : (s.claim l).CountsOk := by
  unfold State.claim
  split
  · exact withOwner_counts h _
  · exact withOwner_counts h _
  · exact seize_counts h
  · exact h
  · exact h

theorem execClaimTransport_counts (h : s.CountsOk) (r : Request) : LeadsToCounts (execClaimTransport r s) :=
  request_counts h fun _ hu => checked_counts hu fun _ => claim_counts hu _

theorem execReleaseTransport_counts (h : s.CountsOk) (r : Request) : LeadsToCounts (execReleaseTransport r s) :=
  request_counts h fun _ hu => checked_counts hu fun _ => withOwner_counts hu _

theorem execSetEventMask_counts (h : s.CountsOk) (r : Request) : LeadsToCounts (execSetEventMask r s) :=
  request_counts h fun _ hu => checked_counts hu fun _ => withPort_counts hu _ (hu.latches _)

theorem acknowledged_latchCounts {l : List (Option Latch)} (h : ∀ x, some x ∈ l → 1 ≤ x.count ∧ x.count ≤ 255) (m : Nat) :
    ∀ x, some x ∈ acknowledged l m → 1 ≤ x.count ∧ x.count ≤ 255 := by
  intro x hx
  obtain ⟨⟨o, i⟩, ho, e⟩ := List.mem_map.1 hx
  split at e
  · cases e
  · cases e
    exact h x (List.mem_of_getElem? (List.mem_zipIdx_iff_getElem?.1 ho))

theorem execAcknowledgeEvents_counts (h : s.CountsOk) (r : Request) : LeadsToCounts (execAcknowledgeEvents r s) :=
  request_counts h fun _ hu => checked_counts hu fun _ =>
    withPort_counts hu _ (acknowledged_latchCounts (hu.latches _) _)

theorem withRate_counts (h : s.CountsOk) (n : Nat) : (s.withRate n).CountsOk :=
  counts_ite (fun _ => { h with latches := fun
    | .deck => h.latches .deck
    | .service => h.latches .service }) fun _ => { h with }

theorem execSetReportRate_counts (h : s.CountsOk) (r : Request) : LeadsToCounts (execSetReportRate r s) :=
  request_counts h fun _ hu => checked_counts hu fun _ => withRate_counts hu _

theorem execWriteProfile_counts (h : s.CountsOk) (r : Request) : LeadsToCounts (execWriteProfile r s) :=
  request_counts h fun _ hu => checked_counts hu fun _ => writeProfile_counts hu _

theorem resetPart_counts (h : s.CountsOk) (l : Link) : (s.resetPart l).state.CountsOk := by
  unfold State.resetPart
  split
  · exact h
  · exact settle_counts (stopTransport_counts (endAll_counts (by exact { h with }) _))

theorem execResetPart_counts (h : s.CountsOk) (r : Request) : LeadsToCounts (execResetPart r s) :=
  request_counts h fun _ hu => checked_counts hu fun _ => resetPart_counts hu _

/-! ### Every command -/

/-- Every command keeps the counters in range, the working copy being valid (R192). -/
theorem exec_counts (h : s.CountsOk) (hp : profileOk s.profile = true) (c : Instr) : LeadsToCounts (exec c s) := by
  cases c with
  | powerOn => exact leads_next (afterReset_counts h ..)
  | resetLine => exact leads_next (afterReset_counts h ..)
  | settlePeriodEnd => exact execSettlePeriodEnd_counts h
  | profileLoadDone => exact execProfileLoadDone_counts h
  | rollerCount d => exact execRollerCount_counts h d
  | reelCount r d => exact execReelCount_counts h r d
  | capstanCount d => exact execCapstanCount_counts h d
  | windowTimeout r => exact execWindowTimeout_counts h r
  | restTimerExpiry => exact execRestTimerExpiry_counts h
  | tapeTimecodeWord w rev => exact execTapeTimecodeWord_counts h w rev
  | conversionComplete raw => exact execConversionComplete_counts h hp raw
  | driveFaultInput m b => exact execDriveFaultInput_counts h m b
  | supplyWarningInput b => exact execSupplyWarningInput_counts h b
  | reelServoUpdate => exact execReelServoUpdate_counts h
  | rollerSlipTimeout => exact execRollerSlipTimeout_counts h
  | referenceUpdate => exact execReferenceUpdate_counts h
  | capstanUpdate => exact execCapstanUpdate_counts h
  | pinchEngagedSense b => exact execPinchEngagedSense_counts h b
  | pinchTimeout => exact execPinchTimeout_counts h
  | durationExpiry => exact execDurationExpiry_counts h
  | threadCheckTimeout => exact execThreadCheckTimeout_counts h
  | measureTimeout => exact execMeasureTimeout_counts h
  | brakingTimeout => exact execBrakingTimeout_counts h
  | supervisionExpiry => exact execSupervisionExpiry_counts h
  | referenceWord w rev => exact execReferenceWord_counts h w rev
  | lossTimerExpiry => exact execLossTimerExpiry_counts h
  | freewheelExpiry => exact execFreewheelExpiry_counts h
  | cueBit b => exact execCueBit_counts h b
  | captureSampleEvent => exact execCaptureSampleEvent_counts h
  | positionReportPeriod => exact execPositionReportPeriod_counts h
  | frameReceived l kind tag body => exact execFrameReceived_counts h l kind tag body
  | frameGapTimeout l => exact execFrameGapTimeout_counts h l
  | transmitDone l => exact execTransmitDone_counts h l
  | deferredReset => exact execDeferredReset_counts h
  | profileWriteDone => exact execProfileWriteDone_counts h
  | unknownKind kind r => exact execUnknownKind_counts h kind r
  | readStatus r => exact execReadStatus_counts h r
  | readPosition r => exact execReadPosition_counts h r
  | readReelModel r => exact execReadReelModel_counts h r
  | readMoves r => exact execReadMoves_counts h r
  | readLocateTable r => exact execReadLocateTable_counts h r
  | readZones r => exact execReadZones_counts h r
  | readCapture r => exact execReadCapture_counts h r
  | readProfile r => exact execReadProfile_counts h r
  | readEvents r => exact execReadEvents_counts h r
  | claimTransport r => exact execClaimTransport_counts h r
  | releaseTransport r => exact execReleaseTransport_counts h r
  | submitMove r => exact execSubmitMove_counts h r
  | flushMoves r => exact execFlushMoves_counts h r
  | stop r => exact execStop_counts h r
  | sizeReels r => exact execSizeReels_counts h r
  | enterStandby r => exact execEnterStandby_counts h r
  | wake r => exact execWake_counts h r
  | clearFault r => exact execClearFault_counts h r
  | setZone r => exact execSetZone_counts h r
  | clearZone r => exact execClearZone_counts h r
  | setLocateEntry r => exact execSetLocateEntry_counts h r
  | clearLocateEntry r => exact execClearLocateEntry_counts h r
  | setAnchor r => exact execSetAnchor_counts h r
  | setSchedule r => exact execSetSchedule_counts h r
  | setEventMask r => exact execSetEventMask_counts h r
  | acknowledgeEvents r => exact execAcknowledgeEvents_counts h r
  | setReportRate r => exact execSetReportRate_counts h r
  | watchPosition r => exact execWatchPosition_counts h r
  | cancelWatch r => exact execCancelWatch_counts h r
  | armCapture r => exact execArmCapture_counts h r
  | triggerCapture r => exact execTriggerCapture_counts h r
  | abortCapture r => exact execAbortCapture_counts h r
  | releaseCapture r => exact execReleaseCapture_counts h r
  | setCueCodes r => exact execSetCueCodes_counts h r
  | setAutoCue r => exact execSetAutoCue_counts h r
  | writeCue r => exact execWriteCue_counts h r
  | cancelCueWrite r => exact execCancelCueWrite_counts h r
  | writeProfile r => exact execWriteProfile_counts h r
  | resetPart r => exact execResetPart_counts h r
  | resetInputRelease => exact execResetInputRelease_counts h
  | byteReceived l b stop => exact execByteReceived_counts h l b stop

/-- Settles O11: the clock's tick touches no counter, and a command runs on the state with the queue's rest, which has the same
counters. -/
theorem stepKeepsCounts : Obligations.StepKeepsCounts := by
  intro s t hp h e
  unfold step at e
  split at e
  · rename_i c rest _
    exact exec_counts (s := s.withPending rest) { h with } hp.valid c t e
  · cases e
    exact { h with }

end Sys2Proof.Machine
end

section
/-! Frames: the groups of registers a change may write, and one lemma for each group written alone. -/

namespace Sys2Proof.Machine
variable {s t u : State} {v w : List Group}

/-! ### Frames -/

/-- The registers outside some groups hold in `t` what they held in `s`. -/
structure State.SameBut (w : List Group) (s t : State) : Prop where
  same : ∀ g, g ∉ w → g.Same s t

theorem Group.same_refl (g : Group) (s : State) : g.Same s s := by
  cases g <;> simp [Group.Same, Reel.SameModel, Reel.SameDrive]

theorem Reel.SameModel.trans {a b c : Reel} (h : b.SameModel a) (k : c.SameModel b) : c.SameModel a := by
  obtain ⟨h1, h2, h3, h4, h5⟩ := h
  obtain ⟨k1, k2, k3, k4, k5⟩ := k
  exact ⟨k1.trans h1, k2.trans h2, k3.trans h3, k4.trans h4, k5.trans h5⟩

theorem Reel.SameDrive.trans {a b c : Reel} (h : b.SameDrive a) (k : c.SameDrive b) : c.SameDrive a := by
  obtain ⟨h1, h2, h3⟩ := h
  obtain ⟨k1, k2, k3⟩ := k
  exact ⟨k1.trans h1, k2.trans h2, k3.trans h3⟩

theorem Group.same_trans {g : Group} (h : g.Same s t) (k : g.Same t u) : g.Same s u := by
  cases g
  case estimates =>
    obtain ⟨hl, hr, hf, hb⟩ := h
    obtain ⟨kl, kr, kf, kb⟩ := k
    exact ⟨hl.trans kl, hr.trans kr, kf.trans hf, kb.trans hb⟩
  case drive =>
    exact ⟨h.1.trans k.1, h.2.trans k.2⟩
  case sequencer => exact Eq.trans k (by rw [h])
  case chase => exact Eq.trans k (by rw [h])
  all_goals grind [Group.Same]

theorem sameBut_refl (w : List Group) (s : State) : State.SameBut w s s := ⟨fun g _ => g.same_refl s⟩

/-- One change after another may write what either may. -/
theorem State.SameBut.trans (h : State.SameBut v s t) (k : State.SameBut w t u) : State.SameBut (v ++ w) s u :=
  ⟨fun g n => Group.same_trans (h.same g fun m => n (List.mem_append_left w m))
    (k.same g fun m => n (List.mem_append_right v m))⟩

theorem State.SameBut.mono (h : State.SameBut v s t) (m : v ⊆ w) : State.SameBut w s t :=
  ⟨fun g n => h.same g fun k => n (m k)⟩

theorem sameBut_of_backdrop (h : t.backdrop = s.backdrop) : State.SameBut transportGroups s t :=
  ⟨same_of_backdrop h⟩

theorem sameBut_ite {p : Prop} [Decidable p] (h : p → State.SameBut w s t) (k : ¬p → State.SameBut w s u) :
    State.SameBut w s (if p then t else u) := by
  split
  · exact h ‹_›
  · exact k ‹_›

/-! ### One group of registers written -/

/-- The clock belongs to no group. -/
theorem reach_sameBut (n : Nat) :
    State.SameBut [] s (s.reach n) := by
  refine ⟨fun g n => ?_⟩
  have h := g.same_refl s
  cases g <;> exact h

theorem startup_sameBut (x : Startup) :
    State.SameBut [.start] s { s with startup := x } := by
  refine ⟨fun g n => ?_⟩
  have h := g.same_refl s
  cases g <;> first | exact h | exact absurd (by decide) n

theorem pins_sameBut (x : Pins) :
    State.SameBut [.pins] s { s with pins := x } := by
  refine ⟨fun g n => ?_⟩
  have h := g.same_refl s
  cases g <;> first | exact h | exact absurd (by decide) n

theorem pos_sameBut (x : Int) :
    State.SameBut [.position] s { s with position := { s.position with pos := x } } := by
  refine ⟨fun g n => ?_⟩
  have h := g.same_refl s
  cases g <;> first | exact h | exact absurd (by decide) n

theorem rest_sameBut (b : Bool) (x : Nat) :
    State.SameBut [.rest] s { s with position := { s.position with atRest := b, restStart := x } } := by
  refine ⟨fun g n => ?_⟩
  have h := g.same_refl s
  cases g <;> first | exact h | exact absurd (by decide) n

theorem anchor_sameBut (a : Option Anchor) (c : Chain) :
    State.SameBut [.anchor] s { s with position := { s.position with anchor := a, chain := c } } := by
  refine ⟨fun g n => ?_⟩
  have h := g.same_refl s
  cases g <;> first | exact h | exact absurd (by decide) n

theorem locate_sameBut (x : List (Option LocateEntry)) :
    State.SameBut [.locateTable] s { s with position := { s.position with locate := x } } := by
  refine ⟨fun g n => ?_⟩
  have h := g.same_refl s
  cases g <;> first | exact h | exact absurd (by decide) n

theorem speed_sameBut (x : SpeedMeter) :
    State.SameBut [.speed, .interval, .command] s { s with speed := x } := by
  refine ⟨fun g n => ?_⟩
  have h := g.same_refl s
  cases g <;> first | exact h | exact absurd (by decide) n

theorem interval_sameBut (x : Int) :
    State.SameBut [.interval] s { s with speed := { s.speed with cur := x } } := by
  refine ⟨fun g n => ?_⟩
  have h := g.same_refl s
  cases g <;> first | exact h | exact absurd (by decide) n

theorem conv_sameBut (x : Converter) :
    State.SameBut [.converter] s { s with conv := x } := by
  refine ⟨fun g n => ?_⟩
  have h := g.same_refl s
  cases g <;> first | exact h | exact absurd (by decide) n

theorem zones_sameBut (x : List (Option Zone)) :
    State.SameBut [.zones] s { s with zones := { s.zones with entries := x } } := by
  refine ⟨fun g n => ?_⟩
  have h := g.same_refl s
  cases g <;> first | exact h | exact absurd (by decide) n

theorem formCeilings_sameBut :
    State.SameBut [.zoneCeilings] s s.formCeilings := by
  refine ⟨fun g n => ?_⟩
  have h := g.same_refl s
  cases g <;> first | exact h | exact absurd (by decide) n

theorem reformGuards_sameBut :
    State.SameBut [.estimates] s s.reformGuards := by
  refine ⟨fun g n => ?_⟩
  have h := g.same_refl s
  cases g <;> first | exact h | exact absurd (by decide) n

theorem updateTime_sameBut (x : Nat) :
    State.SameBut [.updateTime] s { s with motion := { s.motion with lastUpdate := x } } := by
  refine ⟨fun g n => ?_⟩
  have h := g.same_refl s
  cases g <;> first | exact h | exact rfl | exact absurd (by decide) n

theorem accel_sameBut (x : Nat) :
    State.SameBut [.sequencer] s { s with motion := { s.motion with accel := x } } := by
  refine ⟨fun g n => ?_⟩
  have h := g.same_refl s
  cases g <;> first | exact h | exact absurd (by decide) n

theorem onActive_sameBut (f : ActiveMove → ActiveMove) :
    State.SameBut [.moves] s (s.onActive f) := by
  refine ⟨fun g n => ?_⟩
  have h := g.same_refl s
  cases g <;> first | exact h | exact rfl | exact absurd (by decide) n

theorem slip_sameBut (x : Option Nat) :
    State.SameBut [.slip] s { s with faults := { s.faults with slip := x } } := by
  refine ⟨fun g n => ?_⟩
  have h := g.same_refl s
  cases g <;> first | exact h | exact absurd (by decide) n

theorem supervision_sameBut (x : Option Nat) :
    State.SameBut [.supervision] s { s with faults := { s.faults with supervision := x } } := by
  refine ⟨fun g n => ?_⟩
  have h := g.same_refl s
  cases g <;> first | exact h | exact absurd (by decide) n

theorem counters_sameBut (a b c d : Nat) :
    State.SameBut [.counters] s { s with
      faults := { s.faults with mismL := a, mismR := b, mismC := c, supply := d } } := by
  refine ⟨fun g n => ?_⟩
  have h := g.same_refl s
  cases g <;> first | exact h | exact absurd (by decide) n

theorem comps_sameBut (x : List (Option Comparator)) :
    State.SameBut [.comparators] s { s with comps := x } := by
  refine ⟨fun g n => ?_⟩
  have h := g.same_refl s
  cases g <;> first | exact h | exact absurd (by decide) n

theorem capture_sameBut (x : Capture) :
    State.SameBut [.captureSetup, .captureState, .samples, .sampleTime] s { s with capture := x } := by
  refine ⟨fun g n => ?_⟩
  have h := g.same_refl s
  cases g <;> first | exact h | exact absurd (by decide) n

theorem capstan_sameBut (x : Capstan) :
    State.SameBut [.capstanSpeed, .capstanInterval, .capstanLoop] s { s with capstan := x } := by
  refine ⟨fun g n => ?_⟩
  have h := g.same_refl s
  cases g <;> first | exact h | exact absurd (by decide) n

theorem store_sameBut (x : Store) :
    State.SameBut [.store] s { s with store := x } := by
  refine ⟨fun g n => ?_⟩
  have h := g.same_refl s
  cases g <;> first | exact h | exact absurd (by decide) n

theorem profile_sameBut (x : Profile) :
    State.SameBut [.profile] s { s with profile := x } := by
  refine ⟨fun g n => ?_⟩
  have h := g.same_refl s
  cases g <;> first | exact h | exact absurd (by decide) n

theorem free_sameBut (x : Nat) :
    State.SameBut [.free] s { s with free := x } := by
  refine ⟨fun g n => ?_⟩
  have h := g.same_refl s
  cases g <;> first | exact h | exact absurd (by decide) n

theorem arms_sameBut (x y : Arm) :
    State.SameBut [.arms] s { s with armL := x, armR := y } := by
  refine ⟨fun g n => ?_⟩
  have h := g.same_refl s
  cases g <;> first | exact h | exact absurd (by decide) n

theorem latches_sameBut (l : Link) (x : List (Option Latch)) :
    State.SameBut [.latches] s (s.withPort l { s.port l with latches := x }) := by
  refine ⟨fun g n => ?_⟩
  have h := g.same_refl s
  cases l <;> cases g <;> first
    | exact h
    | exact absurd (by decide) n
    | exact fun | .deck => h .deck | .service => h .service

theorem mask_sameBut (l : Link) (x : BitVec 16) :
    State.SameBut [.masks] s (s.withPort l { s.port l with mask := x }) := by
  refine ⟨fun g n => ?_⟩
  have h := g.same_refl s
  cases l <;> cases g <;> first
    | exact h
    | exact absurd (by decide) n
    | exact fun | .deck => h .deck | .service => h .service

theorem report_sameBut (l : Link) (x : Option Bytes) :
    State.SameBut [.reports] s (s.withPort l { s.port l with report := x }) := by
  refine ⟨fun g n => ?_⟩
  have h := g.same_refl s
  cases l <;> cases g <;> first
    | exact h
    | exact absurd (by decide) n
    | exact fun | .deck => h .deck | .service => h .service

theorem replies_sameBut (l : Link) (x : List Outgoing) :
    State.SameBut [.replies] s (s.withPort l { s.port l with replies := x }) := by
  refine ⟨fun g n => ?_⟩
  have h := g.same_refl s
  cases l <;> cases g <;> first
    | exact h
    | exact absurd (by decide) n
    | exact fun | .deck => h .deck | .service => h .service

theorem receiver_sameBut (l : Link) (x : List Frame) (y : Option Bytes) (z : Nat) :
    State.SameBut [.receivers] s (s.withPort l { s.port l with
      rx := x, part := y, lastByte := z }) := by
  refine ⟨fun g n => ?_⟩
  have h := g.same_refl s
  cases l <;> cases g <;> first
    | exact h
    | exact absurd (by decide) n
    | exact fun | .deck => h .deck | .service => h .service

theorem transmitter_sameBut (l : Link) (x : Option Frame) (y : Option Outgoing) :
    State.SameBut [.transmitters] s (s.withPort l { s.port l with
      notice := x, sending := y }) := by
  refine ⟨fun g n => ?_⟩
  have h := g.same_refl s
  cases l <;> cases g <;> first
    | exact h
    | exact absurd (by decide) n
    | exact fun | .deck => h .deck | .service => h .service

end Sys2Proof.Machine
end

section
/-! What the resets, the counts, the words, the samples and the servos write. -/

namespace Sys2Proof.Machine
variable {s t u : State} {v w : List Group}

/-! ### Shared operations -/

theorem reportTo_sameBut (l : Link) (src : Source) (x pos : Int) : State.SameBut [.latches] s (s.reportTo l src x pos) := by
  unfold State.reportTo LinkPort.offer
  split
  · exact latches_sameBut l _
  · rw [withPort_port]
    exact sameBut_refl _ s

theorem freeComp_sameBut (i : Option Nat) : State.SameBut [.comparators] s (s.freeComp i) := by
  cases i
  · exact sameBut_refl _ s
  · exact comps_sameBut _

theorem capture_state_sameBut (a : CapState) (b : Nat) (c e : Option Nat) (d : Nat) (r : Option DoneReason) :
    State.SameBut [.captureState] s { s with capture := { s.capture with
      state := a, phase := b, startComp := c, endComp := e, postTaken := d, reason := r } } := by
  refine ⟨fun g n => ?_⟩
  have h := g.same_refl s
  cases g <;> first | exact h | exact absurd (by decide) n

theorem captureDone_sameBut (r : DoneReason) :
    State.SameBut [.captureState, .comparators, .latches] s (s.captureDone r) := by
  have freed := ((capture_state_sameBut (s := s) .done s.capture.phase none none s.capture.postTaken (some r)).trans
    (freeComp_sameBut s.capture.startComp)).trans (freeComp_sameBut s.capture.endComp)
  unfold State.captureDone
  dsimp only
  split
  · exact (freed.trans (reportTo_sameBut ..)).mono (by decide)
  · exact freed.mono (by decide)

theorem captureRun_sameBut : State.SameBut [.captureState, .comparators] s s.captureRun := by
  have running := capture_state_sameBut (s := s) .running 0 s.capture.startComp s.capture.endComp s.capture.postTaken
    s.capture.reason
  unfold State.captureRun
  dsimp only
  split
  · exact running.trans (comps_sameBut _)
  · exact running.mono (by decide)

theorem captureTrigger_sameBut : State.SameBut [.captureState, .comparators] s s.captureTrigger := by
  have triggered := capture_state_sameBut (s := s) .triggered s.capture.phase s.capture.startComp none 0 s.capture.reason
  exact sameBut_ite (fun _ => triggered.trans (freeComp_sameBut s.capture.endComp)) fun _ => sameBut_refl _ s

/-- A change of the capture that keeps the moment of its last sample event. -/
theorem capture_setup_sameBut {c : Capture} (e : c.lastEvent = s.capture.lastEvent) :
    State.SameBut [.captureSetup, .captureState, .samples] s { s with capture := c } := by
  refine ⟨fun g n => ?_⟩
  have h := g.same_refl s
  cases g <;> first | exact h | exact e | exact absurd (by decide) n

theorem captureIdle_sameBut :
    State.SameBut [.captureSetup, .captureState, .samples, .comparators] s s.captureIdle :=
  (((capture_setup_sameBut (s := s) (c := Capture.idle s.capture.lastEvent) rfl).trans
    (freeComp_sameBut s.capture.startComp)).trans (freeComp_sameBut s.capture.endComp)).mono (by decide)

theorem cue_writer_sameBut (a : GenState) (b : Option WriteCtx) (c : CueOut) :
    State.SameBut [.cueWriter] s { s with cue := { s.cue with gen := a, write := b, out := c } } := by
  refine ⟨fun g n => ?_⟩
  have h := g.same_refl s
  cases g <;> first | exact h | exact absurd (by decide) n

theorem cue_history_sameBut (a : List Bool) (b : Direction) (c d : Detector) :
    State.SameBut [.cueHistory] s { s with cue := { s.cue with hist := a, histDir := b, detMark := c, detClear := d } } := by
  refine ⟨fun g n => ?_⟩
  have h := g.same_refl s
  cases g <;> first | exact h | exact absurd (by decide) n

theorem endCueWrite_sameBut (b : Nat) : State.SameBut [.cueWriter, .comparators, .latches] s (s.endCueWrite b) := by
  unfold State.endCueWrite
  split
  · exact sameBut_refl _ s
  · exact ((((cue_writer_sameBut .idle none .inactive).trans (freeComp_sameBut _)).trans (freeComp_sameBut _)).trans
      (reportTo_sameBut ..)).mono (by decide)

theorem tryCueWrite_sameBut : State.SameBut [.cueWriter, .cueHistory] s s.tryCueWrite := by
  unfold State.tryCueWrite
  split
  · exact sameBut_refl _ s
  · rename_i x _
    exact sameBut_ite (fun _ => (cue_writer_sameBut .writing (some { x with bitIndex := 0 }) (.active none)).trans
      (cue_history_sameBut [] s.cue.histDir Detector.fresh Detector.fresh)) fun _ => sameBut_refl _ s

/-- A reel with the same drive. -/
theorem withReel_sameBut (d : Side) {r : Reel} (e : r.SameDrive (s.reel d)) :
    State.SameBut [.estimates, .windows] s (s.withReel d r) := by
  refine ⟨fun g n => ?_⟩
  have h := g.same_refl s
  cases d <;> cases g
  case left.drive => exact ⟨e, rfl, rfl, rfl⟩
  case right.drive => exact ⟨⟨rfl, rfl, rfl⟩, e⟩
  all_goals first | exact h | exact absurd (by decide) n

/-- A reel that keeps all but its window. -/
theorem withReel_window_sameBut (d : Side) (x : Option Window) :
    State.SameBut [.windows] s (s.withReel d { s.reel d with window := x }) := by
  refine ⟨fun g n => ?_⟩
  have h := g.same_refl s
  cases d <;> cases g <;> first | exact h | exact absurd (by decide) n

/-- A reel that keeps all but its drive. -/
theorem withReel_drive_sameBut (d : Side) (a b : Int) (c : Nat) :
    State.SameBut [.drive] s (s.withReel d { s.reel d with torque := a, code := b, sat := c }) := by
  refine ⟨fun g n => ?_⟩
  have h := g.same_refl s
  cases d <;> cases g <;> first | exact h | exact absurd (by decide) n

theorem restartReels_sameBut : State.SameBut [.estimates, .windows] s s.restartReels :=
  (((withReel_sameBut (s := s) .left (r := s.reelL.restart s.profile) ⟨rfl, rfl, rfl⟩).trans
    (withReel_sameBut .right (r := s.reelR.restart s.profile) ⟨rfl, rfl, rfl⟩)).trans reformGuards_sameBut).mono (by decide)

/-- The reader under a new working copy (R128). -/
theorem reprofiled_reader_sameBut (p q : Profile) :
    State.SameBut [.reader] s { s with chase := s.chase.reprofiled p q } := by
  unfold Chase.reprofiled
  split
  · exact sameBut_refl _ s
  · refine ⟨fun g n => ?_⟩
    have h := g.same_refl s
    cases g <;> first | exact h | exact rfl | exact absurd (by decide) n

/-! ### Outcomes -/

/-- A command writes the given groups alone, the transmitters' own choice at its end apart (R182). -/
def WritesOnly (w : List Group) (s : State) (o : Host.Outcome State Fault Refusal) : Prop :=
  ∀ t, o = .next t → ∃ u, (t = u ∨ t = u.handOver) ∧ State.SameBut w s u

theorem writes_next (h : State.SameBut w s t) : WritesOnly w s (.next t) :=
  fun _ e => ⟨t, .inl (by cases e; rfl), h⟩

theorem writes_handOver (h : State.SameBut w s t) : WritesOnly w s (.next t.handOver) :=
  fun _ e => ⟨t, .inr (by cases e; rfl), h⟩

theorem writes_none : WritesOnly w s (.next s) := writes_next (sameBut_refl w s)

theorem writes_refused (x : Refusal) : WritesOnly w s (.refused x) := fun _ e => by simp at e

theorem writes_ite {p : Prop} [Decidable p] {o q : Host.Outcome State Fault Refusal} (h : p → WritesOnly w s o)
    (k : ¬p → WritesOnly w s q) : WritesOnly w s (if p then o else q) := by
  split
  · exact h ‹_›
  · exact k ‹_›

/-- A change that may write some groups, then one that is the sequencer's and the units' it moves. -/
theorem State.SameBut.thenBackdrop (h : State.SameBut v s t) (k : u.backdrop = t.backdrop) :
    State.SameBut (v ++ transportGroups) s u := h.trans (sameBut_of_backdrop k)

/-- The end of most steps. -/
theorem writes_settled (h : State.SameBut v s t) (k : u.backdrop = t.backdrop) (m : v ++ transportGroups ⊆ w) :
    WritesOnly w s (.next u.settle.handOver) :=
  writes_handOver ((h.thenBackdrop (settle_backdrop.trans k)).mono m)

/-! ### Reset and start-up -/

theorem execSettlePeriodEnd_writes : WritesOnly (.start :: transportGroups) s (execSettlePeriodEnd s) := by
  unfold execSettlePeriodEnd
  split
  · refine writes_next (State.SameBut.mono (State.SameBut.thenBackdrop ((reach_sameBut _).trans (startup_sameBut _))
      (settle_backdrop.trans readInputs_backdrop)) (by decide))
  all_goals exact writes_none

theorem execResetInputRelease_writes : WritesOnly [.start, .converter] s (execResetInputRelease s) := by
  unfold execResetInputRelease
  split
  · exact writes_next ((startup_sameBut { s.startup with phase := .settle, start := s.now }).trans (conv_sameBut _))
  all_goals exact writes_none

theorem handNotice_eq (p : LinkPort) (f : Frame) :
    p.handNotice f = { p with notice := (p.handNotice f).notice, sending := (p.handNotice f).sending } := by
  unfold LinkPort.handNotice
  split <;> rfl

theorem handNotices_sameBut : State.SameBut [.transmitters] s s.handNotices := by
  have both := (transmitter_sameBut (s := s) .deck (s.deck.handNotice s.startUpNotice).notice
    (s.deck.handNotice s.startUpNotice).sending).trans (transmitter_sameBut .service
    (s.service.handNotice s.startUpNotice).notice (s.service.handNotice s.startUpNotice).sending)
  have e : s.handNotices = (s.withPort .deck (s.deck.handNotice s.startUpNotice)).withPort .service
    (s.service.handNotice s.startUpNotice) := rfl
  rw [e, handNotice_eq s.deck, handNotice_eq s.service]
  exact both.mono (by decide)

theorem loadProfile_sameBut : State.SameBut [.profile, .store, .estimates, .windows, .sequencer, .reader] s s.loadProfile :=
  (((((((reprofiled_reader_sameBut s.profile s.store.load.1).trans (profile_sameBut s.store.load.1)).trans
    (store_sameBut { s.store with invalid := s.store.load.2 })).trans
    (withReel_sameBut .left (r := s.reelL.restart s.store.load.1) ⟨rfl, rfl, rfl⟩)).trans
    (withReel_sameBut .right (r := s.reelR.restart s.store.load.1) ⟨rfl, rfl, rfl⟩)).trans
    (accel_sameBut s.store.load.1.accel)).trans reformGuards_sameBut).mono (by decide)

theorem execProfileLoadDone_writes :
    WritesOnly [.start, .profile, .store, .estimates, .windows, .drive, .sequencer, .reader, .transmitters] s
      (execProfileLoadDone s) := by
  unfold execProfileLoadDone
  split
  · exact writes_next (((loadProfile_sameBut.trans (startup_sameBut _)).trans handNotices_sameBut).mono (by decide))
  all_goals exact writes_none

/-! ### Counts, rest, words -/

theorem rollerSums_sameBut (d : Direction) : State.SameBut [.rest, .interval, .windows] s (s.rollerSums d) :=
  (((rest_sameBut false s.now).trans (interval_sameBut (s.speed.cur + dirSign d))).trans
    ((withReel_window_sameBut .left (s.reelL.rolled d).window).trans
      (withReel_window_sameBut .right (s.reelR.rolled d).window))).mono (by decide)

theorem reports_backdrop (l : List Int) (src : Source) (pos : Int) :
    ∀ s : State, (l.foldl (fun t v => t.reportAt src v pos) s).backdrop = s.backdrop := by
  induction l with
  | nil => exact fun _ => rfl
  | cons x l ih => exact fun s => (ih _).trans (reportAt_backdrop ..)

theorem stepZones_sameBut (d : Direction) : State.SameBut (.zones :: transportGroups) s (s.stepZones d) :=
  (zones_sameBut _).thenBackdrop (reports_backdrop ..)

@[simp] theorem deliverHit_backdrop (i : Nat) (c : Comparator) : (s.deliverHit i c).backdrop = s.backdrop := by
  unfold State.deliverHit
  split
  · split
    · split
      · exact finishMove_backdrop _
      · rfl
    · rfl
  · split
    · exact captureRun_backdrop
    · rfl
  · split
    · exact captureDone_backdrop _
    · exact captureTrigger_backdrop
    · rfl
  · exact tryCueWrite_backdrop
  · split
    · exact endCueWrite_backdrop _
    · exact endCueWrite_backdrop _
    · rfl
  · exact reportAt_backdrop ..

theorem deliverHits_backdrop (l : List (Nat × Comparator)) :
    ∀ s : State, (l.foldl (fun t x => t.deliverHit x.1 x.2) s).backdrop = s.backdrop := by
  induction l with
  | nil => exact fun _ => rfl
  | cons x l ih => exact fun s => (ih _).trans (deliverHit_backdrop ..)

@[simp] theorem stepComps_backdrop (d : Direction) : (s.stepComps d).backdrop = s.backdrop := by
  refine (deliverHits_backdrop ..).trans ?_
  simp [State.backdrop, Function.comp_def, List.map_const']

theorem stepPosition_sameBut (d : Direction) :
    State.SameBut ([.position, .zones] ++ transportGroups) s (s.stepPosition d) :=
  (((pos_sameBut (s.position.pos + dirSign d)).trans (stepZones_sameBut d)).thenBackdrop
    (settle_backdrop.trans (stepComps_backdrop d))).mono (by decide)

theorem execRollerCount_writes (d : Direction) :
    WritesOnly ([.position, .rest, .interval, .zones] ++ transportGroups) s (execRollerCount d s) :=
  writes_ite (fun _ => writes_ite (fun _ => writes_next ((rollerSums_sameBut d).mono (by decide))) fun _ =>
    writes_handOver (((rollerSums_sameBut d).trans (stepPosition_sameBut d)).mono (by decide))) fun _ => writes_none

theorem tach_sameBut (r : Side) (d : Direction) :
    State.SameBut [.tachs] s { s with position := s.position.tach r d } := by
  refine ⟨fun g n => ?_⟩
  have h := g.same_refl s
  cases r <;> cases g <;> first | exact h | exact absurd (by decide) n

/-- A reel's encoder count does not touch its drive. -/
theorem counted_drive (r : Reel) (p : Profile) (d : Direction) (now : Nat) : (r.counted p d now).1.SameDrive r := by
  unfold Reel.counted
  split
  · exact ⟨rfl, rfl, rfl⟩
  · split
    · split
      · unfold Reel.measured
        split
        · exact ⟨rfl, rfl, rfl⟩
        · split <;> exact ⟨rfl, rfl, rfl⟩
      · exact ⟨rfl, rfl, rfl⟩
    · exact ⟨rfl, rfl, rfl⟩

theorem reel_tach (r q : Side) (d : Direction) : State.reel { s with position := s.position.tach r d } q = s.reel q := by
  cases q <;> rfl

theorem execReelCount_writes (r : Side) (d : Direction) :
    WritesOnly ([.tachs, .estimates] ++ transportGroups) s (execReelCount r d s) := by
  have measured := ((tach_sameBut (s := s) r d).trans (withReel_sameBut r
    (counted_drive (State.reel { s with position := s.position.tach r d } r) s.profile d s.now))).trans reformGuards_sameBut
  refine writes_ite (fun _ => writes_ite (fun _ => writes_next ((tach_sameBut r d).mono (by decide))) fun _ => ?_)
    fun _ => writes_none
  refine writes_settled measured ?_ (by decide)
  dsimp only
  split
  · exact latchFault_backdrop _
  · rfl

theorem execCapstanCount_writes (d : Direction) : WritesOnly [.capstanInterval] s (execCapstanCount d s) := by
  refine writes_ite (fun _ => writes_next ?_) fun _ => writes_none
  refine ⟨fun g n => ?_⟩
  have h := g.same_refl s
  cases g <;> first | exact h | exact absurd (by decide) n

theorem execWindowTimeout_writes (r : Side) : WritesOnly [.windows] s (execWindowTimeout r s) := by
  unfold execWindowTimeout
  split
  · rename_i o _
    have e : s.reel r = (s.reach (o.opened + Config.msec 2000)).reel r := by cases r <;> rfl
    rw [e]
    exact writes_next ((reach_sameBut _).trans (withReel_window_sameBut r none))
  · exact writes_none

@[simp] theorem restSettled_backdrop : s.restSettled.backdrop = s.backdrop := by
  unfold State.restSettled
  split
  · split
    · exact settleEnd_backdrop _
    · rfl
  · rfl

theorem execRestTimerExpiry_writes : WritesOnly (.rest :: transportGroups) s (execRestTimerExpiry s) :=
  writes_ite (fun _ => writes_none) fun _ =>
    writes_settled ((reach_sameBut _).trans (rest_sameBut true s.position.restStart)) restSettled_backdrop (by decide)

theorem reanchor_sameBut (f : Nat) : State.SameBut [.anchor, .locateTable, .latches] s (s.reanchor f) := by
  have anchored := (anchor_sameBut (s := s) (some ⟨.tape, s.position.pos, f⟩) ⟨0, 0, .forward⟩).trans
    (locate_sameBut (s.withAnchor ⟨.tape, s.position.pos, f⟩).retimed)
  unfold State.reanchor
  dsimp only
  split
  · exact anchored.trans (reportTo_sameBut ..)
  · exact anchored.mono (by decide)

theorem disagree_sameBut (f : Nat) (d : Direction) : State.SameBut [.anchor, .locateTable, .latches] s (s.disagree f d) :=
  sameBut_ite (fun _ => reanchor_sameBut f) fun _ => (anchor_sameBut s.position.anchor _).mono (by decide)

theorem execTapeTimecodeWord_writes (x : BcdTime) (rev : Bool) :
    WritesOnly [.anchor, .locateTable, .latches] s (execTapeTimecodeWord x rev s) := by
  unfold execTapeTimecodeWord
  split
  · split
    · exact writes_ite (fun _ => writes_next ((anchor_sameBut _ _).mono (by decide))) fun _ =>
        writes_handOver (disagree_sameBut ..)
    · exact writes_handOver (disagree_sameBut ..)
  · exact writes_next ((anchor_sameBut s.position.anchor _).mono (by decide))

/-! ### Samples and input lines -/

theorem withArm_sameBut (d : Side) (a : Arm) : State.SameBut [.arms] s (s.withArm d a) := by
  cases d
  · exact arms_sameBut a s.armR
  · exact arms_sameBut s.armL a

theorem judgeArm_sameBut (d : Side) (f : Nat) : State.SameBut [.arms, .latches] s (s.judgeArm d f) :=
  sameBut_ite (fun _ => (withArm_sameBut d _).mono (by decide)) fun _ => (withArm_sameBut d _).trans (reportTo_sameBut ..)

theorem armMoved_sameBut (d : Side) : State.SameBut (.estimates :: transportGroups) s (s.armMoved d) := by
  have reported : (State.report { s with watch := none } .armMoved (sideNum d)).backdrop = s.backdrop := report_backdrop ..
  exact sameBut_ite (fun _ => ((sameBut_of_backdrop ((enter_backdrop _).trans reported)).trans restartReels_sameBut).mono
    (by decide)) fun _ => (sameBut_of_backdrop reported).mono (by decide)

theorem watchArm_sameBut (d : Side) (raw : Nat) : State.SameBut (.estimates :: transportGroups) s (s.watchArm d raw) := by
  unfold State.watchArm
  split
  · exact sameBut_refl _ s
  · dsimp only
    split
    · exact armMoved_sameBut d
    · exact State.SameBut.mono (sameBut_of_backdrop rfl) (List.subset_cons_self ..)

/-- What a sample may write. -/
def sampleGroups : List Group := [.converter, .arms, .counters, .estimates] ++ transportGroups

theorem armSample_sameBut (d : Side) (raw : Nat) : State.SameBut sampleGroups s (s.armSample d raw) :=
  ((judgeArm_sameBut d _).trans (watchArm_sameBut d raw)).mono (by decide)

theorem currentSample_sameBut (m : Motor) (raw : Nat) : State.SameBut sampleGroups s (s.currentSample m raw) := by
  have counted : ∀ (x : Converter) (a b c : Nat), State.SameBut [.converter, .counters] s
      { s with conv := x, faults := { s.faults with mismL := a, mismR := b, mismC := c } } :=
    fun x a b c => (conv_sameBut x).trans (counters_sameBut a b c s.faults.supply)
  cases m
  all_goals exact ((counted _ _ _ _).thenBackdrop (latchIf_backdrop ..)).mono (by decide)

theorem supplySample_sameBut (raw : Nat) : State.SameBut sampleGroups s (s.supplySample raw) :=
  sameBut_ite (fun _ => ((counters_sameBut _ _ _ _).thenBackdrop (latchIf_backdrop ..)).mono (by decide))
    fun _ => sameBut_refl _ s

theorem handSample_sameBut (x : Slot) (raw : Nat) : State.SameBut sampleGroups s (s.handSample x raw) := by
  cases x
  case armL => exact armSample_sameBut .left raw
  case armR => exact armSample_sameBut .right raw
  case curL => exact currentSample_sameBut .left raw
  case curR => exact currentSample_sameBut .right raw
  case curC => exact currentSample_sameBut .capstan raw
  case supply => exact supplySample_sameBut raw
  case idle => exact sameBut_refl _ s

theorem execConversionComplete_writes (raw : BitVec 12) : WritesOnly sampleGroups s (execConversionComplete raw s) :=
  writes_ite (fun _ => writes_none) fun _ => writes_settled
    (((reach_sameBut _).trans (conv_sameBut _)).trans (handSample_sameBut ..)) rfl (by decide)

theorem execDriveFaultInput_writes (m : Motor) (b : Bool) :
    WritesOnly (.pins :: transportGroups) s (execDriveFaultInput m b s) :=
  writes_ite (fun _ => writes_settled (pins_sameBut _) (latchFault_backdrop _) (by decide)) fun _ =>
    writes_next ((pins_sameBut _).mono (by decide))

theorem execSupplyWarningInput_writes (b : Bool) : WritesOnly (.pins :: transportGroups) s (execSupplyWarningInput b s) :=
  writes_ite (fun _ => writes_settled (pins_sameBut _) (latchFault_backdrop _) (by decide)) fun _ =>
    writes_next ((pins_sameBut _).mono (by decide))

theorem execPinchEngagedSense_writes (b : Bool) : WritesOnly (.pins :: transportGroups) s (execPinchEngagedSense b s) :=
  writes_settled (pins_sameBut _) rfl (by decide)

/-! ### The servos -/

theorem derate_sameBut : State.SameBut [.moves, .sequencer, .latches] s s.derate := by
  unfold State.derate
  split
  · exact sameBut_refl _ s
  · exact sameBut_ite (fun _ => ((onActive_sameBut _).trans (accel_sameBut _)).trans (reportTo_sameBut ..)) fun _ =>
      (onActive_sameBut _).mono (by decide)

theorem driveReels_sameBut : State.SameBut [.drive, .moves, .sequencer, .latches] s s.driveReels := by
  have derated : ∀ (b : Bool) (u : State),
      State.SameBut [.moves, .sequencer, .latches] u (if b then u.derate else u) :=
    fun _ u => sameBut_ite (fun _ => derate_sameBut) fun _ => sameBut_refl _ u
  have driven : ∀ (a b c d : Int) (m n : Nat), State.SameBut [.drive] s
      { s with reelL := { s.reelL with torque := a, code := b, sat := m }, reelR := { s.reelR with torque := c, code := d, sat := n } } :=
    fun a b c d m n => State.SameBut.mono (v := [.drive] ++ [.drive])
      ((withReel_drive_sameBut .left a b m).trans (withReel_drive_sameBut .right c d n)) (by decide)
  exact (((driven ..).trans (derated ..)).trans (derated ..)).mono (by decide)

theorem judgeSlip_sameBut : State.SameBut [.slip] s s.judgeSlip := slip_sameBut _

theorem execReelServoUpdate_writes :
    WritesOnly [.speed, .interval, .command, .drive, .slip, .moves, .sequencer, .latches] s (execReelServoUpdate s) := by
  have measured : ∀ x : SpeedMeter, State.SameBut [.speed, .interval, .command] s
      { s.reach (s.speed.lastUpdate + Config.updateTime) with speed := x } :=
    fun x => (reach_sameBut _).trans (speed_sameBut x)
  exact writes_ite (fun _ => writes_next (((measured _).trans judgeSlip_sameBut).mono (by decide))) fun _ =>
    writes_handOver ((((measured _).trans driveReels_sameBut).trans judgeSlip_sameBut).mono (by decide))

theorem execCapstanUpdate_writes :
    WritesOnly [.capstanSpeed, .capstanInterval, .capstanLoop] s (execCapstanUpdate s) :=
  writes_next ((reach_sameBut _).trans (capstan_sameBut _))

end Sys2Proof.Machine
end

section
/-! What the timers, the reference update, the reader, the cue bits, the captures and the receivers write. -/

namespace Sys2Proof.Machine
variable {s t u : State} {v w : List Group}

/-! ### Ends of timers -/

/-- A timer that runs out acts on the sequencer and the units it moves, and nothing else. -/
theorem writes_expired {n : Nat} (k : u.backdrop = (s.reach n).backdrop) :
    WritesOnly transportGroups s (.next u.settle.handOver) := writes_settled (reach_sameBut n) k (by decide)

theorem execRollerSlipTimeout_writes : WritesOnly transportGroups s (execRollerSlipTimeout s) := by
  unfold execRollerSlipTimeout
  split
  · exact writes_expired (n := _ + Config.msec 500) (latchFault_backdrop _)
  · exact writes_none

theorem execPinchTimeout_writes : WritesOnly transportGroups s (execPinchTimeout s) := by
  unfold execPinchTimeout
  split
  · exact writes_expired (n := _ + Config.msec 150) (latchFault_backdrop _)
  · exact writes_none

theorem execDurationExpiry_writes : WritesOnly transportGroups s (execDurationExpiry s) := by
  unfold execDurationExpiry
  split
  · exact writes_expired (finishMove_backdrop _)
  · exact writes_none

theorem execThreadCheckTimeout_writes : WritesOnly transportGroups s (execThreadCheckTimeout s) := by
  unfold execThreadCheckTimeout
  split
  · exact writes_expired ((sizingDone_backdrop _).trans (enter_backdrop _))
  · exact writes_none

theorem execMeasureTimeout_writes : WritesOnly transportGroups s (execMeasureTimeout s) := by
  unfold execMeasureTimeout
  split
  · exact writes_expired (latchFault_backdrop _)
  · exact writes_none

theorem execBrakingTimeout_writes : WritesOnly transportGroups s (execBrakingTimeout s) := by
  unfold execBrakingTimeout
  split
  · exact writes_expired (enter_backdrop _)
  · exact writes_none

theorem execSupervisionExpiry_writes : WritesOnly transportGroups s (execSupervisionExpiry s) := by
  unfold execSupervisionExpiry
  split
  · exact writes_expired (n := _ + Config.msec _)
      ((report_backdrop ..).trans (stopTransport_backdrop.trans (endAll_backdrop _)))
  · exact writes_none

/-! ### The reference update -/

@[simp] theorem stepLocate_backdrop : s.stepLocate.backdrop = s.backdrop := by
  unfold State.stepLocate
  split
  · split
    · split
      · exact passTarget_backdrop _
      · rfl
    · rfl
  · rfl

@[simp] theorem stepReference_backdrop (d : Demand) : (s.stepReference d).backdrop = s.backdrop := rfl

@[simp] theorem reportGuard_backdrop (d : Direction) : (s.reportGuard d).backdrop = s.backdrop := by
  unfold State.reportGuard
  split
  · rfl
  · exact report_backdrop ..

@[simp] theorem settleHeld_backdrop : s.settleHeld.backdrop = s.backdrop := by
  unfold State.settleHeld
  split
  · split <;> rfl
  · rfl

@[simp] theorem endWinding_backdrop (d : Demand) (x : Int) : (s.endWinding d x).backdrop = s.backdrop := by
  have limited : State.backdrop (match d.dir with
      | some y => if s.guardLimits y x then s.reportGuard y else s
      | none => s) = s.backdrop := by
    split
    · split
      · exact reportGuard_backdrop _
      · rfl
    · rfl
  unfold State.endWinding
  dsimp only
  split
  · split
    · split
      · rw [failMove_backdrop]
        split
        · exact limited
        · rfl
      · split
        · exact (failMove_backdrop _).trans limited
        · exact limited
    · exact limited
  · exact settleHeld_backdrop.trans limited

@[simp] theorem endPinched_backdrop : s.endPinched.backdrop = s.backdrop := by
  unfold State.endPinched
  split
  · rfl
  · split
    · split
      · simp
      · split <;> simp
    · split <;> simp

@[simp] theorem endUpdate_backdrop (d : Demand) (x : Int) : (s.endUpdate d x).backdrop = s.backdrop := by
  unfold State.endUpdate
  cases s.motion.state
  case winding =>
    dsimp only
    split <;> simp
  all_goals first | rfl | exact endPinched_backdrop

/-- What a reference update may write. -/
def updateGroups : List Group := [.updateTime, .zoneCeilings] ++ transportGroups

theorem referenceStep_sameBut : State.SameBut (.zoneCeilings :: transportGroups) s s.referenceStep := by
  have formed := (sameBut_of_backdrop stepLocate_backdrop).trans (formCeilings_sameBut (s := s.stepLocate))
  exact (formed.thenBackdrop (u := s.referenceStep)
    ((endUpdate_backdrop ..).trans (stepReference_backdrop _))).mono (by decide)

theorem execReferenceUpdate_writes : WritesOnly updateGroups s (execReferenceUpdate s) := by
  have begun := (reach_sameBut (s := s) (s.motion.lastUpdate + Config.updateTime)).trans
    (updateTime_sameBut (s.reach (s.motion.lastUpdate + Config.updateTime)).now)
  refine writes_ite (fun _ => ?_) fun _ => writes_settled (begun.trans referenceStep_sameBut) rfl (by decide)
  have idled : ∀ x : State, State.SameBut transportGroups x { x with motion := { x.motion with vRef := 0, aRef := 0 } } :=
    fun _ => sameBut_of_backdrop rfl
  have braked : State.SameBut updateGroups s _ := ((begun.trans formCeilings_sameBut).trans (idled _)).mono (by decide)
  exact writes_handOver braked

/-! ### The reader and the chase -/

theorem reader_sameBut (a : Nat) (b : Bool) (c : Option Nat) (d : Option Int) (e f : Option Nat) :
    State.SameBut [.reader] s { s with chase := { s.chase with
      run := a, present := b, lastFrame := c, lastSub := d, lossTimer := e, lastWord := f } } := by
  refine ⟨fun g n => ?_⟩
  have h := g.same_refl s
  cases g <;> first | exact h | exact rfl | exact absurd (by decide) n

theorem readWord_sameBut (f : Nat) : State.SameBut (.reader :: transportGroups) s (s.readWord f) :=
  (reader_sameBut _ _ _ _ _ _).thenBackdrop rfl

@[simp] theorem seekWord_backdrop (f : Nat) : (s.seekWord f).backdrop = s.backdrop := by
  unfold State.seekWord
  split
  · dsimp only
    split
    · exact beginSeek_backdrop _
    · split <;> rfl
  · rfl

theorem withCounts_backdrop (a b : Nat) : (s.withCounts a b).backdrop = s.backdrop := rfl

theorem correct_backdrop (e : Int) : (s.correct e).backdrop = s.backdrop := rfl

@[simp] theorem lockedWord_backdrop (e : Int) : (s.lockedWord e).backdrop = s.backdrop := by
  unfold State.lockedWord
  dsimp only
  generalize (if 2 * s.profile.lockWindow < e.natAbs then s.chase.unlock + 1 else 0) = n
  split <;> simp [withCounts_backdrop, correct_backdrop]

@[simp] theorem approachWord_backdrop (e : Int) : (s.approachWord e).backdrop = s.backdrop := by
  unfold State.approachWord
  dsimp only
  generalize (if e.natAbs ≤ s.profile.lockWindow then s.chase.lock + 1 else 0) = n
  split <;> simp [withCounts_backdrop, correct_backdrop]

@[simp] theorem followWord_backdrop (f : Nat) : (s.followWord f).backdrop = s.backdrop := by
  unfold State.followWord
  split
  · exact failMove_backdrop _
  · split
    · exact (beginSeek_backdrop _).trans (setChase_backdrop _)
    · split
      · rfl
      · split <;> simp

theorem dropSeek_backdrop : s.dropSeek.backdrop = s.backdrop := rfl

@[simp] theorem returnWord_backdrop (f : Nat) : (s.returnWord f).backdrop = s.backdrop := by
  have cleared : State.backdrop { s with chase := { s.chase with freewheel := none, origin := none } } = s.backdrop := rfl
  unfold State.returnWord
  dsimp only
  split
  · exact (failMove_backdrop _).trans cleared
  · split
    · exact (beginSeek_backdrop _).trans ((setChase_backdrop _).trans cleared)
    · refine (withCounts_backdrop ..).trans ((setChase_backdrop _).trans ?_)
      split <;> exact cleared

@[simp] theorem chaseWord_backdrop (f : Nat) : (s.chaseWord f).backdrop = s.backdrop := by
  unfold State.chaseWord
  cases s.chase.state
  case freewheel | lost =>
    dsimp only
    split <;> simp
  all_goals simp

theorem execReferenceWord_writes (x : BcdTime) (rev : Bool) :
    WritesOnly (.reader :: transportGroups) s (execReferenceWord x rev s) := by
  refine writes_ite (fun _ => writes_none) fun _ => ?_
  split
  · rename_i f _
    refine writes_settled (readWord_sameBut f) ?_ (by decide)
    split
    · exact chaseWord_backdrop _
    · rfl
  · exact writes_next ((reader_sameBut 0 _ _ _ _ _).mono (by decide))

@[simp] theorem becomeLost_backdrop : s.becomeLost.backdrop = s.backdrop := by
  refine (setChase_backdrop _).trans ?_
  dsimp only
  split <;> rfl

@[simp] theorem freewheel_backdrop (o : ChaseOrigin) : (s.freewheel o).backdrop = s.backdrop := by
  unfold State.freewheel
  dsimp only
  split
  · exact becomeLost_backdrop
  · exact setChase_backdrop _

@[simp] theorem loseReference_backdrop : s.loseReference.backdrop = s.backdrop := by
  unfold State.loseReference
  cases s.chase.state <;> simp

theorem execLossTimerExpiry_writes : WritesOnly (.reader :: transportGroups) s (execLossTimerExpiry s) := by
  unfold execLossTimerExpiry
  split
  · rename_i n _
    refine writes_settled ((reach_sameBut (n + Config.usec (ceilDiv 2000000 s.profile.rate))).trans
      (reader_sameBut 0 false s.chase.lastFrame s.chase.lastSub none s.chase.lastWord)) ?_ (by decide)
    dsimp only
    split
    · exact loseReference_backdrop
    · rfl
  · exact writes_none

theorem execFreewheelExpiry_writes : WritesOnly transportGroups s (execFreewheelExpiry s) := by
  unfold execFreewheelExpiry
  split
  · exact writes_expired becomeLost_backdrop
  · exact writes_none

/-! ### Cue bits and captures -/

theorem storeCue_sameBut : State.SameBut [.locateTable] s s.storeCue.1 := by
  unfold State.storeCue
  dsimp only
  split
  · exact sameBut_refl _ s
  · split
    · exact sameBut_refl _ s
    · exact locate_sameBut _

theorem reportMark_sameBut : State.SameBut (.locateTable :: transportGroups) s s.reportMark := by
  have finished : State.SameBut transportGroups s (if s.waitsForCue then s.finishMove .done else s) :=
    sameBut_ite (fun _ => sameBut_of_backdrop (finishMove_backdrop _)) fun _ => sameBut_refl _ s
  exact sameBut_ite (fun _ => ((finished.trans storeCue_sameBut).thenBackdrop (reportAt_backdrop ..)).mono (by decide))
    fun _ => (finished.thenBackdrop (reportAt_backdrop ..)).mono (by decide)

theorem judgeBit_sameBut (d : Direction) : State.SameBut (.locateTable :: transportGroups) s (s.judgeBit d) := by
  have judged : ∀ c k : Detector, State.SameBut transportGroups s { s with cue := { s.cue with detMark := c, detClear := k } } :=
    fun _ _ => sameBut_of_backdrop rfl
  have marked : ∀ (b : Bool) (x : State),
      State.SameBut (.locateTable :: transportGroups) x (if b then x.reportMark else x) :=
    fun _ x => sameBut_ite (fun _ => reportMark_sameBut) fun _ => sameBut_refl _ x
  exact sameBut_ite (fun _ => (((judged ..).trans (marked ..)).thenBackdrop (report_backdrop ..)).mono (by decide))
    fun _ => ((judged ..).trans (marked ..)).mono (by decide)

theorem take_sameBut (b : Bool) (d : Direction) : State.SameBut [.cueHistory] s { s with cue := s.cue.take b d } := by
  unfold CueUnit.take CueUnit.clearDetection
  dsimp only
  split <;> exact cue_history_sameBut ..

theorem readBit_sameBut (b : Bool) : State.SameBut (.locateTable :: transportGroups) s (s.readBit b) :=
  sameBut_ite (fun _ => ((take_sameBut b _).trans (judgeBit_sameBut _)).mono (by decide))
    fun _ => State.SameBut.mono (sameBut_of_backdrop rfl) (List.subset_cons_self ..)

theorem writeBit_backdrop : s.writeBit.backdrop = s.backdrop := by
  unfold State.writeBit
  split <;> rfl

theorem execCueBit_writes (b : Bool) : WritesOnly (.locateTable :: transportGroups) s (execCueBit b s) :=
  writes_ite (fun _ => writes_none) fun _ => writes_ite
    (fun _ => writes_next ((sameBut_of_backdrop writeBit_backdrop).mono (List.subset_cons_self ..)))
    fun _ => writes_settled (readBit_sameBut b) rfl (by decide)

theorem sampled_sameBut (x : List (List Int)) (a b c : Nat) :
    State.SameBut [.samples, .captureState] s
      { s with capture := { s.capture with samples := x, taken := a, postTaken := b, phase := c } } := by
  refine ⟨fun g n => ?_⟩
  have h := g.same_refl s
  cases g <;> first | exact h | exact absurd (by decide) n

theorem sampleTime_sameBut (n : Nat) :
    State.SameBut [.sampleTime] s { s with capture := { s.capture with lastEvent := n } } := by
  refine ⟨fun g n => ?_⟩
  have h := g.same_refl s
  cases g <;> first | exact h | exact absurd (by decide) n

theorem takeSample_sameBut :
    State.SameBut [.samples, .captureState, .comparators, .latches] s s.takeSample := by
  have sampled := sampled_sameBut (s := s) (s.capture.sampled (s.capture.channels.map s.sampleOf)).samples
    (s.capture.sampled (s.capture.channels.map s.sampleOf)).taken
    (s.capture.sampled (s.capture.channels.map s.sampleOf)).postTaken s.capture.phase
  unfold State.takeSample
  dsimp only
  split
  · exact (sampled.trans (captureDone_sameBut _)).mono (by decide)
  · exact sampled.mono (by decide)

/-- What a capture sample event may write. -/
def eventGroups : List Group := [.sampleTime, .samples, .captureState, .comparators, .latches]

theorem execCaptureSampleEvent_writes : WritesOnly eventGroups s (execCaptureSampleEvent s) := by
  have timed := (reach_sameBut (s := s) (s.capture.lastEvent + Config.updateTime)).trans
    (sampleTime_sameBut (s.reach (s.capture.lastEvent + Config.updateTime)).now)
  have advanced := timed.trans (sampled_sameBut s.capture.samples s.capture.taken s.capture.postTaken
    ((s.capture.phase + 1) % s.capture.decim))
  have stepped := writes_handOver (sameBut_ite (p := s.capture.phase = 0)
    (fun _ => (advanced.trans takeSample_sameBut).mono (w := eventGroups) (by decide)) fun _ => advanced.mono (by decide))
  unfold execCaptureSampleEvent
  dsimp only
  split
  · exact stepped
  · exact stepped
  all_goals exact writes_next (timed.mono (by decide))

/-! ### Reports, receivers and the store -/

theorem execPositionReportPeriod_writes : WritesOnly [.reportRate, .reports] s (execPositionReportPeriod s) := by
  have timed : ∀ (x : State) (n : Nat), State.SameBut [.reportRate] x { x with ctl := { x.ctl with lastReport := n } } := by
    refine fun x n => ⟨fun g n => ?_⟩
    have h := g.same_refl x
    cases g <;> first | exact h | exact absurd (by decide) n
  exact writes_ite (fun _ => writes_none) fun _ =>
    writes_handOver ((((reach_sameBut _).trans (timed ..)).trans (report_sameBut _ _)).mono (by decide))

theorem heard_sameBut (l : Link) : State.SameBut [.supervision] s (s.heard l) :=
  sameBut_ite (fun _ => supervision_sameBut _) fun _ => sameBut_refl _ s

theorem deliver_sameBut (l : Link) (f : Frame) : State.SameBut [.receivers, .supervision] s (s.deliver l f) :=
  sameBut_ite (fun _ => (receiver_sameBut l _ _ _).trans (heard_sameBut l)) fun _ => sameBut_refl _ s

theorem execFrameReceived_writes (l : Link) (k x : Byte) (b : Bytes) :
    WritesOnly [.receivers, .supervision] s (execFrameReceived l k x b s) :=
  writes_ite (fun _ => writes_refused _) fun _ =>
    writes_ite (fun _ => writes_next (deliver_sameBut l _)) fun _ => writes_none

theorem withPart_sameBut (l : Link) (b : Option Bytes) : State.SameBut [.receivers] s (s.withPart l b) := receiver_sameBut ..

theorem collect_sameBut (l : Link) (b : Bytes) : State.SameBut [.receivers, .supervision] s (s.collect l b) := by
  refine sameBut_ite (fun _ => (withPart_sameBut l none).mono (by decide)) fun _ =>
    sameBut_ite (fun _ => (withPart_sameBut l _).mono (by decide)) fun _ => ?_
  dsimp only
  split
  · exact ((withPart_sameBut l none).trans (deliver_sameBut l _)).mono (by decide)
  · exact (withPart_sameBut l none).mono (by decide)

theorem execByteReceived_writes (l : Link) (b : Byte) (stop : Bool) :
    WritesOnly [.receivers, .supervision] s (execByteReceived l b stop s) := by
  refine writes_ite (fun _ => writes_ite (fun _ => ?_) fun _ => writes_next ((withPart_sameBut l none).mono (by decide)))
    fun _ => writes_none
  split
  · exact writes_next (collect_sameBut l _)
  · exact writes_next (sameBut_ite (fun _ => (withPart_sameBut l _).mono (by decide)) fun _ => sameBut_refl _ s)

theorem execFrameGapTimeout_writes (l : Link) : WritesOnly [.receivers] s (execFrameGapTimeout l s) := by
  unfold execFrameGapTimeout
  split
  · exact writes_next ((reach_sameBut _).trans (receiver_sameBut ..))
  · exact writes_none

theorem execProfileWriteDone_writes : WritesOnly [.store, .latches] s (execProfileWriteDone s) :=
  writes_ite (fun _ => writes_handOver ((store_sameBut _).trans (reportTo_sameBut ..))) fun _ => writes_none

end Sys2Proof.Machine
end

section
/-! What the requests write. -/

namespace Sys2Proof.Machine
variable {s t u : State} {v w : List Group} {kind : Byte} {r : Request}

/-! ### A request taken and answered -/

theorem takeFrame_sameBut (kind : Byte) (r : Request) :
    State.SameBut [.receivers, .supervision] s (s.takeFrame kind r).1 := by
  unfold State.takeFrame
  dsimp only
  split
  · split
    · split
      · exact (receiver_sameBut ..).mono (by decide)
      · exact deliver_sameBut ..
    · split
      · exact (heard_sameBut _).mono (by decide)
      · exact sameBut_refl _ s
  · exact sameBut_refl _ s

/-- A request writes what its frame's taking, its answer and its reply write. -/
theorem request_writes {answer : State → Answer} (h : ∀ x : State, State.SameBut v x (answer x).state)
    (m : [.receivers, .supervision] ++ v ++ [.replies] ⊆ w) : WritesOnly w s (s.request kind r answer) := by
  have taken := takeFrame_sameBut (s := s) kind r
  refine writes_ite (fun _ => writes_refused _) fun _ => writes_ite (fun _ => ?_) fun _ => ?_
  · exact writes_handOver (((taken.trans (h _)).trans (replies_sameBut ..)).mono m)
  · exact writes_next (taken.mono fun _ k => m (List.mem_append_left _ (List.mem_append_left _ k)))

/-- What a checked request leaves, granted or refused. -/
theorem checked_sameBut {checks : List Check} {act : Answer} (h : State.SameBut v s act.state) :
    State.SameBut v s (s.checked checks act).state := by
  unfold State.checked
  split
  · exact sameBut_refl v s
  · exact h

theorem execUnknownKind_writes : WritesOnly requestGroups s (execUnknownKind kind r s) := by
  have taken := takeFrame_sameBut (s := s) kind r
  exact writes_ite (fun _ => writes_refused _) fun _ => writes_ite
    (fun _ => writes_handOver ((taken.trans (replies_sameBut ..)).mono (by decide)))
    fun _ => writes_next (taken.mono (by decide))

/-! ### The reads -/

/-- A request that is checked and then only answers. -/
theorem read_writes {checks : State → List Check} {data : State → Bytes} :
    WritesOnly requestGroups s (s.request kind r fun x => x.checked (checks x) (x.ok (data x))) :=
  request_writes (v := []) (fun x => checked_sameBut (sameBut_refl [] x)) (by decide)

theorem execReadStatus_writes : WritesOnly requestGroups s (execReadStatus r s) := read_writes

theorem execReadPosition_writes : WritesOnly requestGroups s (execReadPosition r s) := read_writes

theorem execReadReelModel_writes : WritesOnly requestGroups s (execReadReelModel r s) := read_writes

theorem execReadMoves_writes : WritesOnly requestGroups s (execReadMoves r s) := read_writes

theorem execReadLocateTable_writes : WritesOnly requestGroups s (execReadLocateTable r s) := read_writes

theorem execReadZones_writes : WritesOnly requestGroups s (execReadZones r s) := read_writes

theorem execReadCapture_writes : WritesOnly requestGroups s (execReadCapture r s) := read_writes

theorem execReadProfile_writes : WritesOnly requestGroups s (execReadProfile r s) := read_writes

theorem execReadEvents_writes : WritesOnly requestGroups s (execReadEvents r s) := read_writes

/-! ### Requests about motion -/

/-- What a request that moves the tape may write. -/
def motionGroups : List Group := requestGroups ++ transportGroups

theorem allocMove_sameBut (i slot : Nat) : State.SameBut [.comparators, .free] s (s.allocMove i slot) :=
  (comps_sameBut _).trans (free_sameBut _)

theorem join_sameBut (x : MoveRecord) : State.SameBut (.free :: transportGroups) s (s.join x) := by
  unfold State.join
  dsimp only
  generalize (if x.needsComp = true then (freeIndices s.comps).head? else none) = c
  cases c with
  | none => exact State.SameBut.mono (sameBut_of_backdrop rfl) (List.subset_cons_self ..)
  | some i =>
    have queued : ∀ (y : State) (q : List MoveRecord),
        State.SameBut transportGroups y { y with motion := { y.motion with queue := q } } :=
      fun _ _ => sameBut_of_backdrop rfl
    exact ((allocMove_sameBut i x.slot).trans (queued _ _)).mono (by decide)

theorem afterJoin_backdrop : s.afterJoin.backdrop = s.backdrop := by
  unfold State.afterJoin
  dsimp only
  split
  · exact activate_backdrop.trans supersede_backdrop
  · exact supersede_backdrop

theorem execSubmitMove_writes : WritesOnly (.free :: motionGroups) s (execSubmitMove r s) :=
  request_writes (fun x => checked_sameBut ((join_sameBut (s := x) (x.submitted r.body)).thenBackdrop
    (settle_backdrop.trans afterJoin_backdrop))) (by decide)

theorem flushAll_backdrop : s.flushAll.backdrop = s.backdrop := by
  unfold State.flushAll
  split
  · rfl
  · exact stopTransport_backdrop.trans (endAll_backdrop _)

theorem flushWaiting_backdrop : s.flushWaiting.backdrop = s.backdrop := dropRecords_backdrop s.waiting

theorem execFlushMoves_writes : WritesOnly motionGroups s (execFlushMoves r s) := by
  refine request_writes (v := transportGroups) (fun x => checked_sameBut ?_) (by decide)
  split
  · exact sameBut_of_backdrop (settle_backdrop.trans flushAll_backdrop)
  · exact sameBut_of_backdrop flushWaiting_backdrop

theorem execStop_writes : WritesOnly motionGroups s (execStop r s) :=
  request_writes (v := transportGroups) (fun _ => checked_sameBut (sameBut_of_backdrop
    (settle_backdrop.trans (stopTransport_backdrop.trans (endAll_backdrop _))))) (by decide)

theorem enterSizing_backdrop (x : SizingVariant) : (s.enterSizing x).backdrop = s.backdrop := enter_backdrop _

theorem execSizeReels_writes : WritesOnly (.estimates :: motionGroups) s (execSizeReels r s) :=
  request_writes (fun x => checked_sameBut ((restartReels_sameBut (s := x)).thenBackdrop
    (settle_backdrop.trans (enterSizing_backdrop .size)))) (by decide)

theorem execEnterStandby_writes : WritesOnly motionGroups s (execEnterStandby r s) :=
  request_writes (v := transportGroups) (fun _ => checked_sameBut (sameBut_of_backdrop
    (settle_backdrop.trans (enter_backdrop _)))) (by decide)

theorem execWake_writes : WritesOnly motionGroups s (execWake r s) :=
  request_writes (v := transportGroups) (fun _ => checked_sameBut (sameBut_of_backdrop
    (settle_backdrop.trans (enterSizing_backdrop .wake)))) (by decide)

theorem clearKinds_sameBut : State.SameBut (.estimates :: transportGroups) s s.clearKinds := by
  have restarted : State.SameBut [.estimates, .windows] s
      (if .tapeBreak ∈ s.faults.set ∨ .radiusLost ∈ s.faults.set then s.restartReels else s) :=
    sameBut_ite (fun _ => restartReels_sameBut) fun _ => sameBut_refl _ s
  exact (restarted.thenBackdrop (u := s.clearKinds) rfl).mono (by decide)

theorem clearFault_sameBut : State.SameBut (.estimates :: transportGroups) s s.clearFault.state := by
  unfold State.clearFault
  split
  · exact State.SameBut.mono (v := .estimates :: transportGroups ++ transportGroups)
      (clearKinds_sameBut.thenBackdrop (settle_backdrop.trans (enter_backdrop .unthreaded))) (by decide)
  · exact clearKinds_sameBut

theorem execClearFault_writes : WritesOnly (.estimates :: motionGroups) s (execClearFault r s) :=
  request_writes (fun _ => checked_sameBut clearFault_sameBut) (by decide)

/-! ### Requests about the tables -/

theorem execSetZone_writes : WritesOnly (.zones :: requestGroups) s (execSetZone r s) :=
  request_writes (fun _ => checked_sameBut (zones_sameBut _)) (by decide)

theorem execClearZone_writes : WritesOnly (.zones :: requestGroups) s (execClearZone r s) :=
  request_writes (fun _ => checked_sameBut (zones_sameBut _)) (by decide)

theorem execSetLocateEntry_writes : WritesOnly (.locateTable :: requestGroups) s (execSetLocateEntry r s) :=
  request_writes (fun _ => checked_sameBut (locate_sameBut _)) (by decide)

theorem execClearLocateEntry_writes : WritesOnly (.locateTable :: requestGroups) s (execClearLocateEntry r s) :=
  request_writes (fun _ => checked_sameBut (locate_sameBut _)) (by decide)

theorem setAnchor_sameBut (f : Nat) : State.SameBut [.anchor, .locateTable] s (s.setAnchor f) :=
  (anchor_sameBut (s := s) (some ⟨.preset, s.position.pos, f⟩) ⟨0, 0, .forward⟩).trans (locate_sameBut _)

theorem execSetAnchor_writes : WritesOnly ([.anchor, .locateTable] ++ requestGroups) s (execSetAnchor r s) :=
  request_writes (fun _ => checked_sameBut (setAnchor_sameBut _)) (by decide)

theorem execSetSchedule_writes : WritesOnly (.converter :: requestGroups) s (execSetSchedule r s) :=
  request_writes (fun _ => checked_sameBut (conv_sameBut _)) (by decide)

/-! ### Requests about watches and captures -/

theorem setComp_sameBut (i : Nat) (c : Comparator) : State.SameBut [.comparators] s (s.setComp i c) := comps_sameBut _

theorem execWatchPosition_writes : WritesOnly (.comparators :: requestGroups) s (execWatchPosition r s) :=
  request_writes (fun _ => checked_sameBut (setComp_sameBut ..)) (by decide)

theorem execCancelWatch_writes : WritesOnly (.comparators :: requestGroups) s (execCancelWatch r s) := by
  refine request_writes (v := [.comparators]) (fun x => checked_sameBut ?_) (by decide)
  split
  · exact comps_sameBut _
  · exact freeComp_sameBut (s := x) (some (bodyU8 r.body 0))

theorem giveUpCapture_sameBut (r : Request) :
    State.SameBut [.captureSetup, .captureState, .samples, .comparators, .latches] s (s.giveUpCapture r) :=
  sameBut_ite (fun _ => (captureIdle_sameBut.trans (reportTo_sameBut ..)).mono (by decide))
    fun _ => captureIdle_sameBut.mono (by decide)

theorem takeStartComp_sameBut (c : Capture) : State.SameBut [.comparators] s (s.takeStartComp c).1 := by
  unfold State.takeStartComp
  split
  · exact setComp_sameBut ..
  · exact sameBut_refl _ s

theorem takeEndComp_sameBut (c : Capture) : State.SameBut [.comparators] s (s.takeEndComp c).1 := by
  unfold State.takeEndComp
  split
  · exact setComp_sameBut ..
  · exact setComp_sameBut ..
  · exact sameBut_refl _ s

theorem beginCapture_sameBut {c : Capture} (e : c.lastEvent = s.capture.lastEvent) :
    State.SameBut [.captureSetup, .captureState, .samples, .comparators] s (s.beginCapture c) := by
  have allotted := (takeStartComp_sameBut (s := s) c).trans (takeEndComp_sameBut c)
  have begun := allotted.trans (capture_setup_sameBut (s := ((s.takeStartComp c).1.takeEndComp c).1)
    (c := { c with state := .armed, startComp := (s.takeStartComp c).2, endComp := ((s.takeStartComp c).1.takeEndComp c).2 })
    (e.trans ((allotted.same .sampleTime (by decide)).symm)))
  unfold State.beginCapture
  dsimp only
  split
  · exact begun.mono (by decide)
  · exact (begun.trans captureRun_sameBut).mono (by decide)

theorem execArmCapture_writes :
    WritesOnly ([.captureSetup, .captureState, .samples, .comparators, .latches] ++ requestGroups) s (execArmCapture r s) := by
  refine request_writes (fun x => checked_sameBut ((giveUpCapture_sameBut (s := x) r).trans (beginCapture_sameBut ?_)))
    (by decide)
  exact ((giveUpCapture_sameBut (s := x) r).same .sampleTime (by decide)).symm

theorem triggerCapture_sameBut : State.SameBut [.captureState, .comparators] s s.triggerCapture := by
  unfold State.triggerCapture
  split
  · have run := captureRun_sameBut (s := s)
    have dropped := run.trans (capture_state_sameBut s.captureRun.capture.state s.captureRun.capture.phase none
      s.captureRun.capture.endComp s.captureRun.capture.postTaken s.captureRun.capture.reason)
    exact (dropped.trans (freeComp_sameBut s.captureRun.capture.startComp)).mono (by decide)
  · exact captureTrigger_sameBut
  · exact sameBut_refl _ s

theorem execTriggerCapture_writes : WritesOnly ([.captureState, .comparators] ++ requestGroups) s (execTriggerCapture r s) :=
  request_writes (fun _ => checked_sameBut triggerCapture_sameBut) (by decide)

theorem execAbortCapture_writes :
    WritesOnly ([.captureState, .comparators, .latches] ++ requestGroups) s (execAbortCapture r s) :=
  request_writes (v := [.captureState, .comparators, .latches])
    (fun x => checked_sameBut (sameBut_ite (fun _ => captureDone_sameBut _) fun _ => sameBut_refl _ x)) (by decide)

theorem execReleaseCapture_writes :
    WritesOnly ([.captureSetup, .captureState, .samples, .comparators] ++ requestGroups) s (execReleaseCapture r s) :=
  request_writes (fun _ => checked_sameBut captureIdle_sameBut) (by decide)

/-! ### Requests about the cue track -/

theorem cue_codes_sameBut (a b : List Bool) (n : Nat) :
    State.SameBut [.cueCodes, .cueHistory] s
      { s with cue := { s.cue.clearDetection with mark := a, clear := b, threshold := n } } := by
  refine ⟨fun g n => ?_⟩
  have h := g.same_refl s
  cases g <;> first | exact h | exact absurd (by decide) n

theorem execSetCueCodes_writes : WritesOnly ([.cueCodes, .cueHistory] ++ requestGroups) s (execSetCueCodes r s) :=
  request_writes (fun _ => checked_sameBut (cue_codes_sameBut ..)) (by decide)

theorem auto_sameBut (b : Bool) : State.SameBut [.autoCue] s { s with cue := { s.cue with auto := b } } := by
  refine ⟨fun g n => ?_⟩
  have h := g.same_refl s
  cases g <;> first | exact h | exact absurd (by decide) n

theorem execSetAutoCue_writes : WritesOnly (.autoCue :: requestGroups) s (execSetAutoCue r s) :=
  request_writes (fun _ => checked_sameBut (auto_sameBut _)) (by decide)

theorem armWrite_sameBut (b : Bytes) : State.SameBut [.cueWriter, .comparators] s (s.armWrite b) :=
  (((setComp_sameBut (s := s) _ _).trans (setComp_sameBut _ _)).trans
    (cue_writer_sameBut .armed _ s.cue.out)).mono (by decide)

theorem execWriteCue_writes : WritesOnly ([.cueWriter, .cueHistory, .comparators] ++ requestGroups) s (execWriteCue r s) :=
  request_writes (fun x => checked_sameBut ((armWrite_sameBut (s := x) r.body).trans tryCueWrite_sameBut)) (by decide)

theorem execCancelCueWrite_writes :
    WritesOnly ([.cueWriter, .comparators, .latches] ++ requestGroups) s (execCancelCueWrite r s) :=
  request_writes (fun _ => checked_sameBut (endCueWrite_sameBut 4)) (by decide)

/-! ### Requests about the links, the profile and resets -/

theorem owner_sameBut (o : Owner) : State.SameBut [.ownership] s { s with ctl := { s.ctl with owner := o } } := by
  refine ⟨fun g n => ?_⟩
  have h := g.same_refl s
  cases g <;> first | exact h | exact absurd (by decide) n

theorem withOwner_sameBut (o : Owner) : State.SameBut [.ownership, .supervision, .reports] s (s.withOwner o) := by
  have owned := (owner_sameBut (s := s) o).trans
    (supervision_sameBut (if o = .free then none else s.faults.supervision.map (fun _ => s.now)))
  exact sameBut_ite (fun _ => owned.mono (by decide)) fun _ => owned.trans (report_sameBut ..)

/-- What a claim may write. -/
def claimGroups : List Group := [.ownership, .supervision, .reports] ++ transportGroups

theorem seize_sameBut : State.SameBut claimGroups s s.seize :=
  (withOwner_sameBut .service).thenBackdrop
    (settle_backdrop.trans ((reportTo_backdrop ..).trans (stopTransport_backdrop.trans (endAll_backdrop _))))

theorem claim_sameBut (l : Link) : State.SameBut claimGroups s (s.claim l) := by
  unfold State.claim
  split
  · exact (withOwner_sameBut _).mono (by decide)
  · exact (withOwner_sameBut _).mono (by decide)
  · exact seize_sameBut
  all_goals exact sameBut_refl _ s

theorem execClaimTransport_writes :
    WritesOnly ([.ownership, .reports] ++ motionGroups) s (execClaimTransport r s) :=
  request_writes (fun _ => checked_sameBut (claim_sameBut _)) (by decide)

theorem execReleaseTransport_writes :
    WritesOnly ([.ownership, .reports] ++ requestGroups) s (execReleaseTransport r s) :=
  request_writes (fun _ => checked_sameBut (withOwner_sameBut _)) (by decide)

theorem execSetEventMask_writes : WritesOnly (.masks :: requestGroups) s (execSetEventMask r s) :=
  request_writes (fun _ => checked_sameBut (mask_sameBut ..)) (by decide)

theorem execAcknowledgeEvents_writes : WritesOnly (.latches :: requestGroups) s (execAcknowledgeEvents r s) :=
  request_writes (fun _ => checked_sameBut (latches_sameBut ..)) (by decide)

theorem rate_sameBut (a b : Nat) : State.SameBut [.reportRate] s { s with ctl := { s.ctl with rate := a, lastReport := b } } := by
  refine ⟨fun g n => ?_⟩
  have h := g.same_refl s
  cases g <;> first | exact h | exact absurd (by decide) n

theorem withRate_sameBut (n : Nat) : State.SameBut [.reportRate, .reports] s (s.withRate n) :=
  sameBut_ite (fun _ => (((rate_sameBut n s.now).trans (report_sameBut .deck none)).trans (report_sameBut .service none)).mono
    (by decide)) fun _ => (rate_sameBut n s.now).mono (by decide)

theorem execSetReportRate_writes : WritesOnly ([.reportRate, .reports] ++ requestGroups) s (execSetReportRate r s) :=
  request_writes (fun _ => checked_sameBut (withRate_sameBut _)) (by decide)

theorem position_reprofiled_sameBut (p q : Profile) :
    State.SameBut [.anchor, .locateTable] s { s with position := s.position.reprofiled p q } := by
  unfold PositionUnit.reprofiled
  split
  · exact (anchor_sameBut none ⟨0, 0, .forward⟩).trans (locate_sameBut _)
  · exact sameBut_refl _ s

theorem Reel.reprofiled_sameDrive (x : Reel) (p q : Profile) : (x.reprofiled p q).SameDrive x := by
  unfold Reel.reprofiled
  split <;> exact ⟨rfl, rfl, rfl⟩

/-- What a new working copy may write. -/
def profileGroups : List Group := [.profile, .store, .anchor, .locateTable, .estimates, .windows, .arms, .reader]

theorem writeProfile_sameBut (b : Bytes) : State.SameBut profileGroups s (s.writeProfile b) :=
  ((((((((reprofiled_reader_sameBut (s := s) s.profile (profileOfBytes b)).trans (profile_sameBut (profileOfBytes b))).trans
    (store_sameBut { s.store with bytes := b, check := none, busy := true })).trans
    (position_reprofiled_sameBut s.profile (profileOfBytes b))).trans
    (withReel_sameBut .left (r := s.reelL.reprofiled s.profile (profileOfBytes b)) (Reel.reprofiled_sameDrive ..))).trans
    (withReel_sameBut .right (r := s.reelR.reprofiled s.profile (profileOfBytes b)) (Reel.reprofiled_sameDrive ..))).trans
    (arms_sameBut (s.armL.reprofiled s.profile (profileOfBytes b)) (s.armR.reprofiled s.profile (profileOfBytes b)))).trans
    reformGuards_sameBut).mono (by decide)

theorem execWriteProfile_writes : WritesOnly (profileGroups ++ requestGroups) s (execWriteProfile r s) :=
  request_writes (fun _ => checked_sameBut (writeProfile_sameBut _)) (by decide)

theorem pendReset_sameBut (k : Option ResetKind) :
    State.SameBut [.resetPending] s { s with ctl := { s.ctl with resetPending := k } } := by
  refine ⟨fun g n => ?_⟩
  have h := g.same_refl s
  cases g <;> first | exact h | exact absurd (by decide) n

theorem resetPart_sameBut (l : Link) : State.SameBut (.resetPending :: transportGroups) s (s.resetPart l).state := by
  unfold State.resetPart
  split
  · exact sameBut_refl _ s
  · exact (pendReset_sameBut (some (Link.resetKind l))).thenBackdrop
      (settle_backdrop.trans (stopTransport_backdrop.trans (endAll_backdrop _)))

theorem execResetPart_writes : WritesOnly (.resetPending :: motionGroups) s (execResetPart r s) :=
  request_writes (fun _ => checked_sameBut (resetPart_sameBut _)) (by decide)

end Sys2Proof.Machine
end

section
/-! The position under counts and resets, and the frame of every command. -/

namespace Sys2Proof.Machine
variable {s t u : State} {v w : List Group}

/-! ### The position -/

theorem idleTransmitter_position (l : Link) : (s.idleTransmitter l).position = s.position := by cases l <;> rfl

theorem chooseNext_position (l : Link) : ((s.idleTransmitter l).chooseNext l).position = s.position := by
  have idle : ((s.idleTransmitter l).port l).sending = none := by cases l <;> rfl
  have fed : (s.idleTransmitter l).feed l = (s.idleTransmitter l).chooseNext l := by rw [State.feed, idle]
  rw [← fed, feed_field (l := l) (·.position) (fun _ _ => by cases l <;> rfl) fun _ _ => rfl]
  exact idleTransmitter_position l

theorem linkReset_position (k : ResetKind) : (s.linkReset k).position = PositionUnit.fresh s.now := by
  have reset : (s.afterReset k .running).handNotices.readInputs.position = PositionUnit.fresh s.now :=
    field_of_backdrop readInputs_backdrop (·.position) fun _ => rfl
  exact settle_position.trans reset

theorem stepZones_position (d : Direction) : (s.stepZones d).position = s.position :=
  field_of_backdrop (reports_backdrop _ .zone s.position.pos
    { s with zones := { s.zones with entries := s.zones.entries.map (fun x => x.map (fun z => z.step s.position.pos d)) } })
    (·.position) fun _ => rfl

theorem stepPosition_position (d : Direction) :
    (s.stepPosition d).position = { s.position with pos := s.position.pos + dirSign d } :=
  settle_position.trans ((field_of_backdrop (stepComps_backdrop d) (·.position) fun _ => rfl).trans (stepZones_position d))

/-- A roller count moves the position by one, unless the limit absorbs it (R1). -/
theorem rollerCount_position (d : Direction) (e : execRollerCount d s = .next t) :
    t.position.pos = s.position.pos ∨ t.position.pos = s.position.pos + dirSign d := by
  unfold execRollerCount at e
  dsimp only at e
  split at e
  · split at e
    · cases e
      exact .inl rfl
    · cases e
      exact .inr (by rw [handOver_position, stepPosition_position]; rfl)
  · cases e
    exact .inl rfl

/-- The four commands that may reset the part leave the position or return it to 0 (R13, R190). -/
theorem reset_position {c : Instr} (h : writable c = none) (e : exec c s = .next t) :
    t.position.pos = s.position.pos ∨ t.position.pos = 0 := by
  have restarted (k : ResetKind) : (s.linkReset k).position.pos = 0 := congrArg _ (linkReset_position k)
  cases c with
  | powerOn => cases e; exact .inr rfl
  | resetLine => cases e; exact .inr rfl
  | deferredReset =>
    change execDeferredReset s = .next t at e
    unfold execDeferredReset at e
    split at e
    · split at e
      · cases e; exact .inr (restarted _)
      · cases e; exact .inl rfl
    · cases e; exact .inl rfl
  | transmitDone l =>
    have chosen : ((s.idleTransmitter l).chooseNext l).position.pos = s.position.pos := congrArg _ (chooseNext_position l)
    have again (k : ResetKind) : ((s.idleTransmitter l).linkReset k).position.pos = 0 := congrArg _ (linkReset_position k)
    change execTransmitDone l s = .next t at e
    unfold execTransmitDone at e
    dsimp only at e
    split at e
    · split at e
      · cases e; exact .inr (again _)
      · cases e; exact .inl chosen
    · cases e; exact .inl chosen
  | _ => cases h

/-! ### The frame of every command -/

/-- A command writes the groups of `writable` alone. -/
theorem exec_writes {c : Instr} (h : writable c = some w) : WritesOnly w s (exec c s) := by
  cases c with
  | powerOn => cases h
  | resetLine => cases h
  | deferredReset => cases h
  | transmitDone l => cases h
  | settlePeriodEnd => cases h; exact execSettlePeriodEnd_writes
  | resetInputRelease => cases h; exact execResetInputRelease_writes
  | profileLoadDone => cases h; exact execProfileLoadDone_writes
  | rollerCount d => cases h; exact execRollerCount_writes d
  | reelCount r d => cases h; exact execReelCount_writes r d
  | capstanCount d => cases h; exact execCapstanCount_writes d
  | windowTimeout r => cases h; exact execWindowTimeout_writes r
  | restTimerExpiry => cases h; exact execRestTimerExpiry_writes
  | tapeTimecodeWord x rev => cases h; exact execTapeTimecodeWord_writes x rev
  | conversionComplete raw => cases h; exact execConversionComplete_writes raw
  | driveFaultInput m b => cases h; exact execDriveFaultInput_writes m b
  | supplyWarningInput b => cases h; exact execSupplyWarningInput_writes b
  | reelServoUpdate => cases h; exact execReelServoUpdate_writes
  | rollerSlipTimeout => cases h; exact execRollerSlipTimeout_writes
  | referenceUpdate => cases h; exact execReferenceUpdate_writes
  | capstanUpdate => cases h; exact execCapstanUpdate_writes
  | pinchEngagedSense b => cases h; exact execPinchEngagedSense_writes b
  | pinchTimeout => cases h; exact execPinchTimeout_writes
  | durationExpiry => cases h; exact execDurationExpiry_writes
  | threadCheckTimeout => cases h; exact execThreadCheckTimeout_writes
  | measureTimeout => cases h; exact execMeasureTimeout_writes
  | brakingTimeout => cases h; exact execBrakingTimeout_writes
  | supervisionExpiry => cases h; exact execSupervisionExpiry_writes
  | referenceWord x rev => cases h; exact execReferenceWord_writes x rev
  | lossTimerExpiry => cases h; exact execLossTimerExpiry_writes
  | freewheelExpiry => cases h; exact execFreewheelExpiry_writes
  | cueBit b => cases h; exact execCueBit_writes b
  | captureSampleEvent => cases h; exact execCaptureSampleEvent_writes
  | positionReportPeriod => cases h; exact execPositionReportPeriod_writes
  | frameReceived l k x b => cases h; exact execFrameReceived_writes l k x b
  | byteReceived l b x => cases h; exact execByteReceived_writes l b x
  | frameGapTimeout l => cases h; exact execFrameGapTimeout_writes l
  | profileWriteDone => cases h; exact execProfileWriteDone_writes
  | unknownKind k r => cases h; exact execUnknownKind_writes
  | readStatus r => cases h; exact execReadStatus_writes
  | readPosition r => cases h; exact execReadPosition_writes
  | readReelModel r => cases h; exact execReadReelModel_writes
  | readMoves r => cases h; exact execReadMoves_writes
  | readLocateTable r => cases h; exact execReadLocateTable_writes
  | readZones r => cases h; exact execReadZones_writes
  | readCapture r => cases h; exact execReadCapture_writes
  | readProfile r => cases h; exact execReadProfile_writes
  | readEvents r => cases h; exact execReadEvents_writes
  | claimTransport r => cases h; exact execClaimTransport_writes
  | releaseTransport r => cases h; exact execReleaseTransport_writes
  | submitMove r => cases h; exact execSubmitMove_writes
  | flushMoves r => cases h; exact execFlushMoves_writes
  | stop r => cases h; exact execStop_writes
  | sizeReels r => cases h; exact execSizeReels_writes
  | enterStandby r => cases h; exact execEnterStandby_writes
  | wake r => cases h; exact execWake_writes
  | clearFault r => cases h; exact execClearFault_writes
  | setZone r => cases h; exact execSetZone_writes
  | clearZone r => cases h; exact execClearZone_writes
  | setLocateEntry r => cases h; exact execSetLocateEntry_writes
  | clearLocateEntry r => cases h; exact execClearLocateEntry_writes
  | setAnchor r => cases h; exact execSetAnchor_writes
  | setSchedule r => cases h; exact execSetSchedule_writes
  | setEventMask r => cases h; exact execSetEventMask_writes
  | acknowledgeEvents r => cases h; exact execAcknowledgeEvents_writes
  | setReportRate r => cases h; exact execSetReportRate_writes
  | watchPosition r => cases h; exact execWatchPosition_writes
  | cancelWatch r => cases h; exact execCancelWatch_writes
  | armCapture r => cases h; exact execArmCapture_writes
  | triggerCapture r => cases h; exact execTriggerCapture_writes
  | abortCapture r => cases h; exact execAbortCapture_writes
  | releaseCapture r => cases h; exact execReleaseCapture_writes
  | setCueCodes r => cases h; exact execSetCueCodes_writes
  | setAutoCue r => cases h; exact execSetAutoCue_writes
  | writeCue r => cases h; exact execWriteCue_writes
  | cancelCueWrite r => cases h; exact execCancelCueWrite_writes
  | writeProfile r => cases h; exact execWriteProfile_writes
  | resetPart r => cases h; exact execResetPart_writes

/-- Settles O4: the frames of the commands (`exec_writes`), and the position under a count and under a reset. -/
theorem onlyOwnCommandsWrite : Obligations.OnlyOwnCommandsWrite := by
  intro c s t e
  refine ⟨?_, ?_, fun h => reset_position h e⟩
  · cases h : writable c with
    | none => exact ⟨t, .inl rfl, fun _ _ k => by cases k⟩
    | some w =>
      obtain ⟨u, eu, same⟩ := exec_writes h t e
      exact ⟨u, eu, fun _ g k n => by cases k; exact same.same g n⟩
  · rintro d rfl
    exact rollerCount_position d e

end Sys2Proof.Machine
end

section
/-! The reset state meets the invariants; position reports and the store write; the capstan loop. -/

namespace Sys2Proof.Machine
variable {s t u : State}

/-! ### The invariants after a reset -/

theorem reset_tables : State.reset.TablesWf :=
  ⟨rfl, rfl, rfl, rfl, rfl, by decide, by decide, by decide, by decide, rfl, rfl, rfl, nofun, by decide,
    by decide, fun h => absurd rfl h, by decide, nofun⟩

theorem reset_braked : State.reset.Braked := ⟨rfl, rfl, rfl, rfl, rfl, rfl, rfl, rfl, rfl, rfl, rfl, rfl, rfl, rfl⟩

theorem reset_outputs : State.reset.OutputsOk :=
  ⟨rfl, by decide, by decide, nofun, fun _ => reset_braked, by decide, by decide, by decide⟩

theorem reset_moves : State.reset.MovesOk :=
  ⟨nofun, by decide, by decide, by decide, by decide, by decide, by decide, by decide, by decide, by decide,
    by decide, nofun, nofun⟩

theorem reset_profile : State.reset.ProfileOk := ⟨by decide, by decide, by decide⟩

theorem reset_derived : State.reset.DerivedOk := ⟨⟨rfl, rfl, fun _ => rfl⟩, ⟨rfl, rfl, fun _ => rfl⟩, rfl, rfl⟩

/-- Settles O6: each invariant is read off the reset state. -/
theorem invariantsAtReset : Obligations.InvariantsAtReset :=
  ⟨reset_tables, reset_outputs, reset_moves, reset_profile, reset_counts, reset_derived⟩

/-! ### Position reports and the store (R185, R193) -/

/-- A position is within the four bytes that carry it. -/
theorem enc4_of_position {x : Int} (lo : -2000000000 ≤ x) (hi : x ≤ 2000000000) : enc4 x = wordBytes (BitVec.ofInt 32 x) := by
  rw [enc4, if_pos (by omega)]

/-- The flag byte of a position report. -/
theorem enc1_reportFlags (b : Bool) (a : Option Anchor) :
    enc1 ((if b then 1 else 0) + 2 * anchorNum a) = [(if b then 1 else 0) + (match a with
      | none => 0
      | some x => if x.kind = .preset then 2 else 4)] := by
  rcases a with _ | ⟨k, p, f⟩
  · cases b <;> rfl
  · cases k <;> cases b <;> rfl

theorem positionReport_eq (lo : -2000000000 ≤ s.position.pos) (hi : s.position.pos ≤ 2000000000) :
    s.positionReport = wordBytes (BitVec.ofInt 32 s.position.pos) ++
      [(if s.position.atRest then 1 else 0) + (match s.position.anchor with
        | none => 0
        | some a => if a.kind = .preset then 2 else 4)] ++
      (match s.timeAt s.position.pos with
        | some t => [t.hh, t.mm, t.ss, t.ff]
        | none => [0xFF, 0xFF, 0xFF, 0xFF]) := by
  rw [State.positionReport, enc4_of_position lo hi, enc1_reportFlags]
  cases s.timeAt s.position.pos <;> rfl

/-- Settles O50: both commands are read off their definitions, the report's body by `positionReport_eq`. -/
theorem reportsAndWrites : Obligations.ReportsAndWrites := by
  intro s u
  refine ⟨fun off => if_pos off, fun on lo hi hu => ?_, fun idle => ?_, fun busy => ?_⟩
  · subst hu
    refine (if_neg on).trans ?_
    rw [positionReport_eq (by exact lo) (by exact hi)]
    rfl
  · exact if_neg (by rw [idle]; decide)
  · exact if_pos busy

/-! ### The capstan (R2, R101, R102) -/

/-- What the loop follows: v_c in a run-up, else the reference. -/
theorem capstanFollows_eq :
    (if s.runUp then s.capstanGoal else s.motion.vRef) = (match s.motion.state, s.motion.active with
      | .winding, some m =>
        if m.kind = .play then s.profile.vPlay * (10000 + m.vari + s.chase.c) / 10000
        else if m.kind = .chase ∧ s.chase.seek = none then s.profile.vPlay * (10000 + s.chase.c) / 10000
        else s.motion.vRef
      | _, _ => s.motion.vRef) := by
  cases hs : s.motion.state
  case winding =>
    cases ha : s.motion.active with
    | none => simp [State.runUp, hs, ha]
    | some a =>
      cases hk : a.kind <;> cases hc : s.chase.seek <;>
        simp [State.runUp, State.capstanGoal, State.seeking, capstanTarget, hs, ha, hk, hc]
  all_goals simp [State.runUp, hs]

/-- Settles O41: the interval closes into a speed, and the loop is driven by the difference from what it follows. -/
theorem capstanServo : Obligations.CapstanServo := by
  refine ⟨fun s d => ?_, fun s h v goal e i hh hv hg he hi => ?_⟩
  · by_cases k : s.startup.phase = .held <;> simp [exec, execCapstanCount, State.counting, k]
  · replace hg := hg.trans capstanFollows_eq.symm
    subst hh hv hg he hi
    cases k : s.capstan.running
    · simp only [exec, execCapstanUpdate, State.reach, closeInterval, speedOf, k]
      rfl
    · simp only [exec, execCapstanUpdate, State.reach, closeInterval, speedOf, k, if_true, Capstan.driven,
        clampInt_eq _ _ _ (by decide : (-1024 : Int) ≤ 1024), clampInt_eq _ _ _ (by decide : (-2047 : Int) ≤ 2047)]
      rfl

end Sys2Proof.Machine
end

section
/-! Counts of the roller and of the reels. -/

namespace Sys2Proof.Machine
variable {s t u : State} {d : Direction}

/-! ### ROLLER_COUNT (R1, R3, R24) -/

theorem counting_of (h : s.startup.phase ≠ .held) : s.counting = true := decide_eq_true h

/-- Nothing stands in a count's way: no zone's edge is crossed, no comparator hit, and no reaction due. -/
theorem stepPosition_of_quiet (v : State) (hv : v = { s with position := { s.position with pos := s.position.pos + dirSign d } })
    (hz : ∀ z, some z ∈ v.zones.entries → z.contains = z.holds v.position.pos)
    (hc : ∀ c, some c ∈ v.comps → c.hits v.position.pos d = false) (settled : v.Settled) : s.stepPosition d = v := by
  subst hv
  rw [State.stepPosition, stepZones_of_holds hz, stepComps_of_no_hit hc, settle_of_settled settled]

/-- A comparator whose sense excludes the direction of the count does not hit (R157). -/
theorem no_hit_of {c : Comparator} {x : Int}
    (h : c.state = .armed → c.target = x → (c.sense = .forward ∧ d = .reverse) ∨ (c.sense = .reverse ∧ d = .forward)) :
    c.hits x d = false := by
  rw [Bool.eq_false_iff]
  intro hit
  obtain ⟨armed, target, sense⟩ := (hits_iff c x).1 hit
  rcases h armed target with ⟨e, f⟩ | ⟨e, f⟩ <;> simp [e, f] at sense

/-- Settles O26: the limit's test is `absorbed_iff`, and a count that meets nothing moves the position alone. -/
theorem rollerCount : Obligations.RollerCount := by
  intro s u v d x hx hu hv
  refine ⟨fun held => if_neg (by simp [State.counting, held]), fun counted => ⟨fun out => ?_, fun lo hi hz hc settled => ?_⟩⟩
  · refine (if_pos (counting_of counted)).trans ((if_pos ?_).trans (by rw [hu]; rfl))
    exact (absorbed_iff _).2 (hx ▸ out)
  · have free : ¬ absorbed s.position.pos d = true := fun k => by
      have := (absorbed_iff _).1 k
      omega
    refine (if_pos (counting_of counted)).trans ((if_neg free).trans ?_)
    subst hx hu
    have moved : (s.rollerSums d).stepPosition d = v := by
      subst hv
      refine stepPosition_of_quiet _ rfl (fun z mem => ?_) (fun c mem => no_hit_of (hc c mem)) settled
      exact Bool.eq_iff_iff.2 ((hz z mem).trans (by simp [Zone.holds]))
    rw [moved]

/-! ### REEL_COUNT (R2, R24, R25) -/

theorem counted_of_opens (r : Reel) (p : Profile) (n : Nat)
    (h : r.window = none ∨ ∃ o, r.window = some o ∧ o.dir ≠ d) : r.counted p d n = ({ r with window := some ⟨d, 0, 0, n⟩ }, false) := by
  unfold Reel.counted
  rcases h with h | ⟨o, h, k⟩
  · rw [h]
  · rw [h]
    exact if_neg k

theorem counted_of_advances (r : Reel) (p : Profile) (n : Nat) {o : Window} (h : r.window = some o) (k : o.dir = d)
    (m : o.angle < 255) : r.counted p d n = ({ r with window := some { o with angle := o.angle + 1 } }, false) := by
  unfold Reel.counted
  rw [h]
  exact (if_pos k).trans (if_neg (by omega))

/-- A count that only moves its reel's window leaves the derived values, so nothing but the window is written. -/
theorem reelCount_window {r : Side} {x : Window} (h1 : s.startup.phase ≠ .held) (h2 : s.motion.state.braked = false)
    (derived : s.DerivedOk) (hc : (s.reel r).counted s.profile d s.now = ({ s.reel r with window := some x }, false))
    (ht : t = State.withReel { s with position := s.position.tach r d } r { s.reel r with window := some x })
    (settled : t.Settled) : exec (.reelCount r d) s = .next t.handOver := by
  have same : t.reformGuards = t := by
    subst ht
    cases r
    · exact reformGuards_of (derived.guardF.trans (guardSpec_congr rfl rfl)) derived.guardR
    · exact reformGuards_of derived.guardF (derived.guardR.trans (guardSpec_congr rfl rfl))
  rw [reelCount_eq r h1 h2, hc, ← ht]
  simp only [Bool.false_eq_true, if_false]
  rw [same, settle_of_settled settled]

/-- Settles O29: the tach count apart, a count opens, advances or replaces its reel's window. -/
theorem reelCount : Obligations.ReelCount := by
  intro s u r d hu
  have hu' : u = { s with position := s.position.tach r d } := by rw [hu]; cases r <;> rfl
  refine ⟨fun held => if_neg (by simp [State.counting, held]), fun counted => ⟨fun braked => ?_, fun driven derived w v hw => ?_⟩⟩
  · rw [hu']
    exact (if_pos (counting_of counted)).trans (if_pos braked)
  · refine ⟨fun opens settled => ?_, fun o ho hd ha hv settled => ?_⟩
    · exact reelCount_window counted driven derived (counted_of_opens _ _ _ opens) (by rw [hw, hu']) settled
    · exact reelCount_window counted driven derived (counted_of_advances _ _ _ ho hd ha) (by rw [hv, hu']) settled

end Sys2Proof.Machine
end

section
/-! Timecode words of the tape. -/

namespace Sys2Proof.Machine
variable {s t u : State} {w : BcdTime} {rev : Bool} {f n : Nat}

/-! ### Timecode words (R9 to R13) -/

theorem wordUsable_iff (p : Profile) (v : Int) : wordUsable p v rev = true ↔
    (p.vPlay : Int) ≤ 10 * |v| ∧ |v| ≤ 10 * p.vPlay ∧ (rev = false → 0 < v) ∧ (rev = true → v < 0) := by
  rw [wordUsable, Bool.and_eq_true, Bool.and_eq_true, decide_eq_true_iff, decide_eq_true_iff, and_assoc, Int.abs_eq_natAbs]
  refine and_congr (by omega) (and_congr (by omega) ?_)
  cases rev <;> simp

/-- A valid timecode has a frame rate under it. -/
theorem dayFrames_pos {p : Profile} (h : timecodeFrames p w = some f) : 0 < dayFrames p :=
  Nat.zero_lt_of_lt (timecodeFrames_lt h)

/-- The frame of a position is the remainder that R7 gives. -/
theorem frameOfPos_cast {p : Profile} (h : 0 < dayFrames p) (pa pos : Int) (fa : Nat) :
    (frameOfPos p pa fa pos : Int) = (fa + (pos - pa) * p.rate * p.cRoll / (1000 * p.vPlay)) % dayFrames p :=
  Int.toNat_of_nonneg (Int.emod_nonneg _ (by omega))

theorem wordAgrees_iff (p : Profile) (g : Nat) : wordAgrees p f g = true ↔
    |((f : Int) - g + dayFrames p / 2) % dayFrames p - dayFrames p / 2| ≤ 1 := by
  rw [wordAgrees, decide_eq_true_iff, Int.abs_eq_natAbs, wrapHalf]
  omega

theorem jumpFrames_eq (p : Profile) (g : Nat) : jumpFrames p f g =
    max (-32767) (min 32767 (((f : Int) - g + dayFrames p / 2) % dayFrames p - dayFrames p / 2)) :=
  clampInt_eq _ _ _ (by decide)

theorem eq_nextFrame_iff {p : Profile} (h : 0 < dayFrames p) (last : Nat) :
    f = nextFrame p last (wordDir rev) ↔ (f : Int) = (last + (if rev = true then -1 else 1)) % dayFrames p := by
  cases rev
  · simp only [nextFrame, wordDir, Bool.false_eq_true, if_false]
    rw [← Int.natCast_inj, Int.natCast_mod, Nat.cast_add, Nat.cast_one]
  · have e : ((last + dayFrames p - 1 : Nat) : Int) = (last + -1) + dayFrames p := by omega
    have g : ((nextFrame p last .reverse : Nat) : Int) = ((last : Int) + -1) % dayFrames p := by
      rw [nextFrame, Int.natCast_mod, e, Int.add_emod_right]
    simp only [wordDir, if_true, ← g]
    omega

theorem chainLength_eq {p : Profile} (h : 0 < dayFrames p) (c : Chain) : chainLength p c f (wordDir rev) =
    if c.len ≠ 0 ∧ (c.dir = .reverse ↔ rev = true) ∧
      (f : Int) = (c.last + (if rev = true then -1 else 1)) % dayFrames p then c.len + 1 else 1 := by
  have dir : c.dir = wordDir rev ↔ (c.dir = .reverse ↔ rev = true) := by
    cases c.dir <;> cases rev <;> simp [wordDir]
  unfold chainLength
  refine if_congr (and_congr_right fun _ => ?_) rfl rfl
  rw [← dir]
  refine and_congr_right fun k => ?_
  rw [k, eq_nextFrame_iff h]

/-- An unusable word empties the chain. -/
theorem tapeTimecodeWord_of_unusable (h : ¬((timecodeFrames s.profile w).isSome = true ∧
    wordUsable s.profile s.speed.v rev = true)) : exec (.tapeTimecodeWord w rev) s = .next s.emptyChain := by
  simp only [exec, execTapeTimecodeWord]
  split
  · rename_i hf hu
    exact absurd ⟨by rw [hf]; rfl, hu⟩ h
  · rfl

/-- A usable word that agrees with the anchor's prediction refreshes the anchor. -/
theorem tapeTimecodeWord_of_agrees {a : Anchor} (hf : timecodeFrames s.profile w = some f)
    (hu : wordUsable s.profile s.speed.v rev = true) (ha : s.position.anchor = some a)
    (agrees : wordAgrees s.profile f (frameOfPos s.profile a.pos a.frame s.position.pos) = true) :
    exec (.tapeTimecodeWord w rev) s = .next (s.withAnchor ⟨.tape, s.position.pos, f⟩) := by
  simp only [exec, execTapeTimecodeWord, hf, hu, State.frameAt, ha, Option.map_some]
  exact if_pos agrees

/-- A usable word that does not disagrees. -/
theorem tapeTimecodeWord_of_disagrees (hf : timecodeFrames s.profile w = some f)
    (hu : wordUsable s.profile s.speed.v rev = true) (no : ∀ a, s.position.anchor = some a →
      wordAgrees s.profile f (frameOfPos s.profile a.pos a.frame s.position.pos) ≠ true) :
    exec (.tapeTimecodeWord w rev) s = .next (s.disagree f (wordDir rev)).handOver := by
  simp only [exec, execTapeTimecodeWord, hf, hu, State.frameAt]
  cases ha : s.position.anchor with
  | none => rfl
  | some a => exact if_neg (no a ha)

/-- The anchor a completed chain sets, before its report (R13). -/
theorem reanchor_eq (f : Nat) : s.reanchor f =
    match s.position.anchor with
    | none => { s with position := { s.position with
        anchor := some ⟨.tape, s.position.pos, f⟩
        chain := ⟨0, 0, .forward⟩
        locate := (s.withAnchor ⟨.tape, s.position.pos, f⟩).retimed } }
    | some a => State.reportTo { s with position := { s.position with
        anchor := some ⟨.tape, s.position.pos, f⟩
        chain := ⟨0, 0, .forward⟩
        locate := (s.withAnchor ⟨.tape, s.position.pos, f⟩).retimed } } s.noticeLink .reanchor
          (jumpFrames s.profile f (frameOfPos s.profile a.pos a.frame s.position.pos)) s.position.pos := by
  unfold State.reanchor State.frameAt
  cases s.position.anchor <;> rfl

/-- Settles O33: usable words by `wordUsable_iff`, agreeing ones by `wordAgrees_iff`, chains by `chainLength_eq`. -/
theorem tapeTimecodeWord : Obligations.TapeTimecodeWord := by
  intro s w rev usable day hday husable
  replace hday : (day : Int) = dayFrames s.profile := congrArg Nat.cast hday
  replace husable : usable ↔ (timecodeFrames s.profile w).isSome = true ∧ wordUsable s.profile s.speed.v rev = true := by
    rw [husable, wordUsable_iff]
  refine ⟨fun no => tapeTimecodeWord_of_unusable (mt husable.2 no), fun f yes hf => ?_⟩
  have hu := (husable.1 yes).2
  have hpos := dayFrames_pos hf
  have predicted : ∀ (a : Anchor) (fp : Int), fp = (a.frame +
      (s.position.pos - a.pos) * s.profile.rate * s.profile.cRoll / (1000 * s.profile.vPlay)) % day →
      fp = frameOfPos s.profile a.pos a.frame s.position.pos := fun a fp e => by
    rw [e, frameOfPos_cast hpos, hday]
  refine ⟨fun a fp ha hfp agrees => tapeTimecodeWord_of_agrees hf hu ha ?_, fun n far hn => ?_⟩
  · rw [wordAgrees_iff, ← hday, ← predicted a fp hfp]
    exact agrees
  · have disagrees := tapeTimecodeWord_of_disagrees hf hu fun a ha => by
      rw [ne_eq, wordAgrees_iff, ← hday, not_le]
      exact (predicted a _ rfl) ▸ far a _ ha rfl
    rw [hday, ← chainLength_eq hpos] at hn
    rw [disagrees, State.disagree, ← hn]
    refine ⟨fun few => ?_, fun many u hu => ?_⟩
    · dsimp only
      rw [if_neg (by omega)]
      cases rev <;> rfl
    · dsimp only
      rw [hday] at hu
      rw [if_pos many, reanchor_eq]
      refine ⟨fun none => ?_, fun a fp ha hfp => ?_⟩
      · rw [none, hu]
        rfl
      · rw [ha, predicted a fp hfp, hday, ← jumpFrames_eq, hu]
        rfl

end Sys2Proof.Machine
end

section
/-! The fields of a body read back from their bytes, and the requests of the owner. -/

namespace Sys2Proof.Machine
variable {s t u : State} {kind : Byte} {r : Request}

/-! ### Bodies and the bytes they are made of (R181) -/

theorem bodyU8_of_drop {b c : Bytes} {i : Nat} (h : b.drop i = c) (k : Nat) : bodyU8 b (i + k) = bodyU8 c k := by
  subst h
  simp [bodyU8, List.getD_eq_getElem?_getD, List.getElem?_drop]

/-- A four-byte field read back from its word. -/
theorem bodyU32_of_drop {b rest : Bytes} {i : Nat} {x : BitVec 32} (h : b.drop i = wordBytes x ++ rest) :
    bodyU32 b i = x.toNat := by
  have lt := x.isLt
  have byte := bodyU8_of_drop h
  have b0 : bodyU8 b i = x.toNat / 16777216 % 256 := by simpa [bodyU8, wordBytes, Nat.shiftRight_eq_div_pow] using byte 0
  have b1 : bodyU8 b (i + 1) = x.toNat / 65536 % 256 := by simpa [bodyU8, wordBytes, Nat.shiftRight_eq_div_pow] using byte 1
  have b2 : bodyU8 b (i + 2) = x.toNat / 256 % 256 := by simpa [bodyU8, wordBytes, Nat.shiftRight_eq_div_pow] using byte 2
  have b3 : bodyU8 b (i + 2 + 1) = x.toNat % 256 := by simpa [bodyU8, wordBytes] using byte 3
  rw [bodyU32, bodyU16, bodyU16, b0, b1, b2, b3]
  omega

theorem bodyI32_of_drop {b rest : Bytes} {i : Nat} {x : BitVec 32} (h : b.drop i = wordBytes x ++ rest) :
    bodyI32 b i = x.toInt := by
  rw [bodyI32, bodyU32_of_drop h, BitVec.ofNat_toNat, BitVec.setWidth_eq]

/-- A position field read back. -/
theorem bodyI32_of_position {b rest : Bytes} {i : Nat} {x : Int} (h : b.drop i = wordBytes (BitVec.ofInt 32 x) ++ rest)
    (lo : -2000000000 ≤ x) (hi : x ≤ 2000000000) : bodyI32 b i = x := by
  rw [bodyI32_of_drop h, BitVec.toInt_ofInt, Int.bmod_def]
  omega

/-- A number field of four bytes read back. -/
theorem bodyU32_of_number {b rest : Bytes} {i n : Nat} (h : b.drop i = wordBytes (BitVec.ofNat 32 n) ++ rest)
    (hn : n < 4294967296) : bodyU32 b i = n := by
  rw [bodyU32_of_drop h, BitVec.toNat_ofNat]
  omega

/-- A number field of one byte read back. -/
theorem byte_of_number {n : Nat} (h : n < 256) : (BitVec.ofNat 8 n).toNat = n := by
  rw [BitVec.toNat_ofNat]
  omega

theorem posOk_of {x : Int} (lo : -2000000000 ≤ x) (hi : x ≤ 2000000000) : posOk x = true := by
  simp [posOk, posMax, lo, hi]

theorem toNat_append_byte {n : Nat} (x : BitVec n) (b : Byte) : (x ++ b).toNat = x.toNat * 256 + b.toNat := by
  rw [BitVec.toNat_append, ← Nat.shiftLeft_add_eq_or_of_lt b.isLt, Nat.shiftLeft_eq]

/-- The word of four bytes is those bytes. -/
theorem wordBytes_append (a b c d : Byte) : wordBytes (a ++ b ++ c ++ d) = [a, b, c, d] := by
  have n : (a ++ b ++ c ++ d : BitVec 32).toNat = ((a.toNat * 256 + b.toNat) * 256 + c.toNat) * 256 + d.toNat := by
    rw [← toNat_append_byte, ← toNat_append_byte, ← toNat_append_byte]
  have ha := a.isLt
  have hb := b.isLt
  have hc := c.isLt
  have hd := d.isLt
  simp only [wordBytes, List.cons.injEq, and_true]
  refine ⟨?_, ?_, ?_, ?_⟩ <;> apply BitVec.eq_of_toNat_eq <;>
    rw [BitVec.extractLsb'_toNat, n, Nat.shiftRight_eq_div_pow] <;> omega

/-! ### Requests of the owner (R180) -/

/-- A request of the owner with a body of the right length comes to its remaining checks. -/
theorem owned_request {n : Nat} {checks : State → List Check} {act : State → Answer} (h : s.Takes kind r t)
    (g : t.Grants r.link) (hn : r.body.length = n) :
    s.request kind r (fun x => x.checked (x.owns r.link :: x.noReset :: sized r n :: checks x) (act x)) =
      .next (((t.checked (checks t) (act t)).replied kind r).handOver) := by
  rw [request_of_takes h, owns_of g.1, noReset_of g.2, sized_of hn]
  rfl

end Sys2Proof.Machine
end

section
/-! The requests about zones, the locate table, the anchor and the schedule. -/

namespace Sys2Proof.Machine
variable {s t u : State} {r : Request} {b : Bytes}

/-! ### SET_ZONE, CLEAR_ZONE (R116, R117) -/

/-- The fields of a Set Zone body as they are read. -/
structure ZoneBody (b : Bytes) (i c : Nat) (lo hi : Int) (k : ZoneKind) : Prop where
  index   : bodyU8 b 0 = i
  base    : bodyI32 b 1 = lo
  limit   : bodyI32 b 5 = hi
  kind    : bodyU8 b 9 = k.ctorIdx
  ceiling : bodyU32 b 10 = c
  length  : b.length = 14

theorem zoneBody_of {i c : Nat} {lo hi : Int} {k : ZoneKind}
    (h : b = [BitVec.ofNat 8 i] ++ wordBytes (BitVec.ofInt 32 lo) ++ wordBytes (BitVec.ofInt 32 hi) ++
      [BitVec.ofNat 8 k.ctorIdx] ++ wordBytes (BitVec.ofNat 32 c))
    (hi8 : i < 8) (lo1 : -2000000000 ≤ lo) (lo2 : lo ≤ 2000000000) (hi1 : -2000000000 ≤ hi) (hi2 : hi ≤ 2000000000)
    (hc : c < 4294967296) : ZoneBody b i c lo hi k := by
  subst h
  exact {
    index := byte_of_number (by omega)
    base := bodyI32_of_position rfl lo1 lo2
    limit := bodyI32_of_position rfl hi1 hi2
    kind := byte_of_number (by cases k <;> decide)
    ceiling := bodyU32_of_number (rest := []) rfl hc
    length := rfl }

theorem zoneKindOf_ctorIdx (k : ZoneKind) : zoneKindOf k.ctorIdx = k := by cases k <;> rfl

/-- The zone a body describes, with its containment and exit at a position (R116). -/
theorem zoneOf_eq {i c : Nat} {lo hi : Int} {k : ZoneKind} (h : ZoneBody b i c lo hi k) (pos : Int) :
    zoneOf b pos = {
      base := lo, limit := hi, kind := k, ceiling := c
      contains := decide (lo ≤ pos ∧ pos ≤ hi)
      exit := if k = .barrier ∧ lo ≤ pos ∧ pos ≤ hi then
          some (if pos - lo < hi - pos then .reverse else if hi - pos < pos - lo then .forward else .either)
        else none } := by
  simp only [zoneOf, h.base, h.limit, h.kind, h.ceiling, zoneKindOf_ctorIdx, nearerExit, Bool.and_eq_true, decide_eq_true_eq,
    Bool.decide_and, Zone.mk.injEq, true_and]
  exact if_congr and_comm rfl rfl

theorem setZone_badLimit {i c : Nat} {lo hi : Int} {k : ZoneKind} (ht : s.Takes 0x20 r t) (g : t.Grants r.link)
    (h : ZoneBody r.body i c lo hi k) (hi8 : i < 8) (lo1 : -2000000000 ≤ lo) (lo2 : lo ≤ 2000000000) (turned : hi < lo) :
    exec (.setZone r) s = .next (t.answered 0x20 r .badField [3]) := by
  have fields : ∃ x y, zoneFields r.body = [true, true, false, x, y] := by
    refine ⟨enumField r.body 9 3, if bodyU8 r.body 9 = 0 then inRange 10000 12000000 (bodyU32 r.body 10)
      else decide (bodyU32 r.body 10 = 0), ?_⟩
    simp only [zoneFields, positionField, h.index, h.base, h.limit, posOk_of lo1 lo2, hi8, decide_true]
    rw [decide_eq_false (by omega : ¬ lo ≤ hi), Bool.and_false]
  obtain ⟨x, y, fields⟩ := fields
  simp only [exec, execSetZone]
  rw [owned_request ht g h.length, fields]
  rfl

theorem setZone_ok {i c : Nat} {lo hi : Int} {k : ZoneKind} (ht : s.Takes 0x20 r t) (g : t.Grants r.link)
    (h : ZoneBody r.body i c lo hi k) (hi8 : i < 8) (lo1 : -2000000000 ≤ lo) (hi2 : hi ≤ 2000000000) (le : lo ≤ hi)
    (hc : if k = .slow then 10000 ≤ c ∧ c ≤ 12000000 else c = 0) :
    exec (.setZone r) s = .next (State.answered { t with zones := { t.zones with
      entries := t.zones.entries.set i (some (zoneOf r.body t.position.pos)) } } 0x20 r .ok []) := by
  have ceiling : (if k.ctorIdx = 0 then inRange 10000 12000000 c else decide (c = 0)) = true := by
    cases k
    case slow => simpa [inRange, ZoneKind.ctorIdx] using hc
    all_goals simpa [ZoneKind.ctorIdx] using hc
  have kind : k.ctorIdx < 3 := by cases k <;> decide
  have fields : zoneFields r.body = [true, true, true, true, true] := by
    simp only [zoneFields, positionField, enumField, h.index, h.base, h.limit, h.kind, h.ceiling, ceiling, hi8, kind, le,
      posOk_of lo1 (le.trans hi2), posOk_of (lo1.trans le) hi2, decide_true, Bool.and_true]
  simp only [exec, execSetZone]
  rw [owned_request ht g h.length, fields, h.index]
  rfl

theorem length_of_byte {x : Byte} (h : b = [x]) : b.length = 1 := by rw [h]; rfl

/-- The one-byte body of an index. -/
theorem index_of_byte {i : Nat} (h : b = [BitVec.ofNat 8 i]) (hi : i < 256) : bodyU8 b 0 = i := by
  rw [h]
  exact byte_of_number hi

theorem clearZone_ok {i : Nat} (ht : s.Takes 0x21 r t) (g : t.Grants r.link) (h : r.body = [BitVec.ofNat 8 i])
    (hi : i < 8 ∨ i = 255) : exec (.clearZone r) s = .next (State.answered
      { t with zones := { t.zones with entries := clearedZones t.zones.entries i } } 0x21 r .ok []) := by
  have index := index_of_byte h (by omega)
  have named : indexOrAll r.body 0 8 = true := by simpa [indexOrAll, index] using hi
  simp only [exec, execClearZone]
  rw [owned_request ht g (length_of_byte h), named, index]
  rfl

theorem clearZone_bad {i : Nat} (ht : s.Takes 0x21 r t) (g : t.Grants r.link) (h : r.body = [BitVec.ofNat 8 i])
    (h8 : 8 ≤ i) (hi : i < 255) : exec (.clearZone r) s = .next (t.answered 0x21 r .badField [1]) := by
  have index := index_of_byte h (by omega)
  have unnamed : indexOrAll r.body 0 8 = false := by
    simp only [indexOrAll, index, Bool.or_eq_false_iff, decide_eq_false_iff_not]
    omega
  simp only [exec, execClearZone]
  rw [owned_request ht g (length_of_byte h), unnamed]
  rfl

/-! ### SET_LOCATE_ENTRY, CLEAR_LOCATE_ENTRY (R17, R18) -/

/-- The position of a frame through an anchor (R8). -/
theorem posOfFrame_eq (p : Profile) (pa : Int) (fa ft : Nat) : posOfFrame p pa fa ft =
    max (-2000000000) (min 2000000000 (pa +
      (((ft : Int) - fa + 43200 * p.rate) % (86400 * p.rate) - 43200 * p.rate) * 1000 * p.vPlay / (p.rate * p.cRoll))) := by
  have day : (dayFrames p : Int) = 86400 * p.rate := by rw [dayFrames, Nat.cast_mul]; rfl
  have half : (86400 * (p.rate : Int)) / 2 = 43200 * p.rate := by omega
  rw [posOfFrame, wrapHalf, day, half, clampInt_eq _ _ _ (by decide)]
  rfl

/-- A Set Locate Entry whose fields are valid stores the entry it describes, or finds none. -/
theorem setLocateEntry_eq {i : Nat} {k : Byte} {l : Bytes} (ht : s.Takes 0x22 r t) (g : t.Grants r.link)
    (h : r.body = [BitVec.ofNat 8 i, k] ++ l) (hl : l.length = 4) (hi : i < 32) (hk : k.toNat < 3)
    (value : (match k.toNat with
      | 1 => positionField r.body 2
      | 2 => timeField t.profile r.body 2
      | _ => true) = true) :
    exec (.setLocateEntry r) s = .next (((t.checked [check (t.entryFor r.body).isSome .wrongState]
      ((t.withEntry i (t.entryFor r.body)).ok [])).replied 0x22 r).handOver) := by
  have index : bodyU8 r.body 0 = i := by rw [h]; exact byte_of_number (by omega)
  have source : bodyU8 r.body 1 = k.toNat := by rw [h]; rfl
  have length : r.body.length = 6 := by rw [h]; simp [hl]
  have fields : locateFields t.profile r.body = [true, true, true] := by
    simp only [locateFields, enumField, index, source, hi, hk, decide_true, List.cons.injEq, and_true, true_and]
    exact value
  simp only [exec, execSetLocateEntry]
  rw [owned_request ht g length, fields, index]
  rfl

theorem answered_of_entry {e : LocateEntry} {i : Nat} (h : t.entryFor b = some e) :
    ((t.checked [check (t.entryFor b).isSome .wrongState] ((t.withEntry i (t.entryFor b)).ok [])).replied 0x22 r).handOver =
      State.answered { t with position := { t.position with locate := t.position.locate.set i (some e) } } 0x22 r .ok [] := by
  rw [h]
  rfl

theorem answered_of_no_entry {i : Nat} (h : t.entryFor b = none) :
    ((t.checked [check (t.entryFor b).isSome .wrongState] ((t.withEntry i (t.entryFor b)).ok [])).replied 0x22 r).handOver =
      t.answered 0x22 r .wrongState [] := by
  rw [h]
  rfl

theorem setLocateEntry_current {i : Nat} {x : BitVec 32} (ht : s.Takes 0x22 r t) (g : t.Grants r.link) (hi : i < 32)
    (h : r.body = [BitVec.ofNat 8 i, 0] ++ wordBytes x) :
    exec (.setLocateEntry r) s = .next (State.answered { t with position := { t.position with
      locate := t.position.locate.set i (some ⟨.user, t.position.pos, t.timeAt t.position.pos⟩) } } 0x22 r .ok []) := by
  have entry : t.entryFor r.body = some ⟨.user, t.position.pos, t.timeAt t.position.pos⟩ := by rw [h]; rfl
  rw [setLocateEntry_eq ht g h rfl hi (by decide) rfl, answered_of_entry entry]

theorem setLocateEntry_position {i : Nat} {x : Int} (ht : s.Takes 0x22 r t) (g : t.Grants r.link) (hi : i < 32)
    (h : r.body = [BitVec.ofNat 8 i, 1] ++ wordBytes (BitVec.ofInt 32 x)) (lo : -2000000000 ≤ x) (le : x ≤ 2000000000) :
    exec (.setLocateEntry r) s = .next (State.answered { t with position := { t.position with
      locate := t.position.locate.set i (some ⟨.user, x, t.timeAt x⟩) } } 0x22 r .ok []) := by
  have read : bodyI32 r.body 2 = x := bodyI32_of_position (rest := []) (by rw [h]; rfl) lo le
  have entry : t.entryFor r.body = some ⟨.user, x, t.timeAt x⟩ := by
    have source : bodyU8 r.body 1 = 1 := by rw [h]; rfl
    rw [State.entryFor, source]
    exact congrArg (fun y => some (LocateEntry.mk .user y (t.timeAt y))) read
  rw [setLocateEntry_eq ht g h rfl hi (by decide) (by rw [positionField, read]; exact posOk_of lo le), answered_of_entry entry]

/-- The entry that a timecode is stored as, if it has a position. -/
theorem entryFor_time {i : Byte} {x : BcdTime} {f : Nat} (h : b = [i, 2, x.hh, x.mm, x.ss, x.ff])
    (hf : timecodeFrames t.profile x = some f) : t.entryFor b = (t.framePos f).map (fun p => ⟨.user, p, some x⟩) := by
  subst h
  change ((timecodeFrames t.profile x).bind t.framePos).map _ = _
  rw [hf]
  rfl

theorem setLocateEntry_time {i : Nat} {x : BcdTime} {f : Nat} (ht : s.Takes 0x22 r t) (g : t.Grants r.link) (hi : i < 32)
    (h : r.body = [BitVec.ofNat 8 i, 2, x.hh, x.mm, x.ss, x.ff]) (hf : timecodeFrames t.profile x = some f) :
    exec (.setLocateEntry r) s = .next (((t.checked [check (t.entryFor r.body).isSome .wrongState]
      ((t.withEntry i (t.entryFor r.body)).ok [])).replied 0x22 r).handOver) := by
  refine setLocateEntry_eq (l := [x.hh, x.mm, x.ss, x.ff]) ht g h rfl hi (by decide) ?_
  have read : bodyTime r.body 2 = x := by rw [h]; rfl
  change (timecodeFrames t.profile (bodyTime r.body 2)).isSome = true
  rw [read, hf]
  rfl

theorem clearLocateEntry_ok {i : Nat} (ht : s.Takes 0x23 r t) (g : t.Grants r.link) (h : r.body = [BitVec.ofNat 8 i])
    (hi : i < 32 ∨ i = 255) : exec (.clearLocateEntry r) s = .next (State.answered
      { t with position := { t.position with locate := clearedEntries t.position.locate i } } 0x23 r .ok []) := by
  have index := index_of_byte h (by omega)
  have named : indexOrAll r.body 0 32 = true := by simpa [indexOrAll, index] using hi
  simp only [exec, execClearLocateEntry]
  rw [owned_request ht g (length_of_byte h), named, index]
  rfl

/-! ### SET_ANCHOR, SET_SCHEDULE (R14, R50, R51) -/

theorem setAnchor_ok {x : BcdTime} {f : Nat} (ht : s.Takes 0x24 r t) (g : t.Grants r.link)
    (h : r.body = [x.hh, x.mm, x.ss, x.ff]) (hf : timecodeFrames t.profile x = some f) :
    exec (.setAnchor r) s = .next ((t.setAnchor f).answered 0x24 r .ok []) := by
  have read : bodyTime r.body 0 = x := by rw [h]; rfl
  simp only [exec, execSetAnchor]
  rw [owned_request ht g (by rw [h]; rfl), timeField, read, hf]
  rfl

/-- The schedule that a list of names in a body stands for. -/
theorem scheduleOf_names (l : List Slot) : scheduleOf (l.map (fun x => BitVec.ofNat 8 x.ctorIdx)) = l := by
  have name : ∀ x : Slot, slotNames.getD (BitVec.ofNat 8 x.ctorIdx : Byte).toNat .idle = x := by
    intro x
    cases x <;> rfl
  rw [scheduleOf, List.map_map]
  exact (List.map_congr_left fun x _ => name x).trans (List.map_id l)

/-- A list with R50's counts is a valid schedule. -/
theorem scheduleField_names {l : List Slot} (arms : ∀ x, x = .armL ∨ x = .armR → 4 ≤ l.count x ∧ l.count x ≤ 8)
    (others : ∀ x, x = .curL ∨ x = .curR ∨ x = .curC ∨ x = .supply → 1 ≤ l.count x ∧ l.count x ≤ 5)
    (idle : l.count .idle ≤ 4) : scheduleField (l.map (fun x => BitVec.ofNat 8 x.ctorIdx)) = true := by
  have names : (l.map (fun x => (BitVec.ofNat 8 x.ctorIdx : Byte))).all (fun x => decide (x.toNat < 7)) = true := by
    rw [List.all_map, List.all_eq_true]
    intro x _
    cases x <;> decide
  rw [scheduleField, names, scheduleOf_names]
  simp [scheduleCounts, inRange, slotCount, arms .armL (.inl rfl), arms .armR (.inr rfl), others .curL (.inl rfl),
    others .curR (.inr (.inl rfl)), others .curC (.inr (.inr (.inl rfl))), others .supply (.inr (.inr (.inr rfl))), idle]

/-- A valid schedule comes to the check of the state (R51). -/
theorem setSchedule_eq {l : List Slot} (ht : s.Takes 0x25 r t) (g : t.Grants r.link)
    (h : r.body = l.map (fun x => BitVec.ofNat 8 x.ctorIdx)) (hl : l.length = 16)
    (valid : scheduleField (l.map (fun x => BitVec.ofNat 8 x.ctorIdx)) = true) :
    exec (.setSchedule r) s = .next (((t.checked [check t.motion.state.settable .wrongState]
      (State.ok { t with conv := { t.conv with pendingSchedule := some l } } [])).replied 0x25 r).handOver) := by
  simp only [exec, execSetSchedule]
  rw [owned_request ht g (by rw [h, List.length_map, hl]), h, valid, scheduleOf_names]
  rfl

/-- The anchor a Set Anchor leaves, with the table retimed through it (R14). -/
theorem setAnchor_eq (f : Nat) : t.setAnchor f = { t with position := { t.position with
    anchor := some ⟨.preset, t.position.pos, f⟩
    chain := ⟨0, 0, .forward⟩
    locate := t.position.locate.map (fun o => o.map (fun e => { e with
      time := some (framesTimecode t.profile
        (((f : Int) + (e.pos - t.position.pos) * t.profile.rate * t.profile.cRoll / (1000 * t.profile.vPlay)) %
          (86400 * t.profile.rate)).toNat) })) } } := rfl

/-! ### The obligation, a request at a time -/

theorem setLocateEntry_ok {i : Nat} {k : Byte} {x : BitVec 32} {e : LocateEntry} (ht : s.Takes 0x22 r t)
    (g : t.Grants r.link) (hi : i < 32) (h : r.body = [BitVec.ofNat 8 i, k] ++ wordBytes x) (user : e.kind = .user)
    (source : (k = 0 ∧ e.pos = t.position.pos ∧ e.time = t.timeAt e.pos) ∨
      (k = 1 ∧ x = BitVec.ofInt 32 e.pos ∧ -2000000000 ≤ e.pos ∧ e.pos ≤ 2000000000 ∧ e.time = t.timeAt e.pos) ∨
      (∃ (y : BcdTime) (f : Nat) (a : Anchor), k = 2 ∧ x = y.hh ++ y.mm ++ y.ss ++ y.ff ∧ e.time = some y ∧
        timecodeFrames t.profile y = some f ∧ t.position.anchor = some a ∧
        e.pos = max (-2000000000) (min 2000000000 (a.pos +
          (((f : Int) - a.frame + 43200 * t.profile.rate) % (86400 * t.profile.rate) - 43200 * t.profile.rate) * 1000 *
            t.profile.vPlay / (t.profile.rate * t.profile.cRoll))))) :
    exec (.setLocateEntry r) s = .next (State.answered { t with position := { t.position with
      locate := t.position.locate.set i (some e) } } 0x22 r .ok []) := by
  obtain ⟨kind, pos, time⟩ := e
  cases user
  rcases source with ⟨rfl, hp, ht'⟩ | ⟨rfl, rfl, lo, le, ht'⟩ | ⟨y, f, a, rfl, rfl, ht', hf, ha, hp⟩
  · replace hp : pos = t.position.pos := hp
    replace ht' : time = t.timeAt pos := ht'
    rw [ht', hp]
    exact setLocateEntry_current ht g hi h
  · replace ht' : time = t.timeAt pos := ht'
    rw [ht']
    exact setLocateEntry_position ht g hi h lo le
  · replace h : r.body = [BitVec.ofNat 8 i, 2, y.hh, y.mm, y.ss, y.ff] := by rw [h, wordBytes_append]; rfl
    have placed : t.framePos f = some pos := by
      rw [State.framePos, ha, Option.map_some, posOfFrame_eq]
      exact congrArg some hp.symm
    have entry : t.entryFor r.body = some ⟨.user, pos, some y⟩ := by rw [entryFor_time h hf, placed, Option.map_some]
    replace ht' : time = some y := ht'
    rw [setLocateEntry_time ht g hi h hf, answered_of_entry entry, ht']

theorem setLocateEntry_noAnchor {i : Byte} {x : BcdTime} (ht : s.Takes 0x22 r t) (g : t.Grants r.link) (hi : i.toNat < 32)
    (h : r.body = [i, 2, x.hh, x.mm, x.ss, x.ff]) (valid : (timecodeFrames t.profile x).isSome = true)
    (none : t.position.anchor = none) : exec (.setLocateEntry r) s = .next (t.answered 0x22 r .wrongState []) := by
  obtain ⟨f, hf⟩ := Option.isSome_iff_exists.1 valid
  have entry : t.entryFor r.body = Option.none := by rw [entryFor_time h hf, State.framePos, none]; rfl
  have h' : r.body = [BitVec.ofNat 8 i.toNat, 2, x.hh, x.mm, x.ss, x.ff] := by rw [h, BitVec.ofNat_toNat, BitVec.setWidth_eq]
  rw [setLocateEntry_time ht g hi h' hf, answered_of_no_entry entry]

theorem settable_iff (x : Transport) :
    x.settable = true ↔ x = .unthreaded ∨ x = .stopped ∨ x = .standby ∨ x = .fault := by cases x <;> decide

/-- Settles O56: each request is read through its body's fields, then judged and performed. -/
theorem tableRequests : Obligations.TableRequests := by
  intro s t r g
  refine ⟨fun i c lo hi k ht h i8 lo1 lo2 hi1 hi2 hc => ?_, fun i ht h len => ⟨fun i8 => ?_, fun i255 => ?_, fun i8 i255 => ?_⟩,
    fun i k w e ht hi h user source => setLocateEntry_ok ht g hi h user source,
    fun i x ht hi h valid none => setLocateEntry_noAnchor ht g hi h valid none, fun i ht h len hi => ?_, fun x f ht h hf => ?_,
    fun l ht h hl arms others idle => ?_⟩
  · have body := zoneBody_of h i8 lo1 lo2 hi1 hi2 hc
    refine ⟨fun turned => setZone_badLimit ht g body i8 lo1 lo2 turned, fun le hk => ?_⟩
    rw [setZone_ok ht g body i8 lo1 hi2 le hk, zoneOf_eq body]
  · rw [clearZone_ok ht g h (.inl i8), clearedZones, if_neg (by omega)]
  · rw [clearZone_ok ht g h (.inr i255), clearedZones, if_pos i255, len]
  · exact clearZone_bad ht g h i8 i255
  · rw [clearLocateEntry_ok ht g h hi, clearedEntries, len]
  · rw [setAnchor_ok ht g h hf, setAnchor_eq]
  · have scheduled := setSchedule_eq ht g h hl (scheduleField_names arms others idle)
    refine ⟨fun settable => ?_, fun h1 h2 h3 h4 => ?_⟩
    · rw [scheduled, (settable_iff _).2 settable]
      rfl
    · have unsettable : t.motion.state.settable = false := by
        rw [Bool.eq_false_iff, ne_eq, settable_iff]
        simp [h1, h2, h3, h4]
      rw [scheduled, unsettable]
      rfl

end Sys2Proof.Machine
end

section
/-! The profile record: a valid profile and its 110 bytes. -/

namespace Sys2Proof.Machine
variable {s t u : State} {r : Request} {p q : Profile}

/-! ### The profile record (11.10) -/

/-- A value fits a field of a size. -/
def FieldFits (n v : Nat) : Prop := (n = 1 ∧ v < 256) ∨ (n = 2 ∧ v < 65536) ∨ (n = 4 ∧ v < 4294967296)

/-- The bytes of a field stand for its value, and are as many as its size. -/
theorem encSized_reads {n v : Nat} (h : FieldFits n v) : (encSized n v).length = n ∧ bytesValue (encSized n v) = v := by
  rcases h with ⟨rfl, h⟩ | ⟨rfl, h⟩ | ⟨rfl, h⟩
  · refine ⟨rfl, ?_⟩
    simp only [encSized, enc1, bytesValue, List.foldl_cons, List.foldl_nil, BitVec.ofInt_natCast, BitVec.toNat_ofNat]
    omega
  · refine ⟨rfl, ?_⟩
    simp only [encSized, enc2, bytesValue, List.foldl_cons, List.foldl_nil, BitVec.extractLsb'_toNat, BitVec.ofInt_natCast,
      BitVec.toNat_ofNat, Nat.shiftRight_eq_div_pow]
    omega
  · refine ⟨rfl, ?_⟩
    simp only [encSized, enc4u, if_pos (Nat.le_of_lt_succ h), wordBytes, bytesValue, List.foldl_cons, List.foldl_nil,
      BitVec.extractLsb'_toNat, BitVec.toNat_ofNat, Nat.shiftRight_eq_div_pow]
    omega

/-- Fields laid one after another have the length of their sizes, and split into their values again. -/
theorem splitFields_encoded {ns vs : List Nat} (h : List.Forall₂ FieldFits ns vs) :
    (List.zipWith encSized ns vs).flatten.length = ns.sum ∧ splitFields ns (List.zipWith encSized ns vs).flatten = vs := by
  induction h with
  | nil => exact ⟨rfl, rfl⟩
  | cons fits _ ih =>
    obtain ⟨len, value⟩ := encSized_reads fits
    refine ⟨?_, ?_⟩
    · simp [len, ih.1]
    · simp [splitFields, List.take_left' len, List.drop_left' len, value, ih.2]

theorem fits_cons {n v : Nat} {c : Bool} {ns vs : List Nat} {cs : List Bool}
    (k : cs.all id = true → List.Forall₂ FieldFits ns vs) (h : c = true → FieldFits n v) : (c :: cs).all id = true → List.Forall₂ FieldFits (n :: ns) (v :: vs) := by
  intro a
  rw [List.all_cons, Bool.and_eq_true] at a
  exact .cons (h a.1) (k a.2)

/-- Each field of a valid profile fits, by its own check. -/
theorem profile_fits : profileOk p = true → List.Forall₂ FieldFits profileSizes (profileValues p) := by
  unfold profileOk profileChecks profileSizes profileValues
  simp only [List.cons_append, List.nil_append]
  iterate 50 refine fits_cons ?_ fun h => ?_
  · exact fun _ => .nil
  all_goals
    simp [inRange] at h
    unfold FieldFits
    omega

/-- The bytes of a valid profile are 110 and stand for it. -/
theorem profileOfBytes_profileBytes (h : profileOk p = true) :
    (profileBytes p).length = 110 ∧ profileOfBytes (profileBytes p) = p := by
  obtain ⟨len, fields⟩ := splitFields_encoded (profile_fits h)
  refine ⟨len, ?_⟩
  rw [profileOfBytes, profileBytes, fields]
  rfl

end Sys2Proof.Machine
end

section
/-! What follows a new working copy, and the request that brings it. -/

namespace Sys2Proof.Machine
variable {s t u : State} {r : Request} {p q : Profile}

/-! ### What follows a new working copy -/

theorem mappingChanged_iff : mappingChanged p q = true ↔ p.rate ≠ q.rate ∨ p.vPlay ≠ q.vPlay ∨ p.cRoll ≠ q.cRoll := by
  simp [mappingChanged, or_assoc]

theorem reelsChanged_iff : reelsChanged p q = true ↔
    p.rHub ≠ q.rHub ∨ p.rFlange ≠ q.rFlange ∨ p.cRoll ≠ q.cRoll ∨ p.jHub ≠ q.jHub ∨ p.kPack ≠ q.kPack := by
  simp [reelsChanged, or_assoc]

/-- The fields that the arms' detectors rest on (R59). -/
def detectorFields (p : Profile) : List Nat :=
  [p.slackAt, p.overAt, p.hysteresis, p.nSlack, p.nOver, p.nClear, p.restL, p.gainL, p.restR, p.gainR]

theorem detectorsChanged_iff : detectorsChanged p q = true ↔ detectorFields p ≠ detectorFields q := by
  simp only [detectorsChanged, detectorFields, Bool.or_eq_true, decide_eq_true_eq, ne_eq, List.cons.injEq, and_true, not_and_or,
    or_assoc]

/-- J and L_rem follow an estimate (R34, R35). -/
theorem estimate_derived (x : Reel) (est : Nat) (h : x.conf = 0 → est = q.rSizing) : (x.estimate q est).DerivedOk q :=
  ⟨rfl, rfl, h⟩

theorem Reel.reprofiled_derived {x : Reel} (h : x.DerivedOk p) : (x.reprofiled p q).DerivedOk q := by
  unfold Reel.reprofiled
  split
  · exact ⟨rfl, rfl, fun _ => rfl⟩
  · refine estimate_derived x _ fun conf => ?_
    split
    · rfl
    · rename_i same
      exact (h.sizing conf).trans (not_not.1 fun k => same ⟨conf, k⟩)

/-- A change of a field that the radius rests on starts the estimate again (R33). -/
theorem Reel.reprofiled_of_changed (x : Reel) (h : reelsChanged p q = true) :
    (x.reprofiled p q).conf = 0 ∧ (x.reprofiled p q).rEst = q.rSizing ∧ (x.reprofiled p q).window = none := by
  rw [Reel.reprofiled, if_pos h]
  exact ⟨rfl, rfl, rfl⟩

/-- With those fields as they were an estimate in use stands. -/
theorem Reel.reprofiled_of_same (x : Reel) (h : ¬ reelsChanged p q = true) :
    (x.reprofiled p q).conf = x.conf ∧ (x.reprofiled p q).window = x.window ∧
      (x.conf ≠ 0 → (x.reprofiled p q).rEst = x.rEst) := by
  rw [Reel.reprofiled, if_neg h]
  exact ⟨rfl, rfl, fun conf => if_neg fun k => conf k.1⟩

theorem writeProfile_derived (b : Bytes) (h : s.DerivedOk) : (s.writeProfile b).DerivedOk :=
  ⟨Reel.reprofiled_derived h.left, Reel.reprofiled_derived h.right, guardOf_eq .., guardOf_eq ..⟩

/-! ### WRITE_PROFILE (R192, R193) -/

theorem mayReprofile_iff : s.mayReprofile = true ↔ s.motion.state = .unthreaded ∨ s.motion.state = .standby ∨
    s.motion.state = .fault ∨ (s.motion.state = .stopped ∧ ∀ x ∈ s.motion.queue, x.kind ≠ .chase) := by
  unfold State.mayReprofile
  cases s.motion.state <;> simp

theorem mayReprofile_not (h : s.motion.state = .sizing ∨ s.motion.state = .winding ∨ s.motion.state = .engaging ∨
    s.motion.state = .playing ∨ s.motion.state = .releasing ∨ s.motion.state = .halting ∨ s.motion.state = .braking ∨
    (s.motion.state = .stopped ∧ ∃ x ∈ s.motion.queue, x.kind = .chase)) : s.mayReprofile = false := by
  unfold State.mayReprofile
  cases hs : s.motion.state <;> simp_all

/-- A Write Profile with a valid profile comes to the checks of the state and of the store. -/
theorem writeProfile_eq (ht : s.Takes 0x3C r t) (g : t.Grants r.link) (valid : profileOk q = true)
    (h : r.body = profileBytes q) : exec (.writeProfile r) s = .next (((t.checked
      [check t.mayReprofile .wrongState, check (!t.store.busy) .busy] ((t.writeProfile r.body).ok [])).replied 0x3C r).handOver) := by
  obtain ⟨len, reads⟩ := profileOfBytes_profileBytes valid
  have fields : checkFields (profileChecks (profileOfBytes r.body)) = none := by
    rw [h, reads]
    exact checkFields_of fun c mem => by simpa using List.all_eq_true.1 valid c mem
  simp only [exec, execWriteProfile]
  rw [owned_request ht g (by rw [h, len]), fields]
  rfl

/-- Settles O60: the state's and the store's checks, then what each unit makes of the new working copy. -/
theorem writeProfile : Obligations.WriteProfile := by
  intro s t r q ht g valid hb
  have written := writeProfile_eq ht g valid hb
  refine ⟨fun moving => ?_, fun still => ⟨fun busy => ?_, fun idle => ?_⟩⟩
  · rw [written, mayReprofile_not moving]
    rfl
  · rw [written, mayReprofile_iff.2 still, busy]
    rfl
  · obtain rfl : profileOfBytes r.body = q := by rw [hb, (profileOfBytes_profileBytes valid).2]
    refine ⟨t.writeProfile r.body, ?_, rfl, ?_, writeProfile_derived _, rfl, fun a b c => if_neg ?_,
      fun changed => if_pos (mappingChanged_iff.2 changed), fun changed => ?_, fun a b c d e => ?_,
      fun fields hf => ⟨fun changed => ?_, fun same => ?_⟩, fun changed => if_neg changed, fun same => if_pos same⟩
    · rw [written, mayReprofile_iff.2 still, idle]
      rfl
    · rw [← hb]
      rfl
    · simp [mappingChanged_iff, a, b, c]
    · obtain ⟨confL, estL, windowL⟩ := Reel.reprofiled_of_changed t.reelL (reelsChanged_iff.2 changed)
      obtain ⟨confR, estR, windowR⟩ := Reel.reprofiled_of_changed t.reelR (reelsChanged_iff.2 changed)
      exact ⟨confL, confR, estL, estR, windowL, windowR⟩
    · have same : ¬ reelsChanged t.profile (profileOfBytes r.body) = true := by simp [reelsChanged_iff, a, b, c, d, e]
      obtain ⟨confL, windowL, estL⟩ := Reel.reprofiled_of_same t.reelL same
      obtain ⟨confR, windowR, estR⟩ := Reel.reprofiled_of_same t.reelR same
      exact ⟨confL, confR, windowL, windowR, estL, estR⟩
    · rw [hf, hf] at changed
      have k := detectorsChanged_iff.2 changed
      exact ⟨if_pos k, if_pos k⟩
    · rw [hf, hf] at same
      have k := mt detectorsChanged_iff.1 (not_not.2 same)
      exact ⟨if_neg k, if_neg k⟩

end Sys2Proof.Machine
end

section
/-! What the reads answer. -/

namespace Sys2Proof.Machine
variable {s t u : State} {kind : Byte} {r : Request}

/-! ### A read taken and answered -/

theorem checked_of {checks : List Check} (h : ∀ c ∈ checks, c = none) (a : Answer) : s.checked checks a = a := by
  induction checks with
  | nil => rfl
  | cons c l ih =>
    rw [h c (List.mem_cons_self ..), checked_none]
    exact ih fun d mem => h d (List.mem_cons_of_mem _ mem)

/-- A read whose checks pass answers its data and changes nothing. -/
theorem read_answers {checks : State → List Check} {data : State → Bytes} (h : s.Takes kind r t)
    (pass : ∀ c ∈ checks t, c = none) :
    s.request kind r (fun x => x.checked (checks x) (x.ok (data x))) = .next (t.answered kind r .ok (data t)) := by
  rw [request_of_takes h, checked_of pass, replied_ok]

/-! ### Items of the replies (R181) -/

theorem enc1_natCast (n : Nat) : enc1 n = [BitVec.ofNat 8 n] := by rw [enc1, BitVec.ofInt_natCast]

theorem enc1_byte (x : Byte) : enc1 x.toNat = [x] := by rw [enc1_natCast, BitVec.ofNat_toNat, BitVec.setWidth_eq]

theorem enc1_dir (d : Direction) : enc1 (dirNum d) = enc1 (if d = .forward then 0 else 1) := by cases d <;> rfl

theorem enc1_sense (x : Sense) : enc1 (senseNum x) = enc1 x.ctorIdx := by cases x <;> rfl

/-- A word sent as a signed number is its bytes. -/
theorem enc4_word (x : BitVec 32) : enc4 x.toInt = wordBytes x := by
  have lo := BitVec.le_toInt x
  have hi := BitVec.toInt_lt (x := x)
  rw [enc4, if_pos (by omega), BitVec.ofInt_toInt]

theorem enc2_word (x : BitVec 16) : enc2 x.toNat = [x.extractLsb' 8 8, x.extractLsb' 0 8] := by
  simp only [enc2, BitVec.ofInt_natCast, BitVec.ofNat_toNat, BitVec.setWidth_eq]

theorem faultBytes_eq (l : List FaultKind) :
    faultBytes l = enc1 l.length ++ l.map (fun k => BitVec.ofNat 8 k.ctorIdx) := by
  simp only [faultBytes, enc1_natCast, List.map_eq_flatMap]
  rfl

/-- The bytes of a timecode that may be absent. -/
theorem encTime_eq (x : Option BcdTime) : encTime x = (match x with
    | some y => [y.hh, y.mm, y.ss, y.ff]
    | none => [0xFF, 0xFF, 0xFF, 0xFF]) := by cases x <;> rfl

/-! ### Read Status (R113, R178, R186) -/

theorem transportSection_eq : s.transportSection = enc1 s.motion.state.ctorIdx ++
    encOpt 2 (s.motion.sizing.map (fun z => enc1 z.phase.ctorIdx ++ enc1 z.variant.ctorIdx)) ++
    encOpt 2 (s.motion.locate.map (fun l => enc1 l.phase.ctorIdx ++ enc1 (if l.dir = .forward then 0 else 1))) ++
    encOpt 1 (s.motion.haltPending.map (fun d => enc1 (match d with
      | .stopped => Transport.stopped
      | .unthreaded => Transport.unthreaded).ctorIdx)) ++
    enc4 s.motion.vRef ++ enc2 s.motion.aRef ++ enc2 s.accelInForce ++ enc4 s.speed.v ++ encFlag s.motion.pinchCmd ++
    encFlag s.pins.pinchSense ++ enc4 s.capstan.speed ++ enc2 s.capstan.code ++ enc2 s.capstan.integral ++
    encOpt 2 (s.motion.active.map (fun a => [a.id] ++ enc1 a.kind.ctorIdx)) := by
  simp only [State.transportSection, enc1_dir, enc1_byte]
  rfl

theorem accelInForce_halting (h : s.motion.state = .halting) : s.accelInForce = s.profile.aStop := by
  rw [State.accelInForce, h]

theorem accelInForce_sizing (h : s.motion.state = .sizing) : s.accelInForce = s.profile.accel := by
  rw [State.accelInForce, h]

theorem accelInForce_move {a : ActiveMove} (h : s.motion.active = some a) (k : s.motion.state = .stopped ∨
    s.motion.state = .playing ∨ (s.motion.state = .winding ∧ s.zones.descent = false)) : s.accelInForce = a.accel := by
  rcases k with k | k | ⟨k, d⟩ <;> simp [State.accelInForce, State.moveAccel, *]

theorem faultSection_eq : s.faultSection = enc1 s.faults.set.length ++ s.faults.set.map (fun k => BitVec.ofNat 8 k.ctorIdx) ++
    encOpt 6 (s.faults.primary.map (fun x => enc1 x.kind.ctorIdx ++ enc4 x.pos ++ enc1 x.state.ctorIdx)) ++
    enc1 s.faults.mismL ++ enc1 s.faults.mismR ++ enc1 s.faults.mismC ++ enc1 s.faults.supply ++ encFlag s.pins.faultL ++
    encFlag s.pins.faultR ++ encFlag s.pins.faultC ++ encFlag s.pins.supplyWarning ++ encFlag s.pins.pinchSense ++
    encOpt 2 (s.faults.slip.map (fun x => enc2 ((s.now - x) / 8000 : Nat))) ++
    encOpt 2 (s.motion.brakingTimer.map (fun x => enc2 ((s.now - x) / 8000 : Nat))) ++
    encOpt 2 (s.faults.supervision.map (fun x => enc2 ((x + 8000 * s.profile.supervision - s.now) / 8000 : Nat))) := by
  rw [State.faultSection, faultBytes_eq]
  rfl

theorem linkSection_eq (l : Link) : s.linkSection l =
    enc1 s.ctl.owner.ctorIdx ++ enc1 (if s.ctl.owner = .service then 1 else 0) ++
    encFlag s.ctl.resetPending.isSome ++ encOpt 1 (s.ctl.resetPending.map (fun k => enc1 k.ctorIdx)) ++ enc1 s.ctl.rate ++
    enc1 (s.deck.rx.length + s.deck.replies.length + (if l = .deck then 1 else 0) : Nat) ++
    enc1 (s.service.rx.length + s.service.replies.length + (if l = .service then 1 else 0) : Nat) ++
    encFlag s.store.invalid ++ encFlag s.store.busy := by
  have notice : enc1 (linkNum s.noticeLink) = enc1 (if s.ctl.owner = .service then 1 else 0) := by
    unfold State.noticeLink
    cases s.ctl.owner <;> rfl
  rw [State.linkSection, notice]
  cases l <;> rfl

theorem readStatus_answers {n : Nat} (h : s.Takes 0x01 r t) (hb : r.body = [BitVec.ofNat 8 n]) (lo : 1 ≤ n) (hi : n ≤ 7) :
    exec (.readStatus r) s = .next (t.answered 0x01 r .ok (t.statusSection n r.link)) := by
  have index := index_of_byte hb (by omega)
  have named : inRange 1 7 (bodyU8 r.body 0) = true := by simp [inRange, index, lo, hi]
  simp only [exec, execReadStatus]
  rw [read_answers h, index]
  simp [sized_of (length_of_byte hb), checkFields_of, named]

/-! ### Read Position, Read Reel Model (R21, R46) -/

theorem positionReply_of_none (h : s.position.anchor = none) (lo : -2000000000 ≤ s.position.pos)
    (hi : s.position.pos ≤ 2000000000) : s.positionReply =
      wordBytes (BitVec.ofInt 32 s.position.pos) ++ [0, if s.position.atRest then 1 else 0] ++ wordBytes s.position.tachL ++
        wordBytes s.position.tachR ++ 0 :: List.replicate 8 0xFF ++ List.replicate 4 0xFF ++ 0 :: List.replicate 4 0xFF := by
  simp only [State.positionReply, State.timeAt, State.subframeAt, State.frameAt, h, enc4_of_position lo hi, enc4_word]
  rfl

theorem positionReply_of_anchor {a : Anchor} (h : s.position.anchor = some a) (lo : -2000000000 ≤ s.position.pos)
    (hi : s.position.pos ≤ 2000000000) (x : BcdTime) (sub : Int)
    (hx : x = framesTimecode s.profile (frameOfPos s.profile a.pos a.frame s.position.pos))
    (hsub : sub = subframeOfPos s.profile a.pos a.frame s.position.pos) : s.positionReply =
      wordBytes (BitVec.ofInt 32 s.position.pos) ++ [if a.kind = .preset then 1 else 2, if s.position.atRest then 1 else 0] ++
        wordBytes s.position.tachL ++ wordBytes s.position.tachR ++ 1 :: (enc4 a.pos ++ enc4u a.frame) ++
        [x.hh, x.mm, x.ss, x.ff] ++ 1 :: enc4 sub := by
  have kind : enc1 (anchorNum (some a)) = [if a.kind = .preset then 1 else 2] := by
    rcases a with ⟨_ | _, _, _⟩ <;> rfl
  simp only [State.positionReply, State.timeAt, State.subframeAt, State.frameAt, h, enc4_of_position lo hi, enc4_word, kind,
    Option.map_some, ← hx, ← hsub]
  rfl

theorem reelBytes_eq (x : Reel) (n : BitVec 32) : x.bytes n = enc4u x.rEst ++ enc1 x.conf ++ enc1 x.streak ++
    encOpt 6 (x.window.map (fun w => enc1 (if w.dir = .forward then 0 else 1) ++ enc1 w.angle ++ enc4 w.roll)) ++
    enc4u x.inertia ++ enc4u x.remaining ++ enc2 x.torque ++ enc2 x.code ++ enc1 x.sat ++ wordBytes n := by
  simp only [Reel.bytes, enc1_dir, enc4_word]

/-- A read with no body. -/
theorem sized_nil (hb : r.body = []) : ∀ c ∈ [sized r 0], c = none := by
  rw [sized_of (by rw [hb]; rfl)]
  decide

/-! ### Read Moves, Read Locate Table, Read Zones (R88, R16, R127) -/

theorem completionBytes_eq (c : Completion) : c.bytes =
    [c.id] ++ enc1 c.result.ctorIdx ++ enc1 ((if c.derated then 1 else 0) + (if c.earlierLost then 2 else 0)) ++
      enc1 c.discarded ++ enc4 c.endPos ++ (match c.endTime with
        | some x => [x.hh, x.mm, x.ss, x.ff]
        | none => [0xFF, 0xFF, 0xFF, 0xFF]) ++ enc4u c.elapsed := by
  rw [Completion.bytes, enc1_byte, encTime_eq]
  rfl

theorem readMoves_answers {n first : Nat} (h : s.Takes 0x04 r t) (hb : r.body = [BitVec.ofNat 8 n, BitVec.ofNat 8 first])
    (hn : n < 3) (hf : first < 256) :
    exec (.readMoves r) s = .next (t.answered 0x04 r .ok (listed (((t.moveItems n).drop first).take 3))) := by
  have part : bodyU8 r.body 0 = n := by rw [hb]; exact byte_of_number (by omega)
  have index : bodyU8 r.body 1 = first := by rw [hb]; exact byte_of_number hf
  have length : r.body.length = 2 := by rw [hb]; rfl
  simp only [exec, execReadMoves]
  rw [read_answers h, part, index]
  simp [sized_of length, checkFields_of, enumField, part, hn]

/-- A part of Read Moves with nothing at or behind the index is empty. -/
theorem listed_of_past {l : List Bytes} {n : Nat} (h : l.length ≤ n) : listed ((l.drop n).take 3) = [0] := by
  rw [List.drop_eq_nil_of_le h]
  rfl

theorem listed_completions (l : List Completion) (n : Nat) :
    listed (((l.map Completion.bytes).drop n).take 3) =
      enc1 ((l.drop n).take 3).length ++ ((l.drop n).take 3).flatMap Completion.bytes := by
  rw [← List.map_drop, ← List.map_take, listed, List.length_map, List.flatMap]

/-- An entry of the locate table with its index. -/
theorem entryBytes_eq (i : Nat) (x : Option LocateEntry) : entryBytes i x = enc1 i ++ (match x with
    | some e => 1 :: (enc1 e.kind.ctorIdx ++ enc4 e.pos ++ (match e.time with
      | some y => [y.hh, y.mm, y.ss, y.ff]
      | none => [0xFF, 0xFF, 0xFF, 0xFF]))
    | none => 0 :: List.replicate 9 0xFF) := by
  rcases x with _ | e
  · rfl
  · simp only [entryBytes, Option.map_some, encOpt, encTime_eq]

/-- The entries listed are the table's, each with its own index. -/
theorem locateItems_eq {first count n : Nat} (hf : first < 32) (hn : n = min 10 (min count (32 - first)))
    (len : s.position.locate.length = 32) : s.locateItems first count =
      ((s.position.locate.zipIdx.drop first).take n).map (fun x => entryBytes x.2 x.1) := by
  subst hn
  refine List.ext_getElem (by simp [State.locateItems, len]) fun k h1 h2 => ?_
  simp only [List.length_map, List.length_take, List.length_drop, List.length_zipIdx, len] at h2
  simp [State.locateItems, List.getD_eq_getElem?_getD, List.getElem?_eq_getElem (show first + k < s.position.locate.length by omega)]

theorem readLocateTable_answers {first count : Nat} (h : s.Takes 0x05 r t)
    (hb : r.body = [BitVec.ofNat 8 first, BitVec.ofNat 8 count]) (hf : first < 32) (hc : count < 256) :
    exec (.readLocateTable r) s = .next (t.answered 0x05 r .ok (listed (t.locateItems first count))) := by
  have index : bodyU8 r.body 0 = first := by rw [hb]; exact byte_of_number (by omega)
  have number : bodyU8 r.body 1 = count := by rw [hb]; exact byte_of_number hc
  have length : r.body.length = 2 := by rw [hb]; rfl
  simp only [exec, execReadLocateTable]
  rw [read_answers h, index, number]
  simp [sized_of length, checkFields_of, index, hf]

theorem zoneBytes_eq (o : Option Zone) : zoneBytes o =
    encOpt 16 (o.map (fun z => enc4 z.base ++ enc4 z.limit ++ enc1 z.kind.ctorIdx ++ enc4u z.ceiling ++ encFlag z.contains ++
      encOpt 1 (z.exit.map (fun e => enc1 e.ctorIdx)))) := by
  simp only [zoneBytes, enc1_sense]

theorem readZones_answers {n : Nat} (h : s.Takes 0x06 r t) (hb : r.body = [BitVec.ofNat 8 n]) (hn : n < 3) :
    exec (.readZones r) s = .next (t.answered 0x06 r .ok (t.zonePart n)) := by
  have index := index_of_byte hb (by omega)
  simp only [exec, execReadZones]
  rw [read_answers h, index]
  simp [sized_of (length_of_byte hb), checkFields_of, enumField, index, hn]

/-- A part of Read Zones: four entries, the other entries, or the guards and ceilings. -/
theorem zonePart_eq {n : Nat} (hn : n < 3) : s.zonePart n = if n = 2 then
      s.guardBytes .forward ++ s.guardBytes .reverse ++ encOpt 4 (s.zones.ceilF.map enc4u) ++
        encOpt 4 (s.zones.ceilR.map enc4u) ++ encFlag s.zones.descent ++ encFlag s.zones.guardReported
    else ((s.zones.entries.drop (if n = 0 then 0 else 4)).take (if n = 0 then 4 else s.zones.entries.length)).flatMap zoneBytes := by
  rcases n with _ | _ | _ | n
  · rfl
  · exact congrArg (List.flatMap zoneBytes) (List.take_of_length_le (by simp)).symm
  · rfl
  · omega

/-! ### Read Capture, Read Profile, Read Events (R165, R191, R184) -/

theorem readCapture_answers (h : s.Takes 0x07 r t) (hb : r.body.length = 3) (done : t.capture.state = .done)
    (holder : t.capture.holder = some r.link) (offset : bodyU16 r.body 0 ≤ t.capture.values.length) :
    exec (.readCapture r) s =
      .next (t.answered 0x07 r .ok (t.capture.reply (bodyU16 r.body 0) (bodyU8 r.body 2))) := by
  simp only [exec, execReadCapture]
  rw [read_answers h]
  simp [State.holds, done, holder, sized_of hb, checkFields_of, offset]

/-- The reply of Read Capture: the number of values, the items, the values. -/
theorem captureReply_eq (c : Capture) (offset count : Nat) : ∃ items, c.reply offset count =
    BitVec.ofNat 8 (min (min 48 count) (c.values.length - offset)) :: items ++
      ((c.values.drop offset).take (min 48 count)).flatMap enc2 := by
  refine ⟨enc1 c.mode.ctorIdx ++ channelBytes c.channels ++ enc1 c.decim ++ enc4u c.taken ++ enc2 c.samples.length ++
    enc2 c.postTaken ++ c.reasonByte, ?_⟩
  have length : ((c.values.drop offset).take (min 48 count)).length = min (min 48 count) (c.values.length - offset) := by
    rw [List.length_take, List.length_drop]
  rw [Capture.reply, length, enc1_natCast]
  simp only [List.append_assoc, List.cons_append, List.nil_append]

theorem readEvents_answers {n : Nat} (h : s.Takes 0x09 r t) (hb : r.body = [BitVec.ofNat 8 n]) (hn : n < 2) :
    exec (.readEvents r) s = .next (t.answered 0x09 r .ok ((t.port r.link).maskBytes ++
      (((t.port r.link).latches.drop (8 * n)).take 8).flatMap latchBytes)) := by
  have index := index_of_byte hb (by omega)
  simp only [exec, execReadEvents]
  rw [read_answers h, index]
  simp [sized_of (length_of_byte hb), checkFields_of, enumField, index, hn]

theorem latchBytes_eq (o : Option Latch) : latchBytes o = (match o with
    | some l => 1 :: (enc1 l.count ++ enc4 l.value ++ enc4 l.pos ++ [if l.notice then 1 else 0])
    | none => 0 :: List.replicate 10 0xFF) := by cases o <;> rfl

/-! ### The obligation, a read at a time -/

theorem readPosition_answers (h : s.Takes 0x02 r t) (hb : r.body = []) :
    exec (.readPosition r) s = .next (t.answered 0x02 r .ok t.positionReply) := by
  simp only [exec, execReadPosition]
  rw [read_answers h (sized_nil hb)]

theorem readReelModel_answers (h : s.Takes 0x03 r t) (hb : r.body = []) :
    exec (.readReelModel r) s = .next (t.answered 0x03 r .ok t.reelReply) := by
  simp only [exec, execReadReelModel]
  rw [read_answers h (sized_nil hb)]

theorem readProfile_answers (h : s.Takes 0x08 r t) (hb : r.body = []) : exec (.readProfile r) s = .next (t.answered 0x08 r .ok
    (encFlag t.store.invalid ++ encFlag t.store.busy ++ profileBytes t.profile)) := by
  simp only [exec, execReadProfile]
  rw [read_answers h (sized_nil hb)]

/-- Settles O20: each read answers (`…_answers`), and its data are the items that the cited rule lists (`…_eq`). -/
theorem readsAnswer : Obligations.ReadsAnswer := by
  intro s t r
  refine ⟨fun n ht hb lo hi => ⟨_, readStatus_answers ht hb lo hi, ?_, ?_, ?_⟩, fun ht hb none lo hi => ?_,
    fun a x sub ht hb ha lo hi hx hsub => ?_, fun part ht hb hp => ?_, fun n first ht hb hn hf => ⟨_, readMoves_answers ht hb hn hf, ?_, ?_⟩,
    fun first count n ht hb hf hc hn len => ?_, fun n guard ht hb hn hg => ?_, fun ht hb done holder offset => ?_,
    fun ht hb => readProfile_answers ht hb, fun n ht hb hn => ?_⟩
  · rintro rfl
    exact ⟨enc2 t.accelInForce, transportSection_eq, fun k => by rw [accelInForce_halting k], fun k => by rw [accelInForce_sizing k],
      fun a ha k => by rw [accelInForce_move ha k]⟩
  · rintro rfl
    exact faultSection_eq
  · rintro rfl
    exact linkSection_eq r.link
  · rw [readPosition_answers ht hb, positionReply_of_none none lo hi]
  · rw [readPosition_answers ht hb, positionReply_of_anchor ha lo hi x sub hx hsub]
  · rw [readReelModel_answers ht hb, hp, hp, ← reelBytes_eq, ← reelBytes_eq]
    rfl
  · rintro (⟨rfl, past⟩ | ⟨rfl, past⟩)
    · exact listed_of_past ((List.length_map ..).trans_le past)
    · refine listed_of_past ((List.length_map ..).trans_le ?_)
      rcases past with none | past
      · rw [none]
        exact Nat.zero_le _
      · cases t.motion.active <;> simp [past]
  · rintro rfl l rfl
    refine (listed_completions ..).trans (congrArg _ ?_)
    exact List.flatMap_congr fun c _ => completionBytes_eq c
  · have number : ((t.position.locate.zipIdx.drop first).take n).length = n := by
      rw [List.length_take, List.length_drop, List.length_zipIdx, len]
      omega
    rw [readLocateTable_answers ht hb hf hc, locateItems_eq hf hn len, listed, List.length_map, number, ← List.flatMap]
    exact congrArg (fun d => Host.Outcome.next (t.answered 0x05 r .ok (enc1 n ++ d)))
      (List.flatMap_congr fun x _ => entryBytes_eq x.2 x.1)
  · rw [readZones_answers ht hb hn, zonePart_eq hn, hg, hg, ← funext zoneBytes_eq]
    rfl
  · obtain ⟨items, reply⟩ := captureReply_eq t.capture (bodyU16 r.body 0) (bodyU8 r.body 2)
    exact ⟨items, by rw [readCapture_answers ht hb done holder offset, reply]; rfl⟩
  · rw [readEvents_answers ht hb hn, LinkPort.maskBytes, enc2_word]
    exact congrArg (fun d => Host.Outcome.next (t.answered 0x09 r .ok (_ ++ d))) (List.flatMap_congr fun o _ => latchBytes_eq o)

end Sys2Proof.Machine
end

section
/-! When nothing is due, and what the tape at rest finds due. -/

namespace Sys2Proof.Machine
variable {s t u : State} {l : LocateCtx}

/-! ### When nothing is due -/

/-- In FAULT nothing is due. -/
theorem react_none_of_fault (h : s.motion.state = .fault) : s.react = none := by
  have tension : s.reactTension = none := by simp [State.reactTension, h, Transport.moving, Transport.braked]
  exact react_none tension (reactSizing_none (by simp [h]))
    (reactPinch_none_of_state (by simp [h]) (by simp [h]) (by simp [h])) (reactHalting_none (by simp [h]))
    (reactBraking_none (.inl (by simp [h]))) (reactHold_none_of_state (by simp [h]) (by simp [h]))
    (reactSettled_none_of_state (by simp [h]) (by simp [h])) (reactQueue_none (.inl (by simp [h])))

/-- With both arms NORMAL and no move waiting, nothing is due in STOPPED and UNTHREADED. -/
theorem react_none_of_rest (h : s.motion.state = .stopped ∨ s.motion.state = .unthreaded) (hl : s.armL.state = .normal)
    (hr : s.armR.state = .normal) (hq : s.motion.queue = []) : s.react = none := by
  have k : ∀ x : Transport, x ≠ .stopped → x ≠ .unthreaded → s.motion.state ≠ x := by
    rintro x a b rfl
    exact h.elim a b
  exact react_none (reactTension_none hl hr) (reactSizing_none (k _ (by decide) (by decide)))
    (reactPinch_none_of_state (k _ (by decide) (by decide)) (k _ (by decide) (by decide)) (k _ (by decide) (by decide)))
    (reactHalting_none (k _ (by decide) (by decide))) (reactBraking_none (.inl (k _ (by decide) (by decide))))
    (reactHold_none_of_state (k _ (by decide) (by decide)) (k _ (by decide) (by decide)))
    (reactSettled_none_of_state (k _ (by decide) (by decide)) (k _ (by decide) (by decide))) (reactQueue_none (.inr (.inl hq)))

/-- A locate that is not in SETTLE has nothing due. -/
theorem reactSettled_none_of_phase (h : s.motion.locate = some l) (k : l.phase ≠ .settle) : s.reactSettled = none := by
  simp [State.reactSettled, h, k]

/-- A LOCATE on its way in WINDING has nothing due. -/
theorem react_none_of_winding {a : ActiveMove} (h : s.motion.state = .winding) (hl : s.armL.state = .normal)
    (hr : s.armR.state = .normal) (hp : s.motion.pinchTimer = none) (ha : s.motion.active = some a) (hk : a.kind ≠ .hold)
    (hlo : s.motion.locate = some l) (phase : l.phase ≠ .settle) : s.react = none :=
  react_none (reactTension_none hl hr) (reactSizing_none (by simp [h])) (reactPinch_none hp) (reactHalting_none (by simp [h]))
    (reactBraking_none (.inl (by simp [h]))) (reactHold_none fun b hb => by rw [ha] at hb; cases hb; exact hk)
    (reactSettled_none_of_phase hlo phase) (reactQueue_none (.inl (by simp [h])))

/-- The RETURN of SIZING on its way has nothing due. -/
theorem react_none_of_returning {z : SizingCtx} (h : s.motion.state = .sizing) (hz : s.motion.sizing = some z)
    (returning : z.phase = .returning) (hl : s.armL.state = .normal) (hr : s.armR.state = .normal)
    (hlo : s.motion.locate = some l) (phase : l.phase ≠ .settle) : s.react = none := by
  have sizing : s.reactSizing = none := by simp [State.reactSizing, h, hz, returning, hl, hr]
  exact react_none (reactTension_none hl hr) sizing
    (reactPinch_none_of_state (by simp [h]) (by simp [h]) (by simp [h])) (reactHalting_none (by simp [h]))
    (reactBraking_none (.inl (by simp [h]))) (reactHold_none_of_state (by simp [h]) (by simp [h]))
    (reactSettled_none_of_phase hlo phase) (reactQueue_none (.inl (by simp [h])))

/-! ### Entries outside PLAYING -/

/-- An entry that neither leaves nor reaches PLAYING leaves the latched faults and the links alone. -/
theorem enter_keeps {x : Transport} (h : s.motion.state ≠ .playing) (k : x ≠ .playing) :
    (s.enter x).faults.set = s.faults.set ∧ ∀ c, (s.enter x).port c = s.port c := by
  simp only [State.enter, h, k, false_and, if_false]
  split
  · exact ⟨rfl, fun c => by cases c <;> rfl⟩
  · exact ⟨rfl, fun c => by cases c <;> rfl⟩

theorem enter_position (x : Transport) : (s.enter x).position = s.position :=
  field_of_backdrop (enter_backdrop x) (·.position) fun _ => rfl

theorem enter_armL (x : Transport) : (s.enter x).armL = s.armL := field_of_backdrop (enter_backdrop x) (·.armL) fun _ => rfl

theorem enter_armR (x : Transport) : (s.enter x).armR = s.armR := field_of_backdrop (enter_backdrop x) (·.armR) fun _ => rfl

/-- BRAKING at rest ends in FAULT (R175). -/
theorem settle_of_braking (h : s.motion.state = .braking) (rest : s.position.atRest = true) :
    s.settle = (s.enter .fault).syncLoop := by
  have due : s.react = some (s.enter .fault) := by
    have tension : s.reactTension = none := by simp [State.reactTension, h, Transport.moving, Transport.braked]
    simp [State.react, tension, reactSizing_none, reactPinch_none_of_state, reactHalting_none, State.reactBraking, h, rest]
  exact settle_of_some due (react_none_of_fault (by rw [enter_motion]))

/-- A halt that is over ends where R104 leads it. -/
theorem settle_of_halting {x : HaltCtx} (h : s.motion.state = .halting) (hx : s.motion.halt = some x) (done : x.pinchDone = true)
    (still : s.motion.vRef = 0) (rest : s.position.atRest = true) (hp : s.motion.pinchTimer = none) (hq : s.motion.queue = [])
    (hl : s.armL.state = .normal) (hr : s.armR.state = .normal) : s.settle = (s.endHalting x).syncLoop := by
  have due : s.react = some (s.endHalting x) := by
    simp [State.react, reactTension_none hl hr, reactSizing_none, reactPinch_none hp, State.reactHalting, h, hx, done, still, rest]
  refine settle_of_some due ?_
  have ended : ∀ y : Transport, y = .stopped ∨ y = .unthreaded → (s.enter y).react = none := fun y hy =>
    react_none_of_rest (by rw [enter_motion]; exact hy) (by rw [enter_armL, hl]) (by rw [enter_armR, hr]) (by rw [enter_motion]; exact hq)
  unfold State.endHalting
  split
  · exact react_none_of_fault (by rw [enter_motion])
  · split
    · exact ended _ (.inl rfl)
    · exact ended _ (.inr rfl)

/-! ### The tape comes to rest -/

/-- The state at the moment the tape becomes at rest (R3). -/
def State.rested (s : State) : State := { s with
  now := max s.now (s.position.restStart + Config.msec 100), position := { s.position with atRest := true } }

theorem restTimerExpiry_eq (h : s.position.atRest = false) :
    exec .restTimerExpiry s = .next s.rested.restSettled.settle.handOver := by
  refine (if_neg ?_).trans rfl
  rw [h]
  decide

theorem restSettled_of_no_locate (h : s.motion.locate = none) : s.restSettled = s := by
  unfold State.restSettled
  rw [h]

theorem restSettled_of_settle (h : s.motion.locate = some l) (phase : l.phase = .settle)
    (runs : s.motion.state = .winding ∨ s.motion.state = .sizing) : s.restSettled = s.settleEnd l := by
  unfold State.restSettled
  rw [h]
  refine if_pos ⟨phase, ?_⟩
  rcases runs with e | e <;> simp [State.locateRuns, e]

/-- Short of the target: farther from it than the tolerance, in the locate's direction. -/
def LocateCtx.Short (l : LocateCtx) (p : Profile) (pos : Int) : Prop :=
  (l.dir = .forward ∧ pos + p.tolerance < l.target) ∨ (l.dir = .reverse ∧ l.target + p.tolerance < pos)

/-- Past the target by more than the tolerance. -/
def LocateCtx.Past (l : LocateCtx) (p : Profile) (pos : Int) : Prop :=
  (l.dir = .forward ∧ l.target + p.tolerance < pos) ∨ (l.dir = .reverse ∧ pos + p.tolerance < l.target)

theorem settleEnd_of_short (h : l.Short s.profile s.position.pos) : s.settleEnd l = s.withLocate { l with phase := .creep } := by
  unfold State.settleEnd LocateCtx.passed LocateCtx.remaining
  rcases h with ⟨e, h⟩ | ⟨e, h⟩ <;> simp only [e] <;>
    rw [if_neg (by omega), if_neg (by rw [decide_eq_true_eq]; omega)]

theorem settleEnd_of_past (h : l.Past s.profile s.position.pos) : s.settleEnd l = s.passTarget l := by
  unfold State.settleEnd LocateCtx.passed LocateCtx.remaining
  rcases h with ⟨e, h⟩ | ⟨e, h⟩ <;> simp only [e] <;>
    rw [if_neg (by omega), if_pos (by rw [decide_eq_true_eq]; omega)]

theorem settleEnd_of_near (h : (s.position.pos - l.target).natAbs ≤ s.profile.tolerance) (hz : s.motion.sizing = none)
    (hk : s.chase.seek = none) : s.settleEnd l = s.finishMove .done := by
  unfold State.settleEnd
  rw [if_pos h, hz, hk]

theorem settleEnd_of_near_sizing {z : SizingCtx} (h : (s.position.pos - l.target).natAbs ≤ s.profile.tolerance)
    (hz : s.motion.sizing = some z) : s.settleEnd l = (s.enter .stopped).sizingDone 0 := by
  unfold State.settleEnd
  rw [if_pos h, hz]

end Sys2Proof.Machine
end

section
/-! A halt that begins and ends at rest. -/

namespace Sys2Proof.Machine
variable {s t u : State} {l : LocateCtx}

/-! ### A halt begun at rest -/

/-- The entry into HALTING with no record left (R96, R104). -/
theorem enterHalting_eq (b : Bool) (d : HaltDest) (h : s.motion.queue = []) : s.enterHalting b d =
    { s.enter .halting with motion := { (s.enter .halting).motion with
      queue := [], halt := some ⟨b, d, !b⟩, pinchCmd := b, haltPending := none, accel := s.profile.aStop } } := by
  have queue : (s.enter .halting).motion.queue = [] := by rw [enter_motion]; exact h
  have profile : (s.enter .halting).profile = s.profile := field_of_backdrop (enter_backdrop _) (·.profile) fun _ => rfl
  rw [← profile]
  unfold State.enterHalting State.discardQueue
  rw [queue]
  rfl

theorem enterHalting_keeps (b : Bool) (d : HaltDest) (h : s.motion.queue = []) (k : s.motion.state ≠ .playing) :
    (s.enterHalting b d).faults.set = s.faults.set ∧ ∀ c, (s.enterHalting b d).port c = s.port c := by
  have entered := enter_keeps (x := .halting) k (by decide)
  rw [enterHalting_eq b d h]
  exact ⟨entered.1, fun c => (entered.2 c).symm ▸ by cases c <;> rfl⟩

theorem enterHalting_position (b : Bool) (d : HaltDest) : (s.enterHalting b d).position = s.position :=
  field_of_backdrop (enterHalting_backdrop b d) (·.position) fun _ => rfl

/-- What stands when the transport has come to STOPPED by way of a halt that was over at once. -/
structure State.StoppedFrom (t s : State) : Prop where
  state       : t.motion.state = .stopped
  queue       : t.motion.queue = []
  active      : t.motion.active = s.motion.active
  locate      : t.motion.locate = none
  sizing      : t.motion.sizing = none
  vRef        : t.motion.vRef = 0
  completions : t.motion.completions = s.motion.completions
  ports       : ∀ c, t.port c = s.port c

/-- A halt in HALTING that is over leads to STOPPED with no fault latched (R104). -/
theorem settle_of_stopping {b : Bool} (h : s.motion.state = .halting) (hx : s.motion.halt = some ⟨b, .stopped, true⟩)
    (still : s.motion.vRef = 0) (rest : s.position.atRest = true) (hp : s.motion.pinchTimer = none) (hq : s.motion.queue = [])
    (calm : s.Calm) : s.settle.StoppedFrom s := by
  obtain ⟨hl, hr, hf⟩ := calm
  have ended : s.settle = (s.enter .stopped).syncLoop := by
    rw [settle_of_halting h hx rfl still rest hp hq hl hr, State.endHalting, hf]
    rfl
  have kept := enter_keeps (s := s) (x := .stopped) (by simp [h]) (by decide)
  rw [ended]
  exact {
    state := by rw [syncLoop_motion, enter_motion]
    queue := by rw [syncLoop_motion, enter_motion]; exact hq
    active := by rw [syncLoop_motion, enter_motion]
    locate := by rw [syncLoop_motion, enter_motion]; rfl
    sizing := by rw [syncLoop_motion, enter_motion]; rfl
    vRef := by rw [syncLoop_motion, enter_motion]; exact still
    completions := by rw [syncLoop_motion, enter_motion]
    ports := fun c => (syncLoop_port c).trans (kept.2 c) }

/-- What the end of a step finds when a halt begins at rest with nothing left to do. -/
theorem settle_of_enterHalting {t : State} (hq : s.motion.queue = []) (still : s.motion.vRef = 0)
    (rest : s.position.atRest = true) (calm : s.Calm) (motion : t.motion = (s.enterHalting false .stopped).motion)
    (faults : t.faults.set = s.faults.set) (back : t.backdrop = s.backdrop) : t.settle.StoppedFrom t := by
  obtain ⟨hl, hr, hf⟩ := calm
  rw [enterHalting_eq false .stopped hq, enter_motion] at motion
  refine settle_of_stopping (b := false) (by rw [motion]) (by rw [motion]; rfl) (by rw [motion]; exact still)
    (by rw [field_of_backdrop back (·.position) fun _ => rfl]; exact rest) (by rw [motion]; rfl) (by rw [motion]) ⟨?_, ?_, faults.trans hf⟩
  · rw [field_of_backdrop back (·.armL) fun _ => rfl, hl]
  · rw [field_of_backdrop back (·.armR) fun _ => rfl, hr]

end Sys2Proof.Machine
end

section
/-! The rest timer: BRAKING, HALTING, the SETTLE phase of a LOCATE and of RETURN. -/

namespace Sys2Proof.Machine
variable {s t u : State} {l : LocateCtx} {a : ActiveMove} {r : MoveRecord} {z : SizingCtx}

/-! ### The moves that end at rest (R80, R96) -/

/-- The last move of the queue leaves, a CHASE apart. -/
theorem endActive_of_single (res : MoveResult) (ha : s.motion.active = some a) (hk : a.kind ≠ .chase) (hq : s.motion.queue = [r])
    (room : s.motion.completions.length < 16) : s.endActive res = { s.freeComp r.comp with
      motion := { s.motion with
        queue := [], active := none, locate := none, completions := s.motion.completions ++ [s.recordFor r a res 0] }
      zones := { s.zones with descent := false } } := by
  have count : (if res.discards then ([] : List MoveRecord).length else 0) = 0 := ite_self 0
  unfold State.endActive State.pushCompletion
  rw [ha, hq]
  simp only [hk, if_false, count]
  cases r.comp <;> cases res <;> simp only [State.freeComp, room, if_true] <;> rfl

/-- With no record left in WINDING the transport halts. -/
theorem queueEmptied_of_winding (h : s.motion.state = .winding) : s.queueEmptied = s.enterHalting false .stopped := by
  unfold State.queueEmptied
  rw [h]

theorem activate_of_empty (h : s.motion.queue = []) : s.activate = s.queueEmptied := by
  unfold State.activate
  rw [h]
  unfold State.activateNext
  rw [h]

/-- The last move ends at rest in WINDING: its record stands, and the transport comes to STOPPED in the same step. -/
theorem stopped_of_last_move (res : MoveResult) (h : s.motion.state = .winding) (ha : s.motion.active = some a)
    (hk : a.kind ≠ .chase) (hq : s.motion.queue = [r]) (room : s.motion.completions.length < 16) (still : s.motion.vRef = 0)
    (rest : s.position.atRest = true) (calm : s.Calm) :
    ∃ t : State, (s.endActive res).queueEmptied.settle = t ∧ t.motion.state = .stopped ∧ t.motion.queue = [] ∧
      t.motion.active = none ∧ t.motion.locate = none ∧ t.motion.vRef = 0 ∧
      t.motion.completions = s.motion.completions ++ [s.recordFor r a res 0] := by
  have ended := endActive_of_single res ha hk hq room
  have motion := congrArg State.motion ended
  have queue : (s.endActive res).motion.queue = [] := by rw [motion]
  have state : (s.endActive res).motion.state = .winding := by rw [motion]; exact h
  have back : (s.endActive res).backdrop = s.backdrop := endActive_backdrop res
  have faults : (s.endActive res).faults = s.faults := by rw [ended]; cases r.comp <;> rfl
  have calm' : (s.endActive res).Calm := by
    obtain ⟨hl, hr, hf⟩ := calm
    exact ⟨(field_of_backdrop back (·.armL) fun _ => rfl) ▸ hl, (field_of_backdrop back (·.armR) fun _ => rfl) ▸ hr, faults ▸ hf⟩
  have stopped := settle_of_enterHalting queue (by rw [motion]; exact still)
    ((field_of_backdrop back (·.position) fun _ => rfl) ▸ rest) calm' rfl
    (enterHalting_keeps false .stopped queue (by simp [state])).1 (enterHalting_backdrop ..)
  have halted := congrArg State.motion (enterHalting_eq false .stopped queue)
  rw [enter_motion, motion] at halted
  rw [queueEmptied_of_winding state]
  exact ⟨_, rfl, stopped.state, stopped.queue, stopped.active.trans (by rw [halted]), stopped.locate, stopped.vRef,
    stopped.completions.trans (by rw [halted])⟩

/-! ### BRAKING and HALTING at rest (R104, R175) -/

theorem restTimerExpiry_braking (moving : s.position.atRest = false) (hlo : s.motion.locate = none)
    (h : s.motion.state = .braking) : ∃ t : State, exec .restTimerExpiry s = .next t.handOver ∧ t.motion.state = .fault ∧
      t.motion.brakingTimer = none ∧ t.motion.brakeRelease = false ∧ t.faults.set = s.faults.set := by
  have kept := enter_keeps (s := s.rested) (x := .fault) (h.trans_ne (by decide)) (by decide)
  refine ⟨(s.rested.enter .fault).syncLoop, ?_, ?_, ?_, ?_, ?_⟩
  · rw [restTimerExpiry_eq moving, restSettled_of_no_locate (s := s.rested) hlo, settle_of_braking (s := s.rested) h rfl]
  · rw [syncLoop_motion, enter_motion]
  · rw [syncLoop_motion, enter_motion]
    rfl
  · rw [syncLoop_motion, enter_motion]
    rfl
  · exact (congrArg Faults.set syncLoop_faults).trans kept.1

/-- Where a halt that is over leads (R104). -/
theorem endHalting_ends {x : HaltCtx} (h : s.motion.state = .halting) : (s.endHalting x).motion.halt = none ∧
    (s.endHalting x).faults.set = s.faults.set ∧
      (s.endHalting x).motion.state = (if s.faults.set ≠ [] then .fault else
        match x.dest with
        | .stopped => .stopped
        | .unthreaded => .unthreaded) := by
  have entered : ∀ y : Transport, y ≠ .playing → (s.enter y).motion.halt = none ∧ (s.enter y).faults.set = s.faults.set ∧
      (s.enter y).motion.state = y := fun y k =>
    ⟨by rw [enter_motion], (enter_keeps (h.trans_ne (by decide)) k).1, by rw [enter_motion]⟩
  unfold State.endHalting
  split
  · exact entered .fault (by decide)
  · cases x.dest
    · exact entered .stopped (by decide)
    · exact entered .unthreaded (by decide)

/-! ### The SETTLE phase of a LOCATE (R99) -/

/-- A LOCATE in SETTLE, alone in the queue, before the tape comes to rest. -/
structure State.LocateSettles (s : State) (l : LocateCtx) (a : ActiveMove) (r : MoveRecord) : Prop where
  moving : s.position.atRest = false
  state  : s.motion.state = .winding
  locate : s.motion.locate = some l
  phase  : l.phase = .settle
  active : s.motion.active = some a
  kind   : a.kind = .locate
  queue  : s.motion.queue = [r]
  sizing : s.motion.sizing = none
  seek   : s.chase.seek = none
  calm   : s.Calm
  pinch  : s.motion.pinchTimer = none
  vRef   : s.motion.vRef = 0

theorem State.LocateSettles.exec (h : s.LocateSettles l a r) :
    Machine.exec .restTimerExpiry s = .next (s.rested.settleEnd l).settle.handOver := by
  rw [restTimerExpiry_eq h.moving, restSettled_of_settle (s := s.rested) h.locate h.phase (.inl h.state)]

/-- The move ends with a result that leaves the queue empty. -/
theorem State.LocateSettles.ends (h : s.LocateSettles l a r) (res : MoveResult) (room : s.motion.completions.length < 16)
    (e : s.rested.settleEnd l = (s.rested.endActive res).queueEmptied) :
    ∃ t : State, Machine.exec .restTimerExpiry s = .next t.handOver ∧ t.motion.state = .stopped ∧ t.motion.queue = [] ∧
      t.motion.active = none ∧ t.motion.locate = none ∧ t.motion.vRef = 0 ∧
      t.motion.completions = s.motion.completions ++ [s.rested.recordFor r a res 0] := by
  obtain ⟨t, settled, state, queue, active, locate, vRef, completions⟩ := stopped_of_last_move (s := s.rested) res h.state h.active
    (h.kind.trans_ne (by decide)) h.queue room h.vRef rfl h.calm
  exact ⟨t, by rw [h.exec, e, settled], state, queue, active, locate, vRef, completions⟩

theorem State.LocateSettles.near (h : s.LocateSettles l a r) (room : s.motion.completions.length < 16)
    (near : (s.position.pos - l.target).natAbs ≤ s.profile.tolerance) :
    s.rested.settleEnd l = (s.rested.endActive .done).queueEmptied := by
  rw [settleEnd_of_near (s := s.rested) near h.sizing h.seek, State.finishMove]
  refine activate_of_empty ?_
  rw [endActive_of_single (s := s.rested) .done h.active (h.kind.trans_ne (by decide)) h.queue room]

/-- The move goes on in CREEP. -/
theorem State.LocateSettles.creeps (h : s.LocateSettles l a r) {d : Direction} {b : ActiveMove} (kind : b.kind = .locate)
    (e : (s.rested.settleEnd l).motion = { s.motion with locate := some ⟨.creep, d, l.target⟩, active := some b })
    (back : (s.rested.settleEnd l).backdrop = s.rested.backdrop) :
    ∃ t : State, Machine.exec .restTimerExpiry s = .next t.handOver ∧ t.motion.state = .winding ∧
      t.motion.locate = some ⟨.creep, d, l.target⟩ ∧ t.motion.queue = [r] ∧ t.motion.active = some b := by
  obtain ⟨hl, hr, -⟩ := h.calm
  have quiet : (s.rested.settleEnd l).react = none := react_none_of_winding (by rw [e]; exact h.state)
    ((congrArg Arm.state (field_of_backdrop back (·.armL) fun _ => rfl)).trans hl)
    ((congrArg Arm.state (field_of_backdrop back (·.armR) fun _ => rfl)).trans hr)
    (by rw [e]; exact h.pinch) (by rw [e]) (kind.trans_ne (by decide)) (by rw [e]) LocatePhase.noConfusion
  refine ⟨(s.rested.settleEnd l).syncLoop, by rw [h.exec, settle_of_none quiet], ?_, ?_, ?_, ?_⟩ <;> rw [syncLoop_motion, e]
  · exact h.state
  · exact h.queue

theorem State.LocateSettles.short (h : s.LocateSettles l a r) (short : l.Short s.profile s.position.pos) :
    ∃ t : State, Machine.exec .restTimerExpiry s = .next t.handOver ∧ t.motion.state = .winding ∧
      t.motion.locate = some { l with phase := .creep } ∧ t.motion.queue = [r] ∧ t.motion.active = some a := by
  have e := settleEnd_of_short (s := s.rested) short
  refine h.creeps (d := l.dir) h.kind ?_ (settleEnd_backdrop _)
  rw [e, State.withLocate_motion, ← h.active]
  rfl

/-- A pass of the target by a LOCATE: counted while there are fewer than three, else the move ends OVERSHOOT (R99). -/
theorem State.LocateSettles.passed (h : s.LocateSettles l a r) (past : l.Past s.profile s.position.pos) (few : a.reversals < 3) :
    ∃ t : State, Machine.exec .restTimerExpiry s = .next t.handOver ∧ t.motion.state = .winding ∧
      t.motion.locate = some ⟨.creep, dirFlip l.dir, l.target⟩ ∧ t.motion.queue = [r] ∧
      t.motion.active = some { a with reversals := a.reversals + 1 } := by
  have count : s.rested.reversals = a.reversals := by
    unfold State.reversals
    rw [show s.rested.motion.sizing = none from h.sizing, show s.rested.motion.active = some a from h.active]
  have counted : s.rested.countPass = s.rested.onActive (fun x => { x with reversals := x.reversals + 1 }) := by
    unfold State.countPass
    rw [show s.rested.motion.sizing = none from h.sizing]
  have e : s.rested.settleEnd l = s.rested.countPass.withLocate ⟨.creep, dirFlip l.dir, l.target⟩ := by
    rw [settleEnd_of_past (s := s.rested) past, State.passTarget, if_pos (by rw [count]; exact few)]
  refine h.creeps (b := { a with reversals := a.reversals + 1 }) h.kind ?_ (settleEnd_backdrop _)
  rw [e, State.withLocate_motion, counted, State.onActive, show s.rested.motion.active = some a from h.active]
  rfl

theorem State.LocateSettles.overshot (h : s.LocateSettles l a r) (past : l.Past s.profile s.position.pos) (many : a.reversals = 3) :
    s.rested.settleEnd l = (s.rested.endActive .overshoot).queueEmptied := by
  have count : s.rested.reversals = a.reversals := by
    unfold State.reversals
    rw [show s.rested.motion.sizing = none from h.sizing, show s.rested.motion.active = some a from h.active]
  rw [settleEnd_of_past (s := s.rested) past, State.passTarget, if_neg (by rw [count]; omega)]
  unfold State.overshoot
  rw [show s.rested.motion.sizing = none from h.sizing]
  rfl

/-! ### The RETURN of SIZING (R107) -/

/-- The RETURN of SIZING in SETTLE, before the tape comes to rest. -/
structure State.ReturnSettles (s : State) (l : LocateCtx) (z : SizingCtx) : Prop where
  moving : s.position.atRest = false
  state  : s.motion.state = .sizing
  sizing : s.motion.sizing = some z
  part   : z.phase = .returning
  locate : s.motion.locate = some l
  phase  : l.phase = .settle
  queue  : s.motion.queue = []
  active : s.motion.active = none
  vRef   : s.motion.vRef = 0
  calm   : s.Calm

theorem State.ReturnSettles.exec (h : s.ReturnSettles l z) :
    Machine.exec .restTimerExpiry s = .next (s.rested.settleEnd l).settle.handOver := by
  rw [restTimerExpiry_eq h.moving, restSettled_of_settle (s := s.rested) h.locate h.phase (.inr h.state)]

/-- RETURN goes on in CREEP. -/
theorem State.ReturnSettles.creeps (h : s.ReturnSettles l z) {d : Direction} {n : Nat} {m : Motion}
    (hm : m = { s.motion with sizing := some { z with reversals := n }, locate := some ⟨.creep, d, l.target⟩ })
    (e : (s.rested.settleEnd l).motion = m) : ∃ t : State, Machine.exec .restTimerExpiry s = .next t.handOver ∧ t.motion = m := by
  obtain ⟨hl, hr, -⟩ := h.calm
  have back : (s.rested.settleEnd l).backdrop = s.rested.backdrop := settleEnd_backdrop _
  rw [hm] at e
  have quiet : (s.rested.settleEnd l).react = none := react_none_of_returning
    (z := { z with reversals := n }) (by rw [e]; exact h.state) (by rw [e]) h.part
    ((congrArg Arm.state (field_of_backdrop back (·.armL) fun _ => rfl)).trans hl)
    ((congrArg Arm.state (field_of_backdrop back (·.armR) fun _ => rfl)).trans hr) (by rw [e]) LocatePhase.noConfusion
  exact ⟨(s.rested.settleEnd l).syncLoop, by rw [h.exec, settle_of_none quiet], by rw [syncLoop_motion, e, hm]⟩

theorem State.ReturnSettles.short (h : s.ReturnSettles l z) (short : l.Short s.profile s.position.pos) :
    ∃ t : State, Machine.exec .restTimerExpiry s = .next t.handOver ∧
      t.motion = { s.motion with locate := some { l with phase := .creep } } := by
  refine h.creeps (d := l.dir) (n := z.reversals) ?_ (congrArg State.motion (settleEnd_of_short (s := s.rested) short))
  rw [← h.sizing]

theorem State.ReturnSettles.reversals (h : s.ReturnSettles l z) : s.rested.reversals = z.reversals := by
  unfold State.reversals
  rw [show s.rested.motion.sizing = some z from h.sizing]

theorem State.ReturnSettles.passed (h : s.ReturnSettles l z) (past : l.Past s.profile s.position.pos) (few : z.reversals < 3) :
    ∃ t : State, Machine.exec .restTimerExpiry s = .next t.handOver ∧ t.motion = { s.motion with
      sizing := some { z with reversals := z.reversals + 1 }
      locate := some ⟨.creep, dirFlip l.dir, l.target⟩ } := by
  refine h.creeps (d := dirFlip l.dir) (n := z.reversals + 1) rfl ?_
  rw [settleEnd_of_past (s := s.rested) past, State.passTarget, if_pos (by rw [h.reversals]; exact few), State.withLocate_motion]
  unfold State.countPass
  rw [show s.rested.motion.sizing = some z from h.sizing]
  rfl

/-- What the end of RETURN comes to. -/
def State.SizedFrom (t s : State) : Prop :=
  t.motion.state = .stopped ∧ t.motion.sizing = none ∧ t.motion.locate = none ∧ t.motion.vRef = 0 ∧ t.Reported s .sizingDone 0

/-- SIZING_DONE in the notice link's table, where the links stand as they stood. -/
theorem sizingDone_reported {v : Int} (back : t.backdrop = s.backdrop) (ports : ∀ c, t.port c = s.port c) :
    (t.sizingDone v).Reported s .sizingDone v := by
  have ctl : t.ctl = s.ctl := field_of_backdrop back (·.ctl) fun _ => rfl
  have position : t.position = s.position := field_of_backdrop back (·.position) fun _ => rfl
  have notice : s.noticeLink = t.noticeLink := by rw [State.noticeLink, State.noticeLink, ctl]
  have kept : (t.sizingDone v).port t.noticeLink = (t.port t.noticeLink).offer .sizingDone v t.position.pos :=
    State.withPort_port ..
  rw [State.Reported, notice, kept, ports, position]

/-- RETURN ends within the tolerance by the entry into STOPPED. -/
theorem State.ReturnSettles.sized (h : s.ReturnSettles l z) (near : (s.position.pos - l.target).natAbs ≤ s.profile.tolerance) :
    ∃ t : State, Machine.exec .restTimerExpiry s = .next t.handOver ∧ t.SizedFrom s := by
  obtain ⟨hl, hr, -⟩ := h.calm
  have e : s.rested.settleEnd l = (s.rested.enter .stopped).sizingDone 0 := settleEnd_of_near_sizing near h.sizing
  have back : (s.rested.settleEnd l).backdrop = s.rested.backdrop := settleEnd_backdrop _
  have motion : (s.rested.settleEnd l).motion = (s.rested.enter .stopped).motion := by rw [e]; exact report_motion ..
  rw [enter_motion] at motion
  have quiet : (s.rested.settleEnd l).react = none := react_none_of_rest (by rw [motion]; exact .inl rfl)
    ((congrArg Arm.state (field_of_backdrop back (·.armL) fun _ => rfl)).trans hl)
    ((congrArg Arm.state (field_of_backdrop back (·.armR) fun _ => rfl)).trans hr) (by rw [motion]; exact h.queue)
  have entered := enter_keeps (s := s.rested) (x := .stopped) (h.state.trans_ne (by decide)) (by decide)
  have reported : (s.rested.settleEnd l).Reported s .sizingDone 0 := by
    rw [e]
    exact sizingDone_reported (s := s.rested) (enter_backdrop _) entered.2
  refine ⟨(s.rested.settleEnd l).syncLoop, by rw [h.exec, settle_of_none quiet], ?_, ?_, ?_, ?_, (syncLoop_port _).trans reported⟩ <;>
    rw [syncLoop_motion, motion]
  · rfl
  · rfl
  · exact h.vRef

/-- The fourth pass ends RETURN by a halt that is over at once. -/
theorem State.ReturnSettles.overshot (h : s.ReturnSettles l z) (past : l.Past s.profile s.position.pos) (many : z.reversals = 3) :
    ∃ t : State, Machine.exec .restTimerExpiry s = .next t.handOver ∧ t.SizedFrom s := by
  have e : s.rested.settleEnd l = (s.rested.enterHalting false .stopped).sizingDone 0 := by
    rw [settleEnd_of_past (s := s.rested) past, State.passTarget, if_neg (by rw [h.reversals]; omega)]
    unfold State.overshoot
    rw [show s.rested.motion.sizing = some z from h.sizing]
  have kept := enterHalting_keeps (s := s.rested) false .stopped h.queue (h.state.trans_ne (by decide))
  have stopped : (s.rested.settleEnd l).settle.StoppedFrom (s.rested.settleEnd l) := settle_of_enterHalting (s := s.rested)
    h.queue h.vRef rfl h.calm (by rw [e]; exact report_motion ..) (by rw [e]; exact (congrArg Faults.set (State.reportTo_faults ..)).trans kept.1)
    (settleEnd_backdrop _)
  have reported : (s.rested.settleEnd l).Reported s .sizingDone 0 := by
    rw [e]
    exact sizingDone_reported (s := s.rested) (enterHalting_backdrop ..) kept.2
  exact ⟨_, h.exec, stopped.state, stopped.sizing, stopped.locate, stopped.vRef, (stopped.ports _).trans reported⟩

/-- The other direction as the statement writes it. -/
theorem dirFlip_eq (d : Direction) : dirFlip d = if d = .forward then .reverse else .forward := by cases d <;> rfl

/-- Settles O32: the end of each phase at rest, a LOCATE's SETTLE by `LocateSettles` and RETURN's by `ReturnSettles`. -/
theorem restTimerExpiry : Obligations.RestTimerExpiry := by
  refine ⟨fun s u hu => ⟨fun rest => if_pos rest, fun moving => ⟨fun hlo settled => ?_,
    fun hlo braking => restTimerExpiry_braking moving hlo braking, fun x hlo state halt done still hp hq ha hl hr => ?_⟩⟩, ?_, ?_⟩
  · subst hu
    rw [restTimerExpiry_eq moving, restSettled_of_no_locate (s := s.rested) hlo]
    exact congrArg (fun y => Host.Outcome.next y.handOver) (settle_of_settled settled)
  · obtain ⟨noHalt, set, ends⟩ := endHalting_ends (s := s.rested) (x := x) state
    refine ⟨(s.rested.endHalting x).syncLoop, ?_, by rw [syncLoop_motion, noHalt], by rw [syncLoop_faults, set]; rfl,
      by rw [syncLoop_motion]; exact ends⟩
    rw [restTimerExpiry_eq moving, restSettled_of_no_locate (s := s.rested) hlo,
      settle_of_halting (s := s.rested) state halt done still rfl hp hq hl hr]
  · intro s l a r moving state locate phase active kind queue sizing seek hl hr faults pinch vRef
    have h : s.LocateSettles l a r :=
      ⟨moving, state, locate, phase, active, kind, queue, sizing, seek, ⟨hl, hr, faults⟩, pinch, vRef⟩
    refine ⟨fun near room => ?_, h.short, fun past => ⟨fun few => ?_, fun many room => ?_⟩⟩
    · obtain ⟨t, e, state, queue, active, locate, -, completions⟩ := h.ends .done room (h.near room near)
      exact ⟨t, e, state, queue, active, locate, completions⟩
    · rw [← dirFlip_eq]
      exact h.passed past few
    · obtain ⟨t, e, state, queue, active, locate, vRef, completions⟩ := h.ends .overshoot room (h.overshot past many)
      exact ⟨t, e, state, vRef, queue, active, locate, completions⟩
  · intro s l z moving state sizing part locate phase queue active vRef calm
    have h : s.ReturnSettles l z := ⟨moving, state, sizing, part, locate, phase, queue, active, vRef, calm⟩
    refine ⟨fun near => ?_, h.short, fun past => ⟨fun few => ?_, fun many => h.overshot past many⟩⟩
    · obtain ⟨t, e, state, sizing, locate, -, reported⟩ := h.sized near
      exact ⟨t, e, state, sizing, locate, reported⟩
    · rw [← dirFlip_eq]
      exact h.passed past few

end Sys2Proof.Machine
end

section
/-! What every step keeps of the Reel Model: the working copy, the estimates and the guard ceilings, and the operations that may
change them. -/

namespace Sys2Proof.Machine
variable {s t : State} {P : State → Prop} {w : List Group} {kind : Byte} {r : Request}

/-! ### States with one Reel Model -/

/-- The working copy, the estimates with what is derived from them, and the guard ceilings are the same. -/
def State.SameModel (s t : State) : Prop := Group.profile.Same s t ∧ Group.estimates.Same s t

theorem State.SameBut.model (h : State.SameBut w s t) (profile : .profile ∉ w := by decide)
    (estimates : .estimates ∉ w := by decide) : s.SameModel t := ⟨h.same _ profile, h.same _ estimates⟩

theorem sameModel_of_backdrop (h : t.backdrop = s.backdrop) : s.SameModel t := (sameBut_of_backdrop h).model

/-- What the transmitters take touches no reel. -/
theorem feed_sameModel (l : Link) : s.SameModel (s.feed l) := by
  obtain ⟨p, -, h | ⟨c, rest, -, -, h⟩⟩ := feed_cases s l <;> rw [h] <;> cases l <;>
    exact ⟨Group.same_refl .profile s, Group.same_refl .estimates s⟩

/-- A property of the Reel Model alone, which the operations that write the working copy or the estimates keep: the resets, the
load, a new start of the estimates (R32), a count of a reel (R24), and a Write Profile with a valid profile. -/
structure ReelModelInvariant (P : State → Prop) : Prop where
  congr    : ∀ {s t : State}, s.SameModel t → P s → P t
  reset    : ∀ {s : State} (k : ResetKind) (ph : StartPhase), P s → P (s.afterReset k ph)
  loaded   : ∀ {s : State}, P s → P s.loadProfile
  restart  : ∀ {s : State}, P s → P s.restartReels
  counted  : ∀ {s : State} (r : Side) (d : Direction), P s →
    P (s.withReel r ((s.reel r).counted s.profile d s.now).1).reformGuards
  rewrites : ∀ {s : State} (b : Bytes), profileOk (profileOfBytes b) = true → P s → P (s.writeProfile b)

namespace ReelModelInvariant

theorem backdrop (h : ReelModelInvariant P) (k : t.backdrop = s.backdrop) (p : P s) : P t := h.congr (sameModel_of_backdrop k) p

theorem settle (h : ReelModelInvariant P) (p : P s) : P s.settle := h.backdrop settle_backdrop p

theorem handOver (h : ReelModelInvariant P) (p : P s) : P s.handOver := h.congr (feed_sameModel _) (h.congr (feed_sameModel _) p)

/-! ### Resets and the load -/

theorem linkReset (h : ReelModelInvariant P) (k : ResetKind) (p : P s) : P (s.linkReset k) :=
  h.settle (h.backdrop readInputs_backdrop (h.congr handNotices_sameBut.model (h.reset k _ p)))

theorem idleTransmitter (h : ReelModelInvariant P) (l : Link) (p : P s) : P (s.idleTransmitter l) :=
  h.congr (transmitter_sameBut l (s.port l).notice none).model p

theorem deferredReset (h : ReelModelInvariant P) (p : P s) (e : exec .deferredReset s = .next t) : P t := by
  change execDeferredReset s = .next t at e
  unfold execDeferredReset at e
  split at e
  · split at e <;> cases e
    · exact h.linkReset _ p
    · exact p
  · cases e
    exact p

theorem transmitDone (h : ReelModelInvariant P) (l : Link) (p : P s) (e : exec (.transmitDone l) s = .next t) : P t := by
  have idle := h.idleTransmitter l p
  have chosen : P ((s.idleTransmitter l).chooseNext l) := by
    have fed : (s.idleTransmitter l).feed l = (s.idleTransmitter l).chooseNext l := by cases l <;> rfl
    exact fed ▸ h.congr (feed_sameModel l) idle
  change execTransmitDone l s = .next t at e
  unfold execTransmitDone at e
  dsimp only at e
  split at e
  · split at e <;> cases e
    · exact h.linkReset _ idle
    · exact chosen
  · cases e
    exact chosen

theorem profileLoadDone (h : ReelModelInvariant P) (p : P s) (e : exec .profileLoadDone s = .next t) : P t := by
  change execProfileLoadDone s = .next t at e
  unfold execProfileLoadDone at e
  split at e <;> cases e
  · exact h.congr handNotices_sameBut.model (h.congr (startup_sameBut _).model (h.loaded p))
  all_goals exact p

/-! ### Counts and samples -/

theorem latchIf (h : ReelModelInvariant P) (b : Bool) (k : FaultKind) (p : P s) : P (s.latchIf b k) :=
  h.backdrop (latchIf_backdrop b k) p

theorem reelCount (h : ReelModelInvariant P) (r : Side) (d : Direction) (p : P s) (e : exec (.reelCount r d) s = .next t) : P t := by
  have tached := h.congr (tach_sameBut r d).model p
  change execReelCount r d s = .next t at e
  unfold execReelCount at e
  dsimp only at e
  split at e
  · split at e <;> cases e
    · exact tached
    · have counted := h.counted r d tached
      refine h.handOver (h.settle ?_)
      split
      · exact h.backdrop (latchFault_backdrop _) counted
      · exact counted
  · cases e
    exact p

theorem watchArm (h : ReelModelInvariant P) (d : Side) (raw : Nat) (p : P s) : P (s.watchArm d raw) := by
  have moved : P (s.armMoved d) := by
    have reported : P (State.report { s with watch := none } .armMoved (sideNum d)) :=
      h.backdrop (s := s) ((report_backdrop ..).trans rfl) p
    unfold State.armMoved
    dsimp only
    split
    · exact h.restart (h.backdrop (enter_backdrop _) reported)
    · exact reported
  unfold State.watchArm
  split
  · exact p
  · dsimp only
    split
    · exact moved
    · exact h.backdrop (s := s) rfl p

theorem handSample (h : ReelModelInvariant P) (x : Slot) (raw : Nat) (p : P s) : P (s.handSample x raw) := by
  have arm (d : Side) : P (s.armSample d raw) := h.watchArm d raw (h.congr (judgeArm_sameBut d _).model p)
  have counted (c : Converter) (f : Faults) :
      P { s with conv := c, faults := f } := h.congr ⟨Group.same_refl .profile s, Group.same_refl .estimates s⟩ p
  cases x
  case armL => exact arm .left
  case armR => exact arm .right
  case curL | curR | curC => exact h.latchIf _ _ (counted _ _)
  case supply =>
    unfold State.handSample State.supplySample
    dsimp only
    split
    · exact h.latchIf _ _ (counted _ _)
    · exact p
  case idle => exact p

theorem conversionComplete (h : ReelModelInvariant P) (raw : BitVec 12) (p : P s)
    (e : exec (.conversionComplete raw) s = .next t) : P t := by
  change execConversionComplete raw s = .next t at e
  unfold execConversionComplete at e
  dsimp only at e
  split at e <;> cases e
  · exact p
  · exact h.handOver (h.settle (h.handSample _ _ (h.congr ((reach_sameBut _).trans (conv_sameBut _)).model p)))

/-! ### Requests -/

/-- A request keeps what its answer keeps. -/
theorem request (h : ReelModelInvariant P) {answer : State → Answer} (ha : ∀ u : State, P u → P (answer u).state) (p : P s)
    (e : s.request kind r answer = .next t) : P t := by
  have taken := h.congr (takeFrame_sameBut kind r).model p
  unfold State.request at e
  dsimp only at e
  split at e
  · cases e
  · split at e <;> cases e
    · exact h.handOver (h.congr (replies_sameBut ..).model (ha _ taken))
    · exact taken

/-- What a checked request leaves keeps it when the request it grants does, all its checks having passed. -/
theorem checked {checks : List Check} {act : Answer} (p : P s) (ha : (∀ c ∈ checks, c = none) → P act.state) :
    P (s.checked checks act).state := by
  unfold State.checked
  split
  · exact p
  · rename_i e
    exact ha fun c hc => List.findSome?_eq_none_iff.1 e c hc

theorem sizeReels (h : ReelModelInvariant P) (p : P s) (e : exec (.sizeReels r) s = .next t) : P t := by
  unfold Machine.exec execSizeReels at e
  refine h.request (fun u q => ?_) p e
  exact checked q fun _ => h.settle (h.backdrop (enterSizing_backdrop .size) (h.restart q))

theorem clearFault (h : ReelModelInvariant P) (p : P s) (e : exec (.clearFault r) s = .next t) : P t := by
  unfold Machine.exec execClearFault at e
  refine h.request (fun u q => checked q fun _ => ?_) p e
  have cleared : P u.clearKinds := by
    refine h.backdrop (s := if .tapeBreak ∈ u.faults.set ∨ .radiusLost ∈ u.faults.set then u.restartReels else u) rfl ?_
    split
    · exact h.restart q
    · exact q
  unfold State.clearFault
  split
  · exact h.settle (h.backdrop (s := u.clearKinds) ((enter_backdrop _).trans rfl) cleared)
  · exact cleared

theorem writeProfile (h : ReelModelInvariant P) (p : P s) (e : exec (.writeProfile r) s = .next t) : P t := by
  unfold Machine.exec execWriteProfile at e
  refine h.request (fun u q => checked q fun passed => ?_) p e
  refine h.rewrites r.body ?_ q
  have fields := fields_of_checkFields (passed (checkFields (profileChecks (profileOfBytes r.body))) (by simp))
  exact List.all_eq_true.2 fields

/-! ### Every command -/

/-- A command that the table `writable` does not let write the working copy or the estimates keeps it. -/
theorem untouched (h : ReelModelInvariant P) {c : Instr} (hw : writable c = some w) (p : P s) (e : exec c s = .next t)
    (profile : .profile ∉ w := by decide) (estimates : .estimates ∉ w := by decide) : P t := by
  obtain ⟨u, rfl | rfl, same⟩ := exec_writes hw t e
  · exact h.congr (same.model profile estimates) p
  · exact h.handOver (h.congr (same.model profile estimates) p)

theorem exec (h : ReelModelInvariant P) (c : Instr) (p : P s) (e : Machine.exec c s = .next t) : P t := by
  cases c with
  | powerOn => cases e; exact h.reset _ _ p
  | resetLine => cases e; exact h.reset _ _ p
  | deferredReset => exact h.deferredReset p e
  | transmitDone l => exact h.transmitDone l p e
  | profileLoadDone => exact h.profileLoadDone p e
  | reelCount r d => exact h.reelCount r d p e
  | conversionComplete raw => exact h.conversionComplete raw p e
  | sizeReels r => exact h.sizeReels p e
  | clearFault r => exact h.clearFault p e
  | writeProfile r => exact h.writeProfile p e
  | _ => exact h.untouched rfl p e

theorem step (h : ReelModelInvariant P) (p : P s) (e : Machine.step s = .next t) : P t := by
  unfold Machine.step at e
  split at e
  · rename_i c rest _
    exact h.exec (s := s.withPending rest) c (h.congr ⟨Group.same_refl .profile s, Group.same_refl .estimates s⟩ p) e
  · cases e
    exact h.congr ⟨Group.same_refl .profile s, Group.same_refl .estimates s⟩ p

end ReelModelInvariant

end Sys2Proof.Machine
end

section
/-! The invariants of the Reel Model: the estimates lie within hub and flange, and J, L_rem and the guards follow them. -/

namespace Sys2Proof.Machine
variable {s t : State} {p q : Profile}

/-! ### A valid working copy with the estimates within hub and flange (R29, R192) -/

/-- An estimate lies within the hub and the flange of a profile. -/
def RadiusWithin (p : Profile) (est : Nat) : Prop := p.rHub ≤ est ∧ est ≤ p.rFlange

/-- The sizing radius of a valid profile lies within its hub and flange (R33). -/
theorem rSizing_within (h : profileOk p = true) : RadiusWithin p p.rSizing := by
  have field : ∀ b ∈ profileChecks p, b = true := by simpa [profileOk] using h
  have sizing := field (inRange 25000 200000 p.rSizing && inRange p.rHub p.rFlange p.rSizing) (by simp [profileChecks])
  simp only [inRange, Bool.and_eq_true, decide_eq_true_eq] at sizing
  exact sizing.2

/-- A measurement clamped to hub and flange keeps the estimate within them (R29). -/
theorem measured_within (ordered : p.rHub ≤ p.rFlange) {x : Reel} (h : RadiusWithin p x.rEst) (m : Nat) :
    RadiusWithin p (x.measured p m).1.rEst := by
  unfold RadiusWithin at h ⊢
  unfold Reel.measured
  split
  · rw [clampNat_eq _ _ _ ordered]
    dsimp only [Reel.estimate]
    split <;> omega
  · split <;> exact h

theorem counted_within (ordered : p.rHub ≤ p.rFlange) {x : Reel} (h : RadiusWithin p x.rEst) (d : Direction) (n : Nat) :
    RadiusWithin p (x.counted p d n).1.rEst := by
  unfold Reel.counted
  split
  · exact h
  · split
    · split
      · exact measured_within ordered (x := { x with window := none }) h _
      · exact h
    · exact h

/-- Under a new working copy an estimate is kept only where hub and flange are as they were (R33). -/
theorem reprofiled_within (valid : profileOk q = true) {x : Reel} (h : RadiusWithin p x.rEst) : RadiusWithin q (x.reprofiled p q).rEst := by
  unfold Reel.reprofiled
  split
  · exact rSizing_within valid
  · rename_i same
    rw [reelsChanged_iff] at same
    dsimp only [Reel.estimate]
    split
    · exact rSizing_within valid
    · unfold RadiusWithin at h ⊢
      omega

theorem defaultProfile_ok : profileOk Config.defaultProfile = true := reset_profile.valid

theorem load_ok (x : Store) : profileOk x.load.1 = true := by
  unfold Store.load
  dsimp only
  split
  · rename_i good
    exact good.2
  · exact defaultProfile_ok

theorem profileOk_invariant : ReelModelInvariant State.ProfileOk where
  congr := by
    rintro s t ⟨profile, ⟨estL, -⟩, ⟨estR, -⟩, -⟩ h
    change t.profile = s.profile at profile
    exact ⟨profile ▸ h.valid, by rw [profile, estL]; exact h.left, by rw [profile, estR]; exact h.right⟩
  reset {s} k ph h := by
    have valid : profileOk (s.afterReset k ph).profile = true := by
      cases k
      case powerOn | resetLine => exact defaultProfile_ok
      case deckRequest | serviceRequest => exact h.valid
    exact ⟨valid, rSizing_within valid, rSizing_within valid⟩
  loaded _ := ⟨load_ok _, rSizing_within (load_ok _), rSizing_within (load_ok _)⟩
  restart h := ⟨h.valid, rSizing_within h.valid, rSizing_within h.valid⟩
  counted r d h := by
    have ordered := h.left.1.trans h.left.2
    cases r
    · exact ⟨h.valid, counted_within ordered h.left .., h.right⟩
    · exact ⟨h.valid, h.left, counted_within ordered h.right ..⟩
  rewrites _ valid h := ⟨valid, reprofiled_within valid h.left, reprofiled_within valid h.right⟩

/-- Settles O10: the resets, the load, a count and a Write Profile each leave estimates within the hub and flange in force. -/
theorem stepKeepsProfile : Obligations.StepKeepsProfile := fun _ _ h e => profileOk_invariant.step h e

/-! ### J, L_rem and the guards follow the estimates (R34, R35, R124) -/

theorem fresh_derived (p : Profile) : (Reel.fresh p).DerivedOk p := ⟨rfl, rfl, fun _ => rfl⟩

theorem restart_derived (x : Reel) (p : Profile) : (x.restart p).DerivedOk p := ⟨rfl, rfl, fun _ => rfl⟩

/-- What is derived depends on the estimate and the confidence alone. -/
theorem Reel.SameModel.derived {x y : Reel} (h : y.SameModel x) (k : x.DerivedOk p) : y.DerivedOk p := by
  obtain ⟨est, conf, -, inertia, remaining⟩ := h
  exact ⟨by rw [inertia, est]; exact k.inertia, by rw [remaining, est]; exact k.remaining, by rw [conf, est]; exact k.sizing⟩

theorem measured_derived {x : Reel} (h : x.DerivedOk p) (m : Nat) : (x.measured p m).1.DerivedOk p := by
  unfold Reel.measured
  split
  · have rises : min 8 (x.conf + 1) ≠ 0 := by omega
    exact ⟨rfl, rfl, fun conf => absurd conf rises⟩
  · split <;> exact ⟨h.inertia, h.remaining, h.sizing⟩

theorem counted_derived {x : Reel} (h : x.DerivedOk p) (d : Direction) (n : Nat) : (x.counted p d n).1.DerivedOk p := by
  unfold Reel.counted
  split
  · exact ⟨h.inertia, h.remaining, h.sizing⟩
  · split
    · split
      · exact measured_derived (x := { x with window := none }) ⟨h.inertia, h.remaining, h.sizing⟩ _
      · exact ⟨h.inertia, h.remaining, h.sizing⟩
    · exact ⟨h.inertia, h.remaining, h.sizing⟩

/-- Guards formed again stand as the reels give them (R115). -/
theorem reformGuards_derived (left : s.reelL.DerivedOk s.profile) (right : s.reelR.DerivedOk s.profile) :
    s.reformGuards.DerivedOk := ⟨left, right, guardOf_eq .., guardOf_eq ..⟩

theorem derivedOk_invariant : ReelModelInvariant State.DerivedOk where
  congr := by
    rintro s t ⟨profile, left, right, guardF, guardR⟩ h
    change t.profile = s.profile at profile
    obtain ⟨-, confL, -, -, remainingL⟩ := id left
    obtain ⟨-, confR, -, -, remainingR⟩ := id right
    exact ⟨profile ▸ left.derived h.left, profile ▸ right.derived h.right,
      by rw [guardF, profile, h.guardF, guardSpec_congr confL remainingL],
      by rw [guardR, profile, h.guardR, guardSpec_congr confR remainingR]⟩
  reset _ _ _ := ⟨fresh_derived _, fresh_derived _, rfl, rfl⟩
  loaded _ := reformGuards_derived (restart_derived ..) (restart_derived ..)
  restart _ := reformGuards_derived (restart_derived ..) (restart_derived ..)
  counted r d h := by
    cases r
    · exact reformGuards_derived (counted_derived h.left ..) h.right
    · exact reformGuards_derived h.left (counted_derived h.right ..)
  rewrites b _ h := writeProfile_derived b h

/-- Settles O12: every operation that changes an estimate recomputes J and L_rem with it and forms the guards again. -/
theorem stepKeepsDerived : Obligations.StepKeepsDerived := fun _ _ h e => derivedOk_invariant.step h e

end Sys2Proof.Machine
end

section
/-! The profile load, and a radius window that stays open too long. -/

namespace Sys2Proof.Machine
variable {s t u : State} {d : Direction}

/-! ### PROFILE_LOAD_DONE (R22, R189 to R191) -/

/-- The stored record is usable: its check agrees and every field is valid (R191). -/
def Store.Good (x : Store) : Prop := x.check = some (crc16 x.bytes) ∧ profileOk (profileOfBytes x.bytes) = true

theorem load_of_good {x : Store} (h : x.Good) : x.load = (profileOfBytes x.bytes, false) := if_pos h

theorem load_of_bad {x : Store} (h : ¬ x.Good) : x.load = (Config.defaultProfile, true) := if_neg h

/-- The Start-up Notice while the Capture Unit is IDLE (11.4). -/
theorem startUpNotice_of_idle {n : Nat} (h : s.capture = Capture.idle n) : s.startUpNotice =
    ⟨0x40, 0, [BitVec.ofNat 8 s.startup.kind.ctorIdx, BitVec.ofNat 8 s.startup.prior.ctorIdx,
      if s.store.invalid then 0 else 1, 0, 0xFF, 0]⟩ := by
  rw [State.startUpNotice, h, enc1_natCast, enc1_natCast]
  cases s.store.invalid <;> rfl

/-- The state that the load leaves before the notices are handed over. -/
def State.afterLoad (s : State) : State := { s.loadProfile with startup := { s.startup with phase := .running } }

theorem profileLoadDone_eq (h : s.startup.phase = .load) : exec .profileLoadDone s = .next s.afterLoad.handNotices := by
  simp only [exec, execProfileLoadDone, h]
  rfl

/-- What the load makes of the working copy, the invalid flag and the notice (R191). -/
theorem afterLoad_cases (h : s.capture = Capture.idle s.capture.lastEvent) (good : Bool) (hg : good = true ↔ s.store.Good) :
    s.afterLoad.profile = (if good then profileOfBytes s.store.bytes else Config.defaultProfile) ∧
      s.afterLoad.store = { s.store with invalid := !good } ∧ s.afterLoad.startUpNotice =
        ⟨0x40, 0, [BitVec.ofNat 8 s.startup.kind.ctorIdx, BitVec.ofNat 8 s.startup.prior.ctorIdx, if good then 1 else 0,
          0, 0xFF, 0]⟩ := by
  have profile : s.afterLoad.profile = s.store.load.1 := rfl
  have store : s.afterLoad.store = { s.store with invalid := s.store.load.2 } := rfl
  have notice := startUpNotice_of_idle (s := s.afterLoad) h
  rw [profile, notice, store]
  by_cases k : s.store.Good
  · obtain rfl : good = true := hg.2 k
    rw [load_of_good k]
    exact ⟨rfl, rfl, rfl⟩
  · obtain rfl : good = false := Bool.eq_false_iff.2 (mt hg.1 k)
    rw [load_of_bad k]
    exact ⟨rfl, rfl, rfl⟩

/-- Settles O23: the load's two outcomes are `afterLoad_cases`, and the rest is what the load writes. -/
theorem profileLoadDone : Obligations.ProfileLoadDone := by
  refine fun s => ⟨fun other => ?_, fun load idle => ⟨s.afterLoad.handNotices, profileLoadDone_eq load, rfl, ?_, rfl, rfl, rfl, rfl,
    rfl, rfl, rfl, rfl⟩⟩
  · change execProfileLoadDone s = .next s
    unfold execProfileLoadDone
    split
    · contradiction
    all_goals rfl
  · intro good f hg hf
    obtain ⟨profile, store, notice⟩ := afterLoad_cases idle good (by rw [hg, decide_eq_true_eq]; rfl)
    have deck : s.afterLoad.handNotices.deck = s.deck.handNotice f := by rw [hf, ← notice]; rfl
    have service : s.afterLoad.handNotices.service = s.service.handNotice f := by rw [hf, ← notice]; rfl
    exact ⟨profile, store, deck, service⟩

/-! ### WINDOW_TIMEOUT (R26) -/

theorem withReel_reel (r : Side) (x : Reel) : (s.withReel r x).reel r = x := by cases r <;> rfl

/-- Settles O31: the window is gone, so the next count finds none and opens one. -/
theorem windowTimeout : Obligations.WindowTimeout := by
  intro s t r o open_ ht
  have gone : (t.reel r).window = none := by rw [ht]; cases r <;> rfl
  refine ⟨?_, fun d u counted driven derived hu settled => ?_⟩
  · simp only [exec, execWindowTimeout, open_, ht]
    cases r <;> rfl
  · refine reelCount_window counted driven derived (counted_of_opens _ _ _ (.inl gone)) ?_ settled
    rw [hu]
    cases r <;> rfl

end Sys2Proof.Machine
end

section
/-! The reel servo: the measured speed and the commanded acceleration, the torques, and derating. -/

namespace Sys2Proof.Machine
variable {s t : State} {d : Side} {α : Type}

/-! ### The speed meter and the commanded acceleration (R36, R37) -/

/-- The state with the measured speed and the commanded acceleration formed anew. -/
def State.metered (s : State) : State :=
  let m : State := { s.reach (s.speed.lastUpdate + Config.updateTime) with speed :=
    { s.speed.update s.profile with lastUpdate := max s.now (s.speed.lastUpdate + Config.updateTime) } }
  { m with speed := { m.speed with aCmd := m.commandedAccel } }

theorem reelServoUpdate_braked (h : s.motion.state.braked = true) : exec .reelServoUpdate s = .next s.metered.judgeSlip :=
  if_pos h

theorem reelServoUpdate_driven (h : s.motion.state.braked = false) :
    exec .reelServoUpdate s = .next s.metered.driveReels.judgeSlip.handOver := if_neg (by exact ne_true_of_eq_false h)

theorem commandedAccel_of_braked (h : s.motion.state.braked = true) : s.commandedAccel = 0 := by
  unfold State.commandedAccel
  cases k : s.motion.state <;> simp [k, Transport.braked] at h ⊢

/-- What R37 gives in the driven states: the correction by the measured speed only where the reels follow the reference. -/
theorem commandedAccel_of_driven (h : s.motion.state.braked = false) : s.commandedAccel =
    max (-8000) (min 8000 (s.motion.aRef + (if s.motion.state = .winding ∨ s.motion.state = .sizing ∨
        s.motion.state = .halting ∨ s.motion.state = .stopped then
      Int.tdiv ((s.motion.vRef - s.speed.v) * s.profile.kV) 1000 else 0))) := by
  unfold State.commandedAccel
  cases k : s.motion.state <;> simp [k, Transport.braked, clampInt_eq] at h ⊢

theorem metered_speed (h : s.motion.state.braked = false) (v : Int)
    (hv : v = Int.tdiv ((s.speed.hist.drop 1 ++ [s.speed.cur]).sum * s.profile.cRoll) 8) :
    s.metered.speed = ⟨s.speed.hist.drop 1 ++ [s.speed.cur], 0, v, max (-8000) (min 8000 (s.motion.aRef +
      (if s.motion.state = .winding ∨ s.motion.state = .sizing ∨ s.motion.state = .halting ∨ s.motion.state = .stopped then
        Int.tdiv ((s.motion.vRef - v) * s.profile.kV) 1000 else 0))), s.metered.now⟩ := by
  subst hv
  rw [State.metered]
  dsimp only
  rw [commandedAccel_of_driven (by exact h)]
  rfl

theorem slipAfter_of_braked (h : s.motion.state.braked = true) : s.slipAfter = s.faults.slip :=
  if_neg fun k => by rw [k] at h; cases h

/-! ### Derating (R43 to R45) -/

/-- The active move after a derate request. -/
def ActiveMove.derate (m : ActiveMove) : ActiveMove :=
  { m with accel := if 100 < m.accel then max 100 (m.accel / 2 / 4 * 4) else m.accel, derated := true }

/-- A derate request touches the active move, the accel in force and the notice link's table alone. -/
theorem derate_field (f : State → α) (move : ∀ (x : State) a n, f { x with motion := { x.motion with active := a, accel := n } } = f x)
    (port : ∀ (x : State) l p, f (x.withPort l p) = f x) : f s.derate = f s := by
  unfold State.derate
  split
  · rfl
  · split
    · exact (port _ _ _).trans (move s _ _)
    · exact move s _ s.motion.accel

theorem derate_active : s.derate.motion.active = s.motion.active.map ActiveMove.derate := by
  unfold State.derate
  split
  · rename_i none
    simp [none]
  · rename_i a some
    split
    · rename_i most
      rw [report_motion]
      simp [State.syncAccel, State.onActive, some, ActiveMove.derate, deratedAccel, most]
    · rename_i least
      simp [State.onActive, some, ActiveMove.derate, least]

theorem report_reported (src : Source) (v : Int) : (s.report src v).Reported s src v := State.withPort_port ..

theorem derate_reported {m : ActiveMove} (h : s.motion.active = some m) (most : 100 < m.accel) :
    s.derate.Reported s .derate (max 100 (m.accel / 2 / 4 * 4) : Nat) := by
  have derated : s.derate = (s.onActive (fun x => { x with accel := deratedAccel m.accel, derated := true })).syncAccel.report .derate
      (deratedAccel m.accel) := by
    unfold State.derate
    rw [h]
    exact if_pos most
  rw [derated]
  exact report_reported ..

/-! ### The torques (R38 to R41) -/

/-- A reel driven by its unclamped torque: the torque, its code, and the saturation counter (R41, R43). -/
theorem driven_eq (r : Reel) (tm : Nat) (raw tau : Int) (h : tau = max (-(tm : Int)) (min (tm : Int) raw)) :
    r.driven tm raw = ({ r with
      torque := tau
      code := Int.tdiv (tau * 2047) tm
      sat := if tau = raw then 0 else if 40 ≤ r.sat + 1 then 0 else r.sat + 1 }, decide (tau ≠ raw ∧ 39 ≤ r.sat)) := by
  have clamped : clampInt (-(tm : Int)) tm raw = tau := by rw [clampInt_eq _ _ _ (by omega), h]
  unfold Reel.driven
  dsimp only
  rw [clamped]
  by_cases k : tau = raw
  · simp [k, torqueCode]
  · have asks : 40 ≤ r.sat + 1 ↔ 39 ≤ r.sat := by omega
    simp [k, torqueCode, asks]

/-- The reel of the other side. -/
def otherSide : Side → Side
  | .left => .right
  | .right => .left

/-- A reel driven by the state's torque for it, and whether it makes a derate request. -/
def State.drivenReel (s : State) (d : Side) : Reel × Bool := (s.reel d).driven (tauMax s.profile d) (s.rawTorque d)

/-- Both reels driven, before their derate requests are answered. -/
def State.bothDriven (s : State) : State := { s with reelL := (s.drivenReel .left).1, reelR := (s.drivenReel .right).1 }

/-- What neither the reels' drives nor a derate request touches. -/
theorem driveReels_field (f : State → α) (reels : ∀ (x : State) a b, f { x with reelL := a, reelR := b } = f x)
    (move : ∀ (x : State) a n, f { x with motion := { x.motion with active := a, accel := n } } = f x)
    (port : ∀ (x : State) l p, f (x.withPort l p) = f x) : f s.driveReels = f s := by
  have asked (b : Bool) (x : State) : f (if b then x.derate else x) = f x := by
    cases b
    · rfl
    · exact derate_field f move port
  exact (asked _ _).trans ((asked _ _).trans (reels ..))

theorem driveReels_reel (d : Side) : s.driveReels.reel d = (s.drivenReel d).1 := by
  have asked (b : Bool) (x : State) : (if b then x.derate else x).reel d = x.reel d := by
    cases b
    · rfl
    · exact derate_field (·.reel d) (fun _ _ _ => by cases d <;> rfl) fun _ l _ => by cases d <;> cases l <;> rfl
  exact (asked _ _).trans ((asked _ _).trans (by cases d <;> rfl))

/-- With no request of the other reel, a reel's own request decides. -/
theorem driveReels_of_other (d : Side) (h : (s.drivenReel (otherSide d)).2 = false) :
    s.driveReels = if (s.drivenReel d).2 then s.bothDriven.derate else s.bothDriven := by
  cases d
  · exact if_neg (ne_true_of_eq_false h)
  · have left : (if (s.drivenReel .left).2 then s.bothDriven.derate else s.bothDriven) = s.bothDriven :=
      if_neg (ne_true_of_eq_false h)
    change (if (s.drivenReel .right).2 then (if (s.drivenReel .left).2 then s.bothDriven.derate else s.bothDriven).derate
      else if (s.drivenReel .left).2 then s.bothDriven.derate else s.bothDriven) = _
    rw [left]

/-- A reel whose saturation counter stands below 39 makes no request (R43). -/
theorem no_request (h : (s.reel d).sat < 39) : (s.drivenReel d).2 = false := by
  rw [State.drivenReel, driven_eq _ _ _ _ rfl, decide_eq_false_iff_not]
  omega

/-- The setpoint of R38's F_set in a driven state (5.1). -/
theorem tensionSetpoint_of_driven (h : s.motion.state.braked = false) : s.tensionSetpoint = (match s.motion.state with
      | .sizing => match s.motion.sizing with
        | some z => if z.phase = .threadCheck then 120 else s.profile.windTension
        | none => 120
      | .halting => s.profile.stopTension
      | _ => match s.motion.active with
        | some m => m.tension
        | none => s.profile.stopTension) := by
  unfold State.tensionSetpoint
  cases k : s.motion.state <;> first | rfl | simp [k, Transport.braked] at h

/-! ### The obligations of the servo -/

theorem driveReels_now : s.driveReels.now = s.now :=
  driveReels_field (·.now) (fun _ _ _ => rfl) (fun _ _ _ => rfl) fun _ l _ => by cases l <;> rfl

theorem driveReels_speed : s.driveReels.speed = s.speed :=
  driveReels_field (·.speed) (fun _ _ _ => rfl) (fun _ _ _ => rfl) fun _ l _ => by cases l <;> rfl

theorem driveReels_slipAfter : s.driveReels.slipAfter = s.slipAfter :=
  driveReels_field State.slipAfter (fun _ _ _ => rfl) (fun _ _ _ => rfl) fun _ l _ => by cases l <;> rfl

theorem driveReels_vRef : s.driveReels.motion.vRef = s.motion.vRef :=
  driveReels_field (·.motion.vRef) (fun _ _ _ => rfl) (fun _ _ _ => rfl) fun _ l _ => by cases l <;> rfl

theorem driveReels_state : s.driveReels.motion.state = s.motion.state :=
  driveReels_field (·.motion.state) (fun _ _ _ => rfl) (fun _ _ _ => rfl) fun _ l _ => by cases l <;> rfl

theorem driveReels_position : s.driveReels.position = s.position :=
  driveReels_field (·.position) (fun _ _ _ => rfl) (fun _ _ _ => rfl) fun _ l _ => by cases l <;> rfl

/-- Settles O39: the meter is `metered`, its acceleration by `metered_speed`, and the drives leave both alone. -/
theorem servoSpeed : Obligations.ServoSpeed := by
  intro s h v hh hv
  subst hh
  refine ⟨fun braked => ?_, fun driven => ⟨_, reelServoUpdate_driven driven, driveReels_now, ?_, ?_, driveReels_vRef,
    driveReels_state, driveReels_position⟩⟩
  · have meter : s.metered.judgeSlip = { s.metered with faults := { s.faults with slip := s.metered.slipAfter } } := rfl
    rw [reelServoUpdate_braked braked, meter, slipAfter_of_braked (s := s.metered) braked, State.metered]
    dsimp only
    rw [commandedAccel_of_braked (by exact braked), hv]
    rfl
  · exact (driveReels_speed.trans (metered_speed driven v hv)).trans (by rw [← driveReels_now]; rfl)
  · refine driveReels_slipAfter.trans ?_
    rw [State.judgeSlip, driveReels_now, hv]
    rfl

/-! ### The torque of one reel (R38 to R45) -/

/-- The torque that drives a reel, from its parts (R38 to R41). -/
theorem drivenReel_eq {f tm fm : Nat} {a : Int} (hf : f = s.tensionSetpoint) (ht : tm = tauMax s.profile d)
    (hm : fm = (s.arm d).tension) (ha : a = s.speed.aCmd) :
    s.drivenReel d = (s.reel d).driven tm (((f * (s.reel d).rEst / 100000 : Nat) : Int) +
        sideSign d * Int.tdiv ((s.reel d).inertia * a) (((s.reel d).rEst / 1000 * 1000 : Nat) : Int) +
        max (-((tm / 4 : Nat) : Int)) (min ((tm / 4 : Nat) : Int)
          (Int.tdiv (((f : Int) - fm) * (s.reel d).rEst * s.profile.kP) 1600000))) := by
  rw [← clampInt_eq _ _ _ (by omega : -((tm / 4 : Nat) : Int) ≤ ((tm / 4 : Nat) : Int))]
  subst hf ht hm ha
  rfl

theorem judgeSlip_port (l : Link) : s.judgeSlip.port l = s.port l := by cases l <;> rfl

/-- Settles O40: the reel is driven by `drivenReel_eq` and `driven_eq`; with no request of the other reel its own alone derates. -/
theorem servoTorque : Obligations.ServoTorque := by
  intro s d r f tm fm a raw tau driven hr hf ht
  refine ⟨_, reelServoUpdate_driven driven, fun ha hraw htau => ?_⟩
  have accel : a = s.metered.speed.aCmd := ha.trans (congrArg SpeedMeter.aCmd driveReels_speed)
  have set : f = s.metered.tensionSetpoint := hf.trans (tensionSetpoint_of_driven (s := s.metered) driven).symm
  have side : tm = tauMax s.profile d ∧ fm = (s.arm d).tension := by cases d <;> exact Prod.mk.inj ht
  have same : s.metered.reel d = r ∧ s.metered.arm d = s.arm d := by cases d <;> exact ⟨hr.symm, rfl⟩
  have parts := drivenReel_eq (s := s.metered) (d := d) (tm := tm) (fm := fm) set side.1 (same.2 ▸ side.2) accel
  rw [same.1] at parts
  have reel : s.metered.drivenReel d = r.driven tm raw := by rw [parts, hraw]; cases d <;> rfl
  rw [driven_eq r tm raw tau htau] at reel
  have drives : s.metered.driveReels.judgeSlip.reel d = (s.metered.drivenReel d).1 :=
    Eq.trans (by cases d <;> rfl) (driveReels_reel d)
  refine ⟨by rw [drives, reel], fun other => ?_⟩
  have alone := driveReels_of_other (s := s.metered) d (no_request (by cases d <;> exact other))
  rw [reel] at alone
  refine ⟨fun quiet => ?_, fun clamped full => ?_⟩
  · have still : ¬ (tau ≠ raw ∧ 39 ≤ r.sat) := by omega
    rw [State.judgeSlip, alone, if_neg (by simpa using still)]
    rfl
  · rw [if_pos (by simp [clamped, full])] at alone
    refine ⟨?_, fun m hm most => ?_⟩
    · rw [State.judgeSlip, alone]
      exact derate_active
    · have port (l : Link) : s.metered.bothDriven.port l = s.port l := by cases l <;> rfl
      rw [State.Reported, judgeSlip_port, alone, ← port]
      exact derate_reported (s := s.metered.bothDriven) hm most

end Sys2Proof.Machine
end

section
/-! The count that closes a radius window: the measurement and its judgement, RADIUS_LOST, and the end of MEASURE. -/

namespace Sys2Proof.Machine
variable {s t u : State} {d : Direction} {r : Side} {p : Profile}

/-! ### The measurement and its judgement (R27 to R30) -/

/-- The 256th count makes a measurement of the window's roller sum (R27). -/
theorem counted_of_closes (x : Reel) (p : Profile) (n : Nat) {o : Window} (h : x.window = some o) (k : o.dir = d)
    (m : o.angle = 255) :
    x.counted p d n = Reel.measured { x with window := none } p (o.roll.natAbs * p.cRoll * 2 / 6283) := by
  unfold Reel.counted
  rw [h]
  exact (if_pos k).trans (if_pos (by omega))

theorem radiusPlausible_iff (m : Nat) :
    radiusPlausible p m = true ↔ p.rHub * 95 / 100 ≤ m ∧ m ≤ p.rFlange * 105 / 100 := by
  rw [radiusPlausible, Bool.and_eq_true, decide_eq_true_eq, decide_eq_true_eq]

/-- A plausible measurement makes the new estimate, with what is derived from it (R28, R29). -/
theorem measured_of_plausible (x : Reel) {m : Nat} (h : p.rHub * 95 / 100 ≤ m ∧ m ≤ p.rFlange * 105 / 100)
    (ordered : p.rHub ≤ p.rFlange) : x.measured p m = ({ x.estimate p (if x.conf = 0 then max p.rHub (min p.rFlange m)
      else (3 * x.rEst + max p.rHub (min p.rFlange m)) / 4) with conf := min (x.conf + 1) 8, streak := 0 }, false) := by
  unfold Reel.measured
  rw [if_pos ((radiusPlausible_iff m).2 h), clampNat_eq _ _ _ ordered, min_comm 8]

theorem implausible_of {m : Nat} (h : m < p.rHub * 95 / 100 ∨ p.rFlange * 105 / 100 < m) : ¬ radiusPlausible p m = true := by
  rw [radiusPlausible_iff]
  omega

/-- An implausible one only lengthens the streak (R28). -/
theorem measured_of_implausible (x : Reel) {m : Nat} (h : m < p.rHub * 95 / 100 ∨ p.rFlange * 105 / 100 < m)
    (few : x.streak < 2) : x.measured p m = ({ x with streak := x.streak + 1 }, false) := by
  unfold Reel.measured
  rw [if_neg (implausible_of h), if_neg (by omega)]

/-- The third in a row reports RADIUS_LOST (R30). -/
theorem measured_of_lost (x : Reel) {m : Nat} (h : m < p.rHub * 95 / 100 ∨ p.rFlange * 105 / 100 < m)
    (many : x.streak = 2) : x.measured p m = ({ x with streak := 0 }, true) := by
  unfold Reel.measured
  rw [if_neg (implausible_of h), if_pos (by omega)]

/-! ### What the count leaves -/

/-- A guard ceiling replaced, that of the direction which a reel pays (R124). -/
def ZoneTable.withGuard (z : ZoneTable) (r : Side) (g : Option Nat) : ZoneTable :=
  match r with
  | .left => { z with guardF := g }
  | .right => { z with guardR := g }

/-- Of guards that stand rightly only the changed reel's is formed anew. -/
theorem reformGuards_withReel (h : s.DerivedOk) (r : Side) (q : Reel) :
    (s.withReel r q).reformGuards = { s.withReel r q with zones := s.zones.withGuard r (guardSpec s.profile q) } := by
  cases r
  · simp only [State.reformGuards, State.withReel, ZoneTable.withGuard, guardOf_eq, ← h.guardR]
  · simp only [State.reformGuards, State.withReel, ZoneTable.withGuard, guardOf_eq, ← h.guardF]

theorem tached_derived (h : s.DerivedOk) (r : Side) (d : Direction) : State.DerivedOk { s with position := s.position.tach r d } :=
  ⟨h.left, h.right, h.guardF, h.guardR⟩

/-- A count that is no report of RADIUS_LOST, up to the end of its step. -/
theorem reelCount_counted {q : Reel} (counted : s.startup.phase ≠ .held) (driven : s.motion.state.braked = false)
    (derived : s.DerivedOk) (hq : (s.reel r).counted s.profile d s.now = (q, false))
    (hu : u = { s with position := s.position.tach r d }) : exec (.reelCount r d) s = .next
      (State.settle { u.withReel r q with zones := s.zones.withGuard r (guardSpec s.profile q) }).handOver := by
  rw [reelCount_eq r counted driven, hq, hu, reformGuards_withReel (tached_derived derived r d)]
  rfl

/-! ### The latched faults under the sequencer's operations -/

theorem report_faults (x : Source) (v : Int) : (s.report x v).faults = s.faults := State.reportTo_faults ..

theorem endCueWrite_faults (b : Nat) : (s.endCueWrite b).faults = s.faults := by
  unfold State.endCueWrite
  split
  · rfl
  · exact (report_faults ..).trans ((State.freeComp_faults ..).trans (State.freeComp_faults ..))

theorem setChase_faults (x : ChaseState) : (s.setChase x).faults = s.faults := by
  unfold State.setChase
  split
  · rfl
  · exact report_faults ..

theorem endChase_faults : s.endChase.faults = s.faults := setChase_faults _

theorem dropRecords_faults (l : List MoveRecord) : (l.foldl State.dropRecord s).faults = s.faults := by
  induction l generalizing s with
  | nil => rfl
  | cons x l ih => exact (ih ..).trans (State.freeComp_faults ..)

theorem discardQueue_faults : s.discardQueue.faults = s.faults := dropRecords_faults _

theorem endActive_faults (res : MoveResult) : (s.endActive res).faults = s.faults := by
  unfold State.endActive
  split
  · rename_i a x rest _ _
    have chase : (if a.kind = .chase then s.endChase else s).faults = s.faults := by
      split
      · exact endChase_faults
      · rfl
    have freed := (State.freeComp_faults (if a.kind = .chase then s.endChase else s) x.comp).trans chase
    dsimp only
    split
    · exact discardQueue_faults.trans freed
    · exact freed
  · rfl

theorem endAll_faults (res : MoveResult) : (s.endAll res).faults = s.faults := by
  unfold State.endAll
  split
  · exact endActive_faults res
  · exact discardQueue_faults

/-- An entry into a transport state other than PLAYING changes no latched fault. -/
theorem enter_latched {x : Transport} (k : x ≠ .playing) : Group.faults.Same s (s.enter x) := by
  have left : Group.faults.Same s s.leavePlaying := by
    unfold State.leavePlaying
    dsimp only
    split
    · rw [Group.Same, endCueWrite_faults]
      exact ⟨rfl, rfl⟩
    · exact ⟨rfl, rfl⟩
  have stopped : Group.faults.Same s (if s.motion.state = .playing ∧ x ≠ .playing then s.leavePlaying else s) := by
    split
    · exact left
    · exact ⟨rfl, rfl⟩
  unfold State.enter
  dsimp only
  rw [if_neg k]
  split
  · exact stopped
  · exact stopped

theorem enterHalting_latched (b : Bool) (x : HaltDest) : Group.faults.Same s (s.enterHalting b x) := by
  have entered : Group.faults.Same s (s.enter .halting) := enter_latched (by decide)
  have faults : (s.enterHalting b x).faults = (s.enter .halting).faults := discardQueue_faults
  rw [Group.Same, faults]
  exact entered

/-! ### The transport state under them -/

theorem dropRecords_state (l : List MoveRecord) : (l.foldl State.dropRecord s).motion.state = s.motion.state := by
  induction l generalizing s with
  | nil => rfl
  | cons x l ih =>
    have dropped : (s.dropRecord x).motion.state = (s.freeComp x.comp).motion.state := rfl
    rw [List.foldl_cons, ih, dropped, State.freeComp_motion]

theorem discardQueue_state : s.discardQueue.motion.state = s.motion.state := dropRecords_state _

theorem endActive_state (res : MoveResult) : (s.endActive res).motion.state = s.motion.state := by
  unfold State.endActive
  split
  · rename_i a x rest _ _
    have chase : (if a.kind = .chase then s.endChase else s).motion = s.motion := by
      split
      · exact setChase_motion _
      · rfl
    have freed := congrArg Motion.state ((State.freeComp_motion (if a.kind = .chase then s.endChase else s) x.comp).trans chase)
    dsimp only
    split
    · exact discardQueue_state.trans freed
    · exact freed
  · rfl

theorem endAll_state (res : MoveResult) : (s.endAll res).motion.state = s.motion.state := by
  unfold State.endAll
  split
  · exact endActive_state res
  · exact discardQueue_state

theorem enterHalting_state (b : Bool) (x : HaltDest) : (s.enterHalting b x).motion.state = .halting :=
  (discardQueue_state (s := s.enter .halting)).trans (by rw [enter_motion])

/-! ### RADIUS_LOST (R30, R172 to R174) -/

/-- The halt of a class B fault under way or over, the fault latched, with both arms NORMAL: nothing more is latched there. -/
structure State.FaultHeld (s : State) (k : FaultKind) (x : Primary) : Prop where
  left    : s.armL.state = .normal
  right   : s.armR.state = .normal
  set     : s.faults.set = [k]
  primary : s.faults.primary = some x
  state   : s.motion.state = .halting ∨ s.motion.state = .fault

variable {k : FaultKind} {x : Primary}

/-- What keeps the arms and the latched faults stays in such a halt when its state does. -/
theorem State.FaultHeld.congr (h : s.FaultHeld k x) (back : t.backdrop = s.backdrop) (latched : Group.faults.Same s t)
    (state : t.motion.state = .halting ∨ t.motion.state = .fault) : t.FaultHeld k x where
  left := (congrArg Arm.state (field_of_backdrop back (·.armL) fun _ => rfl)).trans h.left
  right := (congrArg Arm.state (field_of_backdrop back (·.armR) fun _ => rfl)).trans h.right
  set := latched.1.trans h.set
  primary := latched.2.trans h.primary
  state := state

/-- In HALTING with both arms NORMAL only the pinch and the halt itself have reactions. -/
theorem react_of_halting (h : s.motion.state = .halting) (hl : s.armL.state = .normal) (hr : s.armR.state = .normal) :
    s.react = (s.reactPinch <|> s.reactHalting) := by
  rw [State.react, reactTension_none hl hr, reactSizing_none (by simp [h]), reactBraking_none (.inl (by simp [h])),
    reactHold_none_of_state (by simp [h]) (by simp [h]), reactSettled_none_of_state (by simp [h]) (by simp [h]),
    reactQueue_none (.inl (by simp [h]))]
  cases s.reactPinch <;> cases s.reactHalting <;> rfl

theorem react_faultHeld (h : s.FaultHeld k x) (e : s.react = some t) : t.FaultHeld k x := by
  have back := react_backdrop e
  rcases h.state with halting | fault
  · rw [react_of_halting halting h.left h.right, Option.orElse_eq_some] at e
    rcases e with e | ⟨-, e⟩
    · unfold State.reactPinch at e
      split at e
      · cases e
      · rw [halting] at e
        dsimp only at e
        split at e <;> cases e
        exact h.congr back ⟨rfl, rfl⟩ (.inl halting)
    · unfold State.reactHalting at e
      split at e
      · split at e
        · split at e
          · cases e
            have faulted : s.faults.set ≠ [] := by simp [h.set]
            rw [State.endHalting, if_pos faulted] at back ⊢
            exact h.congr back (enter_latched (by decide)) (.inr (by rw [enter_motion]))
          · split at e <;> cases e
            exact h.congr back ⟨rfl, rfl⟩ (.inl halting)
        · cases e
      · cases e
  · rw [react_none_of_fault fault] at e
    cases e

theorem settle_faultHeld (h : s.FaultHeld k x) : s.settle.FaultHeld k x := by
  have kept := reactions_keep (P := fun y => y.FaultHeld k x) (fun _ _ => react_faultHeld) 64 s h
  refine kept.congr syncLoop_backdrop ?_ ?_
  · rw [State.settle, Group.Same, syncLoop_faults]
    exact ⟨rfl, rfl⟩
  · rw [State.settle, syncLoop_motion]
    exact kept.state

theorem faultJoin_nil (k : FaultKind) : faultJoin k [] = [k] := by cases k <;> decide

/-- A class B fault in a driven state begins such a halt (R174). -/
theorem faultRequest_halts (driven : s.motion.state.braked = false) :
    Group.faults.Same s (s.faultRequest .b) ∧ (s.faultRequest .b).motion.state = .halting := by
  have ended : ∀ y : State, (y = s.endAll .faulted ∨ y = (s.endAll .faulted).sizingDone 3) →
      Group.faults.Same s y ∧ y.motion.state = s.motion.state := by
    rintro y (rfl | rfl)
    · exact ⟨by rw [Group.Same, endAll_faults]; exact ⟨rfl, rfl⟩, endAll_state _⟩
    · exact ⟨by rw [Group.Same, State.sizingDone, report_faults, endAll_faults]; exact ⟨rfl, rfl⟩,
        (congrArg Motion.state (report_motion ..)).trans (endAll_state _)⟩
  obtain ⟨latched, state⟩ := ended (if s.motion.state = .sizing then (s.endAll .faulted).sizingDone 3 else s.endAll .faulted)
    (by split <;> simp)
  unfold State.faultRequest
  dsimp only
  generalize (if s.motion.state = .sizing then (s.endAll .faulted).sizingDone 3 else s.endAll .faulted) = y at *
  have halts (b : Bool) (x : HaltDest) : Group.faults.Same s (y.enterHalting b x) ∧ (y.enterHalting b x).motion.state = .halting :=
    ⟨Group.same_trans latched (enterHalting_latched b x), enterHalting_state b x⟩
  split
  case h_1 | h_2 | h_3 | h_4 | h_5 | h_6 => exact halts ..
  case h_9 halting => exact ⟨latched, state.trans halting⟩
  case h_7 e | h_8 e | h_10 e | h_11 e =>
    rw [e] at driven
    cases driven

/-- A capture that a fault triggers, triggered (R163). -/
def State.faultTrigger (s : State) : State := if s.capture.trigger = .fault then s.captureTrigger else s

theorem faultTrigger_keeps : s.faultTrigger.motion = s.motion ∧ s.faultTrigger.faults = s.faults := by
  unfold State.faultTrigger
  split
  · unfold State.captureTrigger
    split
    · exact ⟨State.freeComp_motion .., State.freeComp_faults ..⟩
    · exact ⟨rfl, rfl⟩
  · exact ⟨rfl, rfl⟩

/-- The state in which a fresh fault kind makes its request: latched and reported (R173). -/
def State.faulted (s : State) (k : FaultKind) : State :=
  (State.report { s with faults := { s.faults with
    set := faultJoin k s.faults.set
    primary := if s.faults.set = [] then some ⟨k, s.position.pos, s.motion.state⟩ else s.faults.primary } } .fault k.num).faultTrigger

theorem latchFault_fresh (h : k ∉ s.faults.set) : s.latchFault k = (s.faulted k).faultRequest k.class := if_neg h

theorem faulted_motion (k : FaultKind) : (s.faulted k).motion = s.motion := faultTrigger_keeps.1.trans (report_motion ..)

theorem faulted_faults (k : FaultKind) : (s.faulted k).faults = { s.faults with
    set := faultJoin k s.faults.set
    primary := if s.faults.set = [] then some ⟨k, s.position.pos, s.motion.state⟩ else s.faults.primary } :=
  faultTrigger_keeps.2.trans (report_faults ..)

/-- With no fault latched before and both arms NORMAL, a class B fault in a driven state is alone in the set, and primary (R173). -/
theorem latchFault_held (hk : k.class = .b) (driven : s.motion.state.braked = false) (calm : s.Calm) :
    (s.latchFault k).FaultHeld k ⟨k, s.position.pos, s.motion.state⟩ := by
  obtain ⟨hl, hr, hf⟩ := calm
  have back : (s.latchFault k).backdrop = s.backdrop := latchFault_backdrop k
  have faults := faulted_faults (s := s) k
  rw [hf, if_pos rfl, faultJoin_nil] at faults
  obtain ⟨same, halting⟩ := faultRequest_halts (s := s.faulted k) (by rw [faulted_motion]; exact driven)
  rw [latchFault_fresh (by simp [hf]), hk] at back ⊢
  exact {
    left := (congrArg Arm.state (field_of_backdrop back (·.armL) fun _ => rfl)).trans hl
    right := (congrArg Arm.state (field_of_backdrop back (·.armR) fun _ => rfl)).trans hr
    set := same.1.trans (by rw [faults])
    primary := same.2.trans (by rw [faults])
    state := .inl halting }

/-! ### The end of MEASURE (R107) -/

/-- With the tape moving no SETTLE phase ends. -/
theorem reactSettled_none_of_moving (h : s.position.atRest = false) : s.reactSettled = none := by
  unfold State.reactSettled
  split
  · exact if_neg (by simp [h])
  · rfl

/-- MEASURE with both confidences at 4 and the arms NORMAL ends in RETURN, and nothing more is due while the tape moves. -/
theorem settle_of_measured {z : SizingCtx} (state : s.motion.state = .sizing) (hz : s.motion.sizing = some z)
    (measure : z.phase = .measure) (calm : s.Calm) (moving : s.position.atRest = false) (left : 4 ≤ s.reelL.conf)
    (right : 4 ≤ s.reelR.conf) : s.settle = (s.beginReturn z).syncLoop := by
  obtain ⟨hl, hr, -⟩ := calm
  have sized : s.reactSizing = some (s.beginReturn z) := by simp [State.reactSizing, state, hz, measure, hl, hr, left, right]
  have due : s.react = some (s.beginReturn z) := by rw [State.react, reactTension_none hl hr, sized]; rfl
  have returned : (s.beginReturn z).motion.state = .sizing := state
  have still : (s.beginReturn z).reactSizing = none := by
    unfold State.reactSizing
    rw [returned]
    exact if_neg (by simp [State.beginReturn, hl, hr])
  exact settle_of_some due (react_none (reactTension_none hl hr) still
    (reactPinch_none_of_state (by simp [returned]) (by simp [returned]) (by simp [returned])) (reactHalting_none (by simp [returned]))
    (reactBraking_none (.inl (by simp [returned]))) (reactHold_none_of_state (by simp [returned]) (by simp [returned]))
    (reactSettled_none_of_moving moving) (reactQueue_none (.inl (by simp [returned]))))

/-! ### The obligation -/

theorem State.SameModel.reel (h : s.SameModel t) (r : Side) : (t.reel r).SameModel (s.reel r) := by
  obtain ⟨-, left, right, -, -⟩ := h
  cases r
  · exact left
  · exact right

/-- A guard formed from a reel that has kept its confidence and its remaining tape stands. -/
theorem withGuard_of_same (h : s.DerivedOk) (r : Side) {q : Reel} (conf : q.conf = (s.reel r).conf)
    (remaining : q.remaining = (s.reel r).remaining) : s.zones.withGuard r (guardSpec s.profile q) = s.zones := by
  rw [guardSpec_congr conf remaining]
  cases r
  · simp only [ZoneTable.withGuard, State.reel, ← h.guardF]
  · simp only [ZoneTable.withGuard, State.reel, ← h.guardR]

/-- A count that reports RADIUS_LOST with no fault latched and both arms NORMAL (R30, R173). -/
theorem reelCount_lost {q : Reel} (counted : s.startup.phase ≠ .held) (driven : s.motion.state.braked = false)
    (hq : (s.reel r).counted s.profile d s.now = (q, true)) (calm : s.Calm) :
    ∃ t : State, exec (.reelCount r d) s = .next t.handOver ∧ t.FaultHeld .radiusLost ⟨.radiusLost, s.position.pos, s.motion.state⟩ ∧
      (t.reel r).SameModel q := by
  refine ⟨_, by rw [reelCount_eq r counted driven, hq, if_pos rfl], settle_faultHeld ?_, ?_⟩
  · cases r <;> exact latchFault_held (s := State.reformGuards _) rfl driven calm
  · have same := (sameModel_of_backdrop (settle_backdrop.trans (latchFault_backdrop .radiusLost))
      (s := (State.withReel { s with position := s.position.tach r d } r q).reformGuards)).reel r
    have counted : (State.withReel { s with position := s.position.tach r d } r q).reformGuards.reel r = q := by cases r <;> rfl
    rwa [counted] at same

/-- Settles O30: the measurement decides (`measured_of_plausible`, `measured_of_implausible`, `measured_of_lost`), and what is due
after it is nothing, the halt of `latchFault_held`, or RETURN by `settle_of_measured`. -/
theorem windowClose : Obligations.WindowClose := by
  intro s u r d o m q counted driven derived ok ho hd ha hm hu
  have tached : u = { s with position := s.position.tach r d } := by rw [hu]; cases r <;> rfl
  have closes := counted_of_closes (s.reel r) s.profile s.now ho hd ha
  rw [← hm] at closes
  have ordered := ok.left.1.trans ok.left.2
  refine ⟨fun lo hi hest hq v hv settled => ?_, fun out few v hv settled => ?_, fun out many calm => ?_,
    fun z lo hi state hz measure calm moving conf other => ?_⟩
  · have made : (s.reel r).counted s.profile d s.now = (q, false) := by
      rw [closes, measured_of_plausible _ ⟨lo, hi⟩ ordered, hq, hest]
      rfl
    have left : v = { u.withReel r q with zones := s.zones.withGuard r (guardSpec s.profile q) } := by rw [hv]; cases r <;> rfl
    rw [reelCount_counted counted driven derived made tached, ← left, settle_of_settled settled]
  · have lengthened := closes.trans (measured_of_implausible _ out (by exact few))
    have left : v = { v with zones := s.zones } := by rw [hv, tached]; cases r <;> rfl
    rw [reelCount_counted counted driven derived lengthened tached, withGuard_of_same derived r (by rfl) (by rfl)]
    rw [hv] at left settled ⊢
    rw [← left, settle_of_settled settled]
  · obtain ⟨t, e, held, streak⟩ := reelCount_lost counted driven (closes.trans (measured_of_lost _ out (by exact many))) calm
    obtain ⟨est, conf, streak, -, -⟩ := streak
    exact ⟨t, e, held.set, held.primary, streak, est, conf⟩
  · have made := closes.trans (measured_of_plausible _ ⟨lo, hi⟩ ordered)
    rw [reelCount_counted counted driven derived made tached, tached]
    cases r
    · rw [settle_of_measured (by exact state) (by exact hz) measure (by exact calm) (by exact moving)
        (by simp only [State.withReel]; omega) (by exact other)]
      exact ⟨_, _, rfl, rfl, rfl, by rw [syncLoop_motion]; rfl, by rw [State.reel, syncLoop_reelL]; rfl⟩
    · rw [settle_of_measured (by exact state) (by exact hz) measure (by exact calm) (by exact moving)
        (by exact other) (by simp only [State.withReel]; omega)]
      exact ⟨_, _, rfl, rfl, rfl, by rw [syncLoop_motion]; rfl, by rw [State.reel, syncLoop_reelR]; rfl⟩

end Sys2Proof.Machine
end

section
/-! The standby watch: what a sample leaves while STANDBY stays, and how the fourth beyond the wake delta leaves it. -/

namespace Sys2Proof.Machine
variable {s t : State} {d : Side} {w : Watch} {raw : Nat}

/-! ### The states with brakes engaged and no sequence under way -/

/-- In STANDBY and UNTHREADED nothing is due, whatever the arms and the queue hold. -/
theorem react_none_of_parked (h : s.motion.state = .standby ∨ s.motion.state = .unthreaded) : s.react = none := by
  have k (x : Transport) (a : x ≠ .standby) (b : x ≠ .unthreaded) : s.motion.state ≠ x := by
    rintro rfl
    exact h.elim a b
  have tension : s.reactTension = none := by
    rcases h with h | h <;> simp [State.reactTension, h, Transport.moving, Transport.braked]
  exact react_none tension (reactSizing_none (k _ (by decide) (by decide)))
    (reactPinch_none_of_state (k _ (by decide) (by decide)) (k _ (by decide) (by decide)) (k _ (by decide) (by decide)))
    (reactHalting_none (k _ (by decide) (by decide))) (reactBraking_none (.inl (k _ (by decide) (by decide))))
    (reactHold_none_of_state (k _ (by decide) (by decide)) (k _ (by decide) (by decide)))
    (reactSettled_none_of_state (k _ (by decide) (by decide)) (k _ (by decide) (by decide)))
    (reactQueue_none (.inl (k _ (by decide) (by decide))))

/-- The entries other than those into STANDBY make the watch inactive (R63). -/
theorem enter_watch {x : Transport} (h : x ≠ .standby) (k : x ≠ .playing) : (s.enter x).watch = none := by
  unfold State.enter
  dsimp only
  rw [if_neg k, if_neg h]
  split <;> rfl

/-- UNTHREADED entered from outside PLAYING, at the drives (R42). -/
theorem enter_unthreaded_drives (h : s.motion.state ≠ .playing) : (s.enter .unthreaded).reelL = s.reelL.brake ∧
    (s.enter .unthreaded).reelR = s.reelR.brake ∧ (s.enter .unthreaded).capstan.code = 0 := by
  simp only [State.enter, h, false_and, if_false]
  exact ⟨rfl, rfl, rfl⟩

theorem syncLoop_code (h : s.capstan.code = 0) : s.syncLoop.capstan.code = 0 := by
  unfold State.syncLoop
  split
  · exact h
  · rfl

/-! ### A sample of an arm -/

/-- The name of an arm's slot (R50). -/
def armSlot : Side → Slot
  | .left => .armL
  | .right => .armR

/-- The state in which the sample of a conversion is handed on (R48). -/
def State.converted (s : State) (raw : Nat) : State :=
  { s with
    now := max s.now (s.conv.lastDone + Config.conversionTime)
    conv := { (s.conv.stored raw).advanced with lastDone := max s.now (s.conv.lastDone + Config.conversionTime) } }

/-- A conversion made for an arm's slot. -/
theorem conversionComplete_arm {x : BitVec 12} (h : s.startup.phase ≠ .held)
    (slot : s.conv.schedule[s.conv.ptr]? = some (armSlot d)) :
    exec (.conversionComplete x) s = .next ((s.converted x.toNat).armSample d x.toNat).settle.handOver := by
  have made : s.conv.slot = armSlot d := by rw [Converter.slot, List.getD_eq_getElem?_getD, slot, Option.getD_some]
  refine (if_neg h).trans ?_
  rw [made]
  cases d <;> rfl

/-- What the detectors leave alone. -/
theorem judgeArm_keeps (d : Side) (f : Nat) : (s.judgeArm d f).motion = s.motion ∧ (s.judgeArm d f).watch = s.watch ∧
    (s.judgeArm d f).ctl = s.ctl ∧ (s.judgeArm d f).position = s.position := by
  unfold State.judgeArm
  dsimp only
  have arm : ∀ a : Arm, (s.withArm d a).motion = s.motion ∧ (s.withArm d a).watch = s.watch ∧
      (s.withArm d a).ctl = s.ctl ∧ (s.withArm d a).position = s.position := by cases d <;> exact fun _ => ⟨rfl, rfl, rfl, rfl⟩
  split
  · exact arm _
  · simpa only [State.report, State.reportAt, State.reportTo_motion, State.reportTo_watch, State.reportTo_ctl,
      State.reportTo_position] using arm _

/-- A change of an arm's tension state is reported, and nothing else (R60). -/
theorem judgeArm_port (d : Side) (f : Nat) : (s.judgeArm d f).port s.noticeLink =
    if ((s.judgeArm d f).arm d).state = (s.arm d).state then s.port s.noticeLink
    else (s.port s.noticeLink).offer (tensionSource d) ((s.judgeArm d f).arm d).state.ctorIdx s.position.pos := by
  have sampled : (s.judgeArm d f).arm d = (s.arm d).sampled s.profile f := by
    unfold State.judgeArm
    dsimp only
    split
    · cases d <;> rfl
    · cases d
      · exact State.reportTo_armL ..
      · exact State.reportTo_armR ..
  have port (a : Arm) : (s.withArm d a).port s.noticeLink = s.port s.noticeLink := by
    cases d <;> cases s.noticeLink <;> rfl
  have link (a : Arm) : (s.withArm d a).noticeLink = s.noticeLink ∧ (s.withArm d a).position = s.position := by
    cases d <;> exact ⟨rfl, rfl⟩
  rw [sampled]
  unfold State.judgeArm
  dsimp only
  split
  · exact port _
  · rw [State.report, State.reportAt, (link _).1, State.reportTo_port, port, (link _).2]
    rfl

/-! ### The watch (R63, R111) -/

/-- A sample that does not bring its counter to 4 only counts. -/
theorem watchArm_of_few (hw : s.watch = some w) (few : (w.sampled s.profile.wakeDelta raw d).count d < 4) :
    s.watchArm d raw = { s with watch := some (w.sampled s.profile.wakeDelta raw d) } := by
  unfold State.watchArm
  rw [hw]
  exact if_neg (by omega)

/-- The state in which a detection of the watch is reported. -/
def State.unwatched (s : State) (d : Side) : State := State.report { s with watch := none } .armMoved (sideNum d)

theorem unwatched_motion : (s.unwatched d).motion = s.motion := State.reportTo_motion ..

theorem unwatched_port : (s.unwatched d).port s.noticeLink =
    (s.port s.noticeLink).offer .armMoved (sideNum d) s.position.pos := by
  refine (State.reportTo_port ..).trans ?_
  unfold State.noticeLink
  cases s.ctl.owner.noticeLink <;> rfl

/-- A sample that brings its counter to 4 in STANDBY leaves it (R111). -/
theorem watchArm_of_fourth (hw : s.watch = some w) (fourth : 4 ≤ (w.sampled s.profile.wakeDelta raw d).count d)
    (standby : s.motion.state = .standby) : s.watchArm d raw = ((s.unwatched d).enter .unthreaded).restartReels := by
  unfold State.watchArm
  rw [hw]
  exact (if_pos fourth).trans (if_pos (show (s.unwatched d).motion.state = .standby by rw [unwatched_motion, standby]))

/-- UNTHREADED as the watch's detection leaves it: brakes engaged, drives at zero, both estimates started again. -/
structure State.Awoken (t : State) (p : Profile) : Prop where
  state   : t.motion.state = .unthreaded
  watch   : t.watch = none
  brakes  : t.motion.brakeRelease = false
  codeL   : t.reelL.code = 0
  codeR   : t.reelR.code = 0
  codeC   : t.capstan.code = 0
  left    : t.reelL.conf = 0 ∧ t.reelL.rEst = p.rSizing ∧ t.reelL.streak = 0
  right   : t.reelR.conf = 0 ∧ t.reelR.rEst = p.rSizing ∧ t.reelR.streak = 0

/-- STANDBY left at a detection. -/
theorem unwatched_awoken (h : s.motion.state = .standby) :
    (((s.unwatched d).enter .unthreaded).restartReels).settle.Awoken s.profile ∧
      ∀ l, (((s.unwatched d).enter .unthreaded).restartReels).settle.port l = (s.unwatched d).port l := by
  have outside : (s.unwatched d).motion.state ≠ .playing := by
    rw [unwatched_motion, h]
    decide
  obtain ⟨drivesL, drivesR, drivesC⟩ := enter_unthreaded_drives outside
  have profile : ((s.unwatched d).enter .unthreaded).profile = s.profile :=
    (field_of_backdrop (enter_backdrop .unthreaded) (·.profile) fun _ => rfl).trans (State.reportTo_profile ..)
  have ports := (enter_keeps outside (x := .unthreaded) (by decide)).2
  have watch : ((s.unwatched d).enter .unthreaded).watch = none := enter_watch (by decide) (by decide)
  have motion := enter_motion (s := s.unwatched d) .unthreaded
  generalize (s.unwatched d).enter .unthreaded = u at *
  have state : u.restartReels.motion.state = .unthreaded := by rw [show u.restartReels.motion = u.motion from rfl, motion]
  rw [settle_of_none (react_none_of_parked (.inr state))]
  refine ⟨?_, fun l => (syncLoop_port l).trans ((by cases l <;> rfl : u.restartReels.port l = u.port l).trans (ports l))⟩
  exact {
    state := by rw [syncLoop_motion, state]
    watch := by rw [syncLoop_watch]; exact watch
    brakes := by rw [syncLoop_motion, show u.restartReels.motion = u.motion from rfl, motion]; rfl
    codeL := by rw [syncLoop_reelL]; exact congrArg Reel.code drivesL
    codeR := by rw [syncLoop_reelR]; exact congrArg Reel.code drivesR
    codeC := syncLoop_code drivesC
    left := by rw [syncLoop_reelL, ← profile]; exact ⟨rfl, rfl, rfl⟩
    right := by rw [syncLoop_reelR, ← profile]; exact ⟨rfl, rfl, rfl⟩ }

/-! ### ARM_MOVED in the notice link's table -/

/-- A clear latch that the mask admits becomes set (R183). -/
theorem offer_of_clear {p : LinkPort} {x : Source} {v pos : Int} (mask : p.mask.getLsbD x.num = true)
    (clear : p.latches[x.num]? = some none) : (p.offer x v pos).latches[x.num]? = some (some ⟨1, v, pos, true⟩) := by
  have inside : x.num < p.latches.length := (List.getElem?_eq_some_iff.1 clear).1
  have latch : p.latches.getD x.num none = none := by rw [List.getD_eq_getElem?_getD, clear, Option.getD_some]
  rw [LinkPort.offer, if_pos mask, latch]
  exact List.getElem?_set_self inside

/-- An event leaves the mask and the latches of the others. -/
theorem offer_other {p : LinkPort} {x : Source} {v pos : Int} {i : Nat} (h : x.num ≠ i) :
    (p.offer x v pos).mask = p.mask ∧ (p.offer x v pos).latches[i]? = p.latches[i]? := by
  unfold LinkPort.offer
  split
  · exact ⟨rfl, List.getElem?_set_ne h⟩
  · exact ⟨rfl, rfl⟩

/-- The port of the notice link after a detection: a change of tension and ARM_MOVED. -/
def LinkPort.armEvents (p : LinkPort) (d : Side) (pos : Int) (before after : TensionState) : LinkPort :=
  (if after = before then p else p.offer (tensionSource d) after.ctorIdx pos).offer .armMoved (sideNum d) pos

theorem armEvents_latch {p : LinkPort} {pos : Int} {x y : TensionState} (mask : p.mask.getLsbD 11 = true)
    (clear : p.latches[11]? = some none) : (p.armEvents d pos x y).latches[11]? = some (some ⟨1, sideNum d, pos, true⟩) := by
  unfold LinkPort.armEvents
  split
  · exact offer_of_clear (x := .armMoved) mask clear
  · obtain ⟨kept, latch⟩ := offer_other (p := p) (x := tensionSource d) (v := y.ctorIdx) (pos := pos) (i := 11)
      (by cases d <;> decide)
    exact offer_of_clear (x := .armMoved) (by rw [kept]; exact mask) (latch.trans clear)

/-! ### The two outcomes of a sample in STANDBY -/

/-- A sample of an arm is judged at some tension and then handed to the watch (R55). -/
theorem armSample_watched (s : State) (d : Side) (raw : Nat) : ∃ f, s.armSample d raw = (s.judgeArm d f).watchArm d raw := ⟨_, rfl⟩

theorem armSample_of_few (standby : s.motion.state = .standby) (hw : s.watch = some w)
    (few : (w.sampled s.profile.wakeDelta raw d).count d < 4) : (s.armSample d raw).settle.motion.state = .standby ∧
      (s.armSample d raw).settle.watch = some (w.sampled s.profile.wakeDelta raw d) := by
  obtain ⟨f, handed⟩ := armSample_watched s d raw
  rw [handed]
  obtain ⟨motion, watch, -, -⟩ := judgeArm_keeps (s := s) d f
  have profile := judgeArm_profile (s := s) d f
  have state : (s.judgeArm d f).motion.state = .standby := by rw [motion, standby]
  rw [watchArm_of_few (watch.trans hw) (by rw [profile]; exact few), settle_of_none (react_none_of_parked (.inl (by exact state))),
    syncLoop_motion, syncLoop_watch, profile]
  exact ⟨state, rfl⟩

theorem armSample_of_fourth (standby : s.motion.state = .standby) (hw : s.watch = some w)
    (fourth : 4 ≤ (w.sampled s.profile.wakeDelta raw d).count d) : (s.armSample d raw).settle.Awoken s.profile ∧
      (s.armSample d raw).settle.port s.noticeLink = (s.port s.noticeLink).armEvents d s.position.pos (s.arm d).state
        ((s.armSample d raw).settle.arm d).state := by
  obtain ⟨f, handed⟩ := armSample_watched s d raw
  rw [handed]
  obtain ⟨motion, watch, ctl, position⟩ := judgeArm_keeps (s := s) d f
  have profile := judgeArm_profile (s := s) d f
  have port := judgeArm_port (s := s) d f
  have link : (s.judgeArm d f).noticeLink = s.noticeLink := by rw [State.noticeLink, ctl]; rfl
  have state : (s.judgeArm d f).motion.state = .standby := by rw [motion, standby]
  rw [watchArm_of_fourth (watch.trans hw) (by rw [profile]; exact fourth) state]
  obtain ⟨awoken, ports⟩ := unwatched_awoken (d := d) state
  have arm : ((((s.judgeArm d f).unwatched d).enter .unthreaded).restartReels.settle.arm d) = (s.judgeArm d f).arm d := by
    cases d
    · exact (settle_armL ..).trans ((enter_armL ..).trans (State.reportTo_armL ..))
    · exact (settle_armR ..).trans ((enter_armR ..).trans (State.reportTo_armR ..))
  have reported : ((s.judgeArm d f).unwatched d).port s.noticeLink =
      ((s.judgeArm d f).port s.noticeLink).offer .armMoved (sideNum d) s.position.pos := by
    rw [← link, ← position]
    exact unwatched_port
  rw [profile] at awoken
  exact ⟨awoken, by rw [ports, reported, port, arm]; rfl⟩

/-- Settles O36: a sample in STANDBY only counts (`armSample_of_few`), and the fourth beyond the wake delta ends STANDBY
(`armSample_of_fourth`). -/
theorem standbyWatch : Obligations.StandbyWatch := by
  intro s d raw w snap old running standby hw slot counts
  have made : exec (.conversionComplete raw) s = .next ((s.converted raw.toNat).armSample d raw.toNat).settle.handOver :=
    conversionComplete_arm running (by rw [slot]; cases d <;> rfl)
  have count : (w.sampled s.profile.wakeDelta raw.toNat d).count d = watchCount s.profile.wakeDelta snap raw.toNat old := by
    cases d <;> cases counts <;> rfl
  refine ⟨fun n hn few => ?_, fun beyond many => ?_⟩
  · obtain ⟨state, watch⟩ := armSample_of_few (s := s.converted raw.toNat) (d := d) standby hw (by
      rw [show (s.converted raw.toNat).profile = s.profile from rfl, count, watchCount, ← hn]
      exact few)
    refine ⟨_, made, state, watch.trans ?_⟩
    cases d <;> cases counts <;> rw [hn] <;> rfl
  · obtain ⟨⟨state, watch, brakes, codeL, codeR, codeC, left, right⟩, port⟩ :=
      armSample_of_fourth (s := s.converted raw.toNat) (d := d) standby hw (by
        rw [show (s.converted raw.toNat).profile = s.profile from rfl, count, watchCount, if_pos beyond]
        omega)
    obtain ⟨confL, estL, streakL⟩ := left
    obtain ⟨confR, estR, streakR⟩ := right
    refine ⟨_, made, state, watch, brakes, codeL, codeR, codeC, confL, confR, estL, estR, streakL, streakR, ?_,
      fun _ clear mask owner => ?_⟩
    · cases d <;> exact port
    · have link : (s.converted raw.toNat).noticeLink = .deck := by rw [State.noticeLink]; exact congrArg Owner.noticeLink owner
      rw [link] at port
      refine ((congrArg (·.latches[11]?) port).trans (armEvents_latch mask clear)).trans ?_
      cases d <;> rfl

end Sys2Proof.Machine
end

section
/-! SIZE_REELS, WAKE and CLEAR_FAULT: what the requests come to, the thread check at the entry into SIZING, and the kinds that
a Clear Fault leaves. -/

namespace Sys2Proof.Machine
variable {s t : State} {r : Request} {v : SizingVariant} {z : SizingCtx}

/-! ### The requests of the owner (R106, R110, R176) -/

theorem sizeReels_eq (h : s.Takes 0x15 r t) (g : t.Grants r.link) (empty : r.body = []) : exec (.sizeReels r) s =
    .next (((t.checked [check (!t.store.invalid) .profileInvalid, check t.maySize .wrongState]
      ((t.restartReels.enterSizing .size).settle.ok [])).replied 0x15 r).handOver) :=
  owned_request (n := 0) (checks := fun x => [check (!x.store.invalid) .profileInvalid, check x.maySize .wrongState])
    (act := fun x => (x.restartReels.enterSizing .size).settle.ok []) h g (by rw [empty]; rfl)

theorem wake_eq (h : s.Takes 0x17 r t) (g : t.Grants r.link) (empty : r.body = []) : exec (.wake r) s =
    .next (((t.checked [check (decide (t.motion.state = .standby)) .wrongState]
      ((t.enterSizing .wake).settle.ok [])).replied 0x17 r).handOver) :=
  owned_request (n := 0) (checks := fun x => [check (decide (x.motion.state = .standby)) .wrongState])
    (act := fun x => (x.enterSizing .wake).settle.ok []) h g (by rw [empty]; rfl)

theorem clearFault_eq (h : s.Takes 0x18 r t) (g : t.Grants r.link) (empty : r.body = []) : exec (.clearFault r) s =
    .next (((t.checked [check (decide (t.motion.state = .fault)) .wrongState] t.clearFault).replied 0x18 r).handOver) :=
  owned_request (n := 0) (checks := fun x => [check (decide (x.motion.state = .fault)) .wrongState])
    (act := fun x => x.clearFault) h g (by rw [empty]; rfl)

/-- The states that refuse Size Reels (R106). -/
theorem maySize_eq_false (threaded : s.motion.state ≠ .unthreaded) (h : s.motion.state ≠ .stopped ∨ s.motion.queue ≠ []) :
    s.maySize = false := by
  rcases h with h | h <;> simp [State.maySize, threaded, h]

/-! ### The thread check at the entry into SIZING (R106, R110) -/

/-- The sequencer at the entry into SIZING. -/
theorem enterSizing_motion (v : SizingVariant) : (s.enterSizing v).motion = { s.motion with
    state := .sizing
    sizing := some ⟨.threadCheck, v, s.position.pos, s.now, 0⟩
    accel := s.profile.accel
    halt := none
    pinchTimer := none
    brakingTimer := none
    brakeRelease := true
    pinchCmd := false } := by
  rw [State.enterSizing, enter_motion]
  rfl

theorem enterSizing_arms (v : SizingVariant) : (s.enterSizing v).armL = s.armL ∧ (s.enterSizing v).armR = s.armR :=
  ⟨enter_armL _, enter_armR _⟩

theorem enterSizing_now (v : SizingVariant) : (s.enterSizing v).now = s.now :=
  field_of_backdrop (enterSizing_backdrop v) (·.now) fun _ => rfl

/-- In SIZING with no arm OVER and no locate, only sizing itself has reactions. -/
theorem react_of_sizing (h : s.motion.state = .sizing) (hlo : s.motion.locate = none) (hl : s.armL.state ≠ .over)
    (hr : s.armR.state ≠ .over) : s.react = s.reactSizing := by
  have tension : s.reactTension = none := by simp [State.reactTension, h, Transport.moving, hl, hr]
  rw [State.react, tension, reactPinch_none_of_state (by simp [h]) (by simp [h]) (by simp [h]), reactHalting_none (by simp [h]),
    reactBraking_none (.inl (by simp [h])), reactHold_none_of_state (by simp [h]) (by simp [h]), reactSettled_none hlo,
    reactQueue_none (.inl (by simp [h]))]
  cases s.reactSizing <;> rfl

theorem react_enterSizing (hlo : s.motion.locate = none) (hl : s.armL.state ≠ .over) (hr : s.armR.state ≠ .over) :
    (s.enterSizing v).react = (s.enterSizing v).reactSizing := by
  obtain ⟨armL, armR⟩ := enterSizing_arms (s := s) v
  exact react_of_sizing (by rw [enterSizing_motion]) (by rw [enterSizing_motion]; exact hlo) (by rw [armL]; exact hl)
    (by rw [armR]; exact hr)

/-- With an arm not NORMAL the thread check goes on. -/
theorem settle_enterSizing_of_unchecked (hlo : s.motion.locate = none) (hl : s.armL.state ≠ .over) (hr : s.armR.state ≠ .over)
    (unchecked : ¬(s.armL.state = .normal ∧ s.armR.state = .normal)) : (s.enterSizing v).settle = (s.enterSizing v).syncLoop := by
  obtain ⟨armL, armR⟩ := enterSizing_arms (s := s) v
  refine settle_of_none ((react_enterSizing hlo hl hr).trans ?_)
  unfold State.reactSizing
  rw [enterSizing_motion, armL, armR]
  exact if_neg unchecked

/-- The check passed at once: what sizing does then is due. -/
theorem react_enterSizing_of_normal (hlo : s.motion.locate = none) (hl : s.armL.state = .normal) (hr : s.armR.state = .normal) :
    (s.enterSizing v).react = some (match v with
      | .size => (s.enterSizing v).beginMeasure ⟨.threadCheck, v, s.position.pos, s.now, 0⟩
      | .wake => (s.enterSizing v).enter .stopped) := by
  obtain ⟨armL, armR⟩ := enterSizing_arms (s := s) v
  rw [react_enterSizing hlo (by simp [hl]) (by simp [hr])]
  unfold State.reactSizing
  rw [enterSizing_motion, armL, armR]
  cases v <;> exact if_pos ⟨hl, hr⟩

/-- Size Reels with both arms NORMAL comes to MEASURE. -/
theorem settle_enterSizing_size (hlo : s.motion.locate = none) (hl : s.armL.state = .normal) (hr : s.armR.state = .normal)
    (conf : s.reelL.conf = 0) : (s.enterSizing .size).settle =
      ((s.enterSizing .size).beginMeasure ⟨.threadCheck, .size, s.position.pos, s.now, 0⟩).syncLoop := by
  obtain ⟨armL, armR⟩ := enterSizing_arms (s := s) .size
  refine settle_of_some (react_enterSizing_of_normal hlo hl hr) ?_
  have left : (s.enterSizing .size).reelL.conf = 0 := by
    obtain ⟨-, ⟨-, kept, -⟩, -⟩ := sameModel_of_backdrop (enterSizing_backdrop (s := s) .size)
    rw [kept, conf]
  have motion := enterSizing_motion (s := s) .size
  generalize s.enterSizing .size = u at *
  rw [react_of_sizing (by rw [State.beginMeasure, motion]) (by rw [State.beginMeasure, motion]; exact hlo)
    (by simp [State.beginMeasure, armL, hl]) (by simp [State.beginMeasure, armR, hr])]
  simp [State.reactSizing, State.beginMeasure, motion, armL, armR, hl, hr, left]

/-- A Wake with both arms NORMAL comes to STOPPED. -/
theorem settle_enterSizing_wake (hlo : s.motion.locate = none) (hl : s.armL.state = .normal) (hr : s.armR.state = .normal)
    (queue : s.motion.queue = []) : (s.enterSizing .wake).settle = ((s.enterSizing .wake).enter .stopped).syncLoop := by
  obtain ⟨armL, armR⟩ := enterSizing_arms (s := s) .wake
  exact settle_of_some (react_enterSizing_of_normal hlo hl hr) (react_none_of_rest (.inl (by rw [enter_motion]))
    (by rw [enter_armL, armL, hl]) (by rw [enter_armR, armR, hr]) (by rw [enter_motion, enterSizing_motion]; exact queue))

/-- What an accepted Size Reels leaves of the sequencer. -/
theorem sizing_motion (hlo : s.motion.locate = none) (hl : s.armL.state ≠ .over) (hr : s.armR.state ≠ .over)
    (conf : s.reelL.conf = 0) : (s.enterSizing .size).settle.motion = { (s.enterSizing .size).motion with
      sizing := some ⟨if s.armL.state = .normal ∧ s.armR.state = .normal then .measure else .threadCheck, .size, s.position.pos,
        s.now, 0⟩ } := by
  split
  · rename_i normal
    rw [settle_enterSizing_size hlo normal.1 normal.2 conf, syncLoop_motion, State.beginMeasure, enterSizing_now]
  · rename_i unchecked
    rw [settle_enterSizing_of_unchecked hlo hl hr unchecked, syncLoop_motion, enterSizing_motion]

/-! ### The kinds that a Clear Fault leaves (R176) -/

theorem clearFault_of_none (h : s.remaining = []) : s.clearFault =
    State.ok (State.settle (State.enter
      { s.clearKinds with faults := { s.clearKinds.faults with primary := none } } .unthreaded)) [] := by
  unfold State.clearFault
  rw [h]

theorem clearFault_of_some (h : s.remaining ≠ []) :
    s.clearFault = ⟨s.clearKinds, .faultPersists, faultBytes s.remaining, false⟩ := by
  unfold State.clearFault
  split
  · contradiction
  · rename_i left
    rw [left]

theorem clearKinds_keeps : s.clearKinds.motion = s.motion ∧ s.clearKinds.faults = { s.faults with set := s.remaining } := by
  unfold State.clearKinds
  dsimp only
  split <;> exact ⟨rfl, rfl⟩

/-- UNTHREADED entered at the end of a step stays, with the latched faults as they were. -/
theorem settle_enter_unthreaded (s : State) : (s.enter .unthreaded).settle.motion.state = .unthreaded ∧
    (s.enter .unthreaded).settle.faults.set = s.faults.set ∧ (s.enter .unthreaded).settle.faults.primary = s.faults.primary := by
  have state : (s.enter .unthreaded).motion.state = .unthreaded := by rw [enter_motion]
  obtain ⟨set, primary⟩ : Group.faults.Same s (s.enter .unthreaded) := enter_latched (by decide)
  rw [settle_of_none (react_none_of_parked (.inr state)), syncLoop_motion, syncLoop_faults]
  exact ⟨state, set, primary⟩

/-- With no kind left the faults are gone, in UNTHREADED. -/
theorem clearFault_emptied (h : s.remaining = []) : s.clearKinds.SameModel s.clearFault.state ∧
    s.clearFault.state.motion.state = .unthreaded ∧ s.clearFault.state.faults.set = [] ∧
    s.clearFault.state.faults.primary = none := by
  rw [clearFault_of_none h]
  obtain ⟨state, set, primary⟩ := settle_enter_unthreaded
    { s.clearKinds with faults := { s.clearKinds.faults with primary := none } }
  exact ⟨sameModel_of_backdrop (settle_backdrop.trans ((enter_backdrop _).trans rfl)), state,
    set.trans ((congrArg Faults.set clearKinds_keeps.2).trans h), primary⟩

/-- A TAPE_BREAK or RADIUS_LOST in the set starts the estimates again (R32). -/
theorem clearKinds_restarted (h : .tapeBreak ∈ s.faults.set ∨ .radiusLost ∈ s.faults.set) :
    s.restartReels.SameModel s.clearKinds := by
  unfold State.clearKinds
  rw [if_pos h]
  exact ⟨Group.same_refl .profile s.restartReels, Group.same_refl .estimates s.restartReels⟩

theorem clearKinds_kept (broken : .tapeBreak ∉ s.faults.set) (lost : .radiusLost ∉ s.faults.set) : s.SameModel s.clearKinds := by
  unfold State.clearKinds
  rw [if_neg (not_or_intro broken lost)]
  exact ⟨Group.same_refl .profile s, Group.same_refl .estimates s⟩

/-- Both reels' confidences and estimates are those of another state. -/
def State.SameReels (s t : State) : Prop := t.reelL.conf = s.reelL.conf ∧ t.reelR.conf = s.reelR.conf ∧
  t.reelL.rEst = s.reelL.rEst ∧ t.reelR.rEst = s.reelR.rEst

theorem State.SameModel.reels (h : s.SameModel t) : s.SameReels t := by
  obtain ⟨-, ⟨estL, confL, -⟩, ⟨estR, confR, -⟩, -⟩ := h
  exact ⟨confL, confR, estL, estR⟩

theorem State.SameReels.trans {u : State} (h : s.SameReels t) (k : t.SameReels u) : s.SameReels u := by
  obtain ⟨confL, confR, estL, estR⟩ := h
  obtain ⟨confL', confR', estL', estR'⟩ := k
  exact ⟨confL'.trans confL, confR'.trans confR, estL'.trans estL, estR'.trans estR⟩

theorem clearFault_set : s.clearFault.state.faults.set = s.remaining := by
  by_cases h : s.remaining = []
  · obtain ⟨-, -, set, -⟩ := clearFault_emptied h
    rw [set, h]
  · rw [clearFault_of_some h]
    exact congrArg Faults.set clearKinds_keeps.2

theorem clearFault_reels : s.clearKinds.SameReels s.clearFault.state := by
  by_cases h : s.remaining = []
  · exact (clearFault_emptied h).1.reels
  · rw [clearFault_of_some h]
    exact ⟨rfl, rfl, rfl, rfl⟩

/-! ### What the accepted requests leave -/

theorem settle_enterSizing_reels : s.SameReels (s.enterSizing v).settle :=
  (sameModel_of_backdrop (settle_backdrop.trans (enterSizing_backdrop v))).reels

/-- What a Wake accepted in STANDBY leaves (R110). -/
theorem wake_outcome (hlo : s.motion.locate = none) (queue : s.motion.queue = []) (hl : s.armL.state ≠ .over)
    (hr : s.armR.state ≠ .over) : (s.enterSizing .wake).settle.watch = none ∧
      (s.enterSizing .wake).settle.motion.brakeRelease = true ∧
      (s.armL.state = .normal ∧ s.armR.state = .normal →
        (s.enterSizing .wake).settle.motion.state = .stopped ∧ (s.enterSizing .wake).settle.motion.sizing = none) ∧
      (s.armL.state = .slack ∨ s.armR.state = .slack → (s.enterSizing .wake).settle.motion.state = .sizing ∧
        (s.enterSizing .wake).settle.motion.sizing = some ⟨.threadCheck, .wake, s.position.pos, s.now, 0⟩) := by
  by_cases normal : s.armL.state = .normal ∧ s.armR.state = .normal
  · rw [settle_enterSizing_wake hlo normal.1 normal.2 queue, syncLoop_watch, syncLoop_motion, enter_motion]
    exact ⟨enter_watch (by decide) (by decide), rfl, fun _ => ⟨rfl, rfl⟩, fun slack => by simp [normal] at slack⟩
  · rw [settle_enterSizing_of_unchecked hlo hl hr normal, syncLoop_watch, syncLoop_motion, enterSizing_motion]
    exact ⟨enter_watch (by decide) (by decide), rfl, fun both => absurd both normal, fun _ => ⟨rfl, rfl⟩⟩

/-! ### The obligation -/

/-- Settles O54: Size Reels by `sizing_motion`, Wake by `wake_outcome`, Clear Fault by `clearFault_emptied` or
`clearFault_of_some`. -/
theorem sizeWakeClear : Obligations.SizeWakeClear := by
  intro s t r empty grants
  refine ⟨fun takes => ?_, fun takes => ?_, fun left takes hleft => ?_⟩
  · rw [sizeReels_eq takes grants empty]
    refine ⟨fun invalid => ?_, fun valid threaded busy => ?_, fun valid state hlo hl hr => ?_⟩
    · rw [invalid]
      rfl
    · rw [valid, maySize_eq_false threaded busy]
      rfl
    · have may : t.maySize = true := by rw [State.maySize, state]; rfl
      have motion := sizing_motion (s := t.restartReels) hlo hl hr rfl
      obtain ⟨confL, confR, estL, estR⟩ := settle_enterSizing_reels (s := t.restartReels) (v := .size)
      rw [enterSizing_motion] at motion
      rw [valid, may]
      exact ⟨(t.restartReels.enterSizing .size).settle, rfl, by rw [motion], by rw [motion], by rw [motion]; rfl,
        confL, confR, estL, estR, by rw [motion]; rfl⟩
  · rw [wake_eq takes grants empty]
    refine ⟨fun parked => by rw [decide_eq_false parked]; rfl, fun parked hlo queue hl hr => ?_⟩
    obtain ⟨watch, brakes, stops, checks⟩ := wake_outcome hlo queue hl hr
    obtain ⟨confL, confR, estL, estR⟩ := settle_enterSizing_reels (s := t) (v := .wake)
    rw [decide_eq_true parked]
    exact ⟨_, rfl, watch, brakes, confL, confR, estL, estR, stops, checks⟩
  · have remaining : left = t.remaining := hleft.trans (List.filter_congr fun k _ => by cases k <;> rfl)
    rw [clearFault_eq takes grants empty, remaining]
    refine ⟨fun state => by rw [decide_eq_false state]; rfl, fun state => ?_⟩
    rw [decide_eq_true state, check_true, checked_none]
    refine ⟨t.clearFault.state, clearFault_set, fun held => (clearKinds_restarted held).reels.trans clearFault_reels,
      fun broken lost => (clearKinds_kept broken lost).reels.trans clearFault_reels, fun cleared => ?_, fun persists => ?_⟩
    · obtain ⟨-, state, -, primary⟩ := clearFault_emptied cleared
      exact ⟨by rw [clearFault_of_none cleared]; rfl, primary, state⟩
    · obtain ⟨motion, faults⟩ := clearKinds_keeps (s := t)
      rw [clearFault_of_some persists, faultBytes_eq, enc1_natCast]
      exact ⟨rfl, by rw [faults], motion⟩

end Sys2Proof.Machine
end

section
/-! The sizes of the tables, queues and histories: the operations that a command is made of keep them. -/

namespace Sys2Proof.Machine
variable {s t : State} {n : Link → Nat}

/-! ### Sizes -/

/-- The sizes of `TablesWf`, with a bound of its own on the receive queue of each link. -/
structure State.SizesOk (s : State) (n : Link → Nat) : Prop where
  locate      : s.position.locate.length = 32
  zones       : s.zones.entries.length = 8
  comps       : s.comps.length = 4
  latches     : ∀ l, (s.port l).latches.length = 16
  frames      : ∀ l, (s.port l).occupancy ≤ n l
  queue       : s.motion.queue.length ≤ 16
  completions : s.motion.completions.length ≤ 16
  rollerHist  : s.speed.hist.length = 32
  capstanHist : s.capstan.hist.length = 32
  schedule    : s.conv.schedule.length = 16
  waiting     : ∀ l, s.conv.pendingSchedule = some l → l.length = 16
  slot        : s.conv.ptr < 16
  cueHist     : s.cue.hist.length ≤ 8
  channels    : s.capture.state ≠ .idle → 1 ≤ s.capture.channels.length ∧ s.capture.channels.length ≤ 4
  samples     : s.capture.samples.length ≤ captureCapacity s.capture.channels.length

theorem sizes_ite {p : Prop} [Decidable p] {u v : State} (hu : p → u.SizesOk n) (hv : ¬p → v.SizesOk n) :
    (if p then u else v).SizesOk n := by
  split
  · exact hu ‹_›
  · exact hv ‹_›

/-! ### Links, comparators -/

/-- A link replaced by one whose latches and frames are as many as they may be. -/
theorem withPort_sizes (h : s.SizesOk n) (l : Link) {p : LinkPort} (latches : p.latches.length = 16)
    (frames : p.occupancy ≤ n l) : (s.withPort l p).SizesOk n := by
  cases l
  · exact { h with
      latches := fun
        | .deck => latches
        | .service => h.latches .service
      frames := fun
        | .deck => frames
        | .service => h.frames .service }
  · exact { h with
      latches := fun
        | .deck => h.latches .deck
        | .service => latches
      frames := fun
        | .deck => h.frames .deck
        | .service => frames }

theorem offer_length (p : LinkPort) (src : Source) (v x : Int) : (p.offer src v x).latches.length = p.latches.length := by
  unfold LinkPort.offer
  split
  · exact List.length_set
  · rfl

theorem offer_occupancy (p : LinkPort) (src : Source) (v x : Int) : (p.offer src v x).occupancy = p.occupancy := by
  unfold LinkPort.offer
  split <;> rfl

theorem reportTo_sizes (h : s.SizesOk n) (l : Link) (src : Source) (v x : Int) : (s.reportTo l src v x).SizesOk n :=
  withPort_sizes h l ((offer_length ..).trans (h.latches l)) ((offer_occupancy ..).trans_le (h.frames l))

theorem report_sizes (h : s.SizesOk n) (src : Source) (v : Int) : (s.report src v).SizesOk n := reportTo_sizes h ..

theorem freeComp_sizes (h : s.SizesOk n) (i : Option Nat) : (s.freeComp i).SizesOk n := by
  cases i
  · exact h
  · exact { h with comps := List.length_set.trans h.comps }

theorem setComp_sizes (h : s.SizesOk n) (i : Nat) (c : Comparator) : (s.setComp i c).SizesOk n :=
  { h with comps := List.length_set.trans h.comps }

/-! ### The Capture Unit -/

theorem captureDone_sizes (h : s.SizesOk n) (under : s.capture.state ≠ .idle) (r : DoneReason) :
    (s.captureDone r).SizesOk n := by
  have done : State.SizesOk { s with capture :=
      { s.capture with state := .done, reason := some r, startComp := none, endComp := none } } n :=
    { h with channels := fun _ => h.channels under }
  have freed := freeComp_sizes (freeComp_sizes done s.capture.startComp) s.capture.endComp
  unfold State.captureDone
  dsimp only
  split
  · exact reportTo_sizes freed ..
  · exact freed

theorem captureRun_sizes (h : s.SizesOk n) (under : s.capture.state ≠ .idle) : s.captureRun.SizesOk n := by
  have running : State.SizesOk { s with capture := { s.capture with state := .running, phase := 0 } } n :=
    { h with channels := fun _ => h.channels under }
  unfold State.captureRun
  dsimp only
  split
  · exact { running with comps := (List.length_modify ..).trans h.comps }
  · exact running

theorem captureTrigger_sizes (h : s.SizesOk n) : s.captureTrigger.SizesOk n := by
  refine sizes_ite (fun running => freeComp_sizes ?_ _) fun _ => h
  exact { h with channels := fun _ => h.channels (by rw [running.2]; nofun) }

theorem captureIdle_sizes (h : s.SizesOk n) : s.captureIdle.SizesOk n := by
  refine freeComp_sizes (freeComp_sizes ?_ _) _
  exact { h with channels := fun under => absurd rfl under, samples := Nat.zero_le _ }

/-! ### Cue writes and the chase state -/

theorem endCueWrite_sizes (h : s.SizesOk n) (b : Nat) : (s.endCueWrite b).SizesOk n := by
  unfold State.endCueWrite
  split
  · exact h
  · exact report_sizes (freeComp_sizes (freeComp_sizes (by exact { h with }) _) _) ..

theorem tryCueWrite_sizes (h : s.SizesOk n) : s.tryCueWrite.SizesOk n := by
  unfold State.tryCueWrite
  split
  · exact h
  · exact sizes_ite (fun _ => { h with cueHist := Nat.zero_le 8 }) fun _ => h

theorem setChase_sizes (h : s.SizesOk n) (x : ChaseState) : (s.setChase x).SizesOk n :=
  sizes_ite (fun _ => h) fun _ => report_sizes (by exact { h with }) ..

theorem endChase_sizes (h : s.SizesOk n) : s.endChase.SizesOk n := { setChase_sizes h .inactive with }

/-! ### The queue, the completion list and the active move -/

/-- A full completion list loses its oldest record to the new one (R85). -/
theorem pushCompletion_sizes (h : s.SizesOk n) (c : Completion) : (s.pushCompletion c).SizesOk n := by
  have completions := h.completions
  refine { h with completions := ?_ }
  dsimp only [State.pushCompletion]
  split
  · rw [List.length_append, List.length_singleton]
    omega
  · rw [List.length_append, List.length_drop, List.length_singleton]
    omega

theorem dropRecord_sizes (h : s.SizesOk n) (r : MoveRecord) : (s.dropRecord r).SizesOk n :=
  pushCompletion_sizes (freeComp_sizes h _) _

theorem dropRecords_sizes (l : List MoveRecord) : ∀ {s : State}, s.SizesOk n → (l.foldl State.dropRecord s).SizesOk n := by
  induction l with
  | nil => exact id
  | cons r l ih => exact fun h => ih (dropRecord_sizes h r)

theorem discardQueue_sizes (h : s.SizesOk n) : s.discardQueue.SizesOk n :=
  { dropRecords_sizes s.motion.queue h with queue := Nat.zero_le 16 }

theorem endActive_sizes (h : s.SizesOk n) (res : MoveResult) : (s.endActive res).SizesOk n := by
  unfold State.endActive
  split
  · rename_i a r rest _ records
    have chase := sizes_ite (p := a.kind = .chase) (fun _ => endChase_sizes h) fun _ => h
    have pushed := pushCompletion_sizes (freeComp_sizes chase r.comp) ⟨r.id, res, s.position.pos, s.timeAt s.position.pos,
      s.elapsedSince a.start, a.derated, if res.discards then rest.length else 0, false⟩
    have room : rest.length ≤ 16 := (Nat.le_succ _).trans (by simpa [records] using h.queue)
    exact sizes_ite (fun _ => discardQueue_sizes (by exact { pushed with queue := room })) fun _ => { pushed with queue := room }
  · exact h

theorem endAll_sizes (h : s.SizesOk n) (res : MoveResult) : (s.endAll res).SizesOk n := by
  unfold State.endAll
  split
  · exact endActive_sizes h res
  · exact discardQueue_sizes h

/-! ### Entries into the transport states -/

theorem leavePlaying_sizes (h : s.SizesOk n) : s.leavePlaying.SizesOk n :=
  sizes_ite (fun _ => endCueWrite_sizes (by exact { h with }) 3) fun _ => { h with }

theorem arrivePlaying_sizes (h : s.SizesOk n) : s.arrivePlaying.SizesOk n :=
  tryCueWrite_sizes (sizes_ite (fun _ => setChase_sizes (by exact { h with }) _) fun _ => h)

theorem brake_sizes (h : s.SizesOk n) : s.brake.SizesOk n := { h with }

theorem enter_sizes (h : s.SizesOk n) (x : Transport) : (s.enter x).SizesOk n := by
  have left := sizes_ite (p := s.motion.state = .playing ∧ x ≠ .playing) (fun _ => leavePlaying_sizes h) fun _ => h
  have braked : ∀ u : State, u.SizesOk n → (if x.braked then u.brake else u).SizesOk n :=
    fun u hu => sizes_ite (fun _ => brake_sizes hu) fun _ => hu
  exact sizes_ite (fun _ => arrivePlaying_sizes (braked _ { left with })) fun _ => braked _ { left with }

theorem enterHalting_sizes (h : s.SizesOk n) (b : Bool) (d : HaltDest) : (s.enterHalting b d).SizesOk n :=
  { discardQueue_sizes (enter_sizes h .halting) with }

theorem queueEmptied_sizes (h : s.SizesOk n) : s.queueEmptied.SizesOk n := by
  unfold State.queueEmptied
  split
  case h_1 | h_2 => exact enterHalting_sizes h ..
  case h_3 | h_4 => exact { h with }
  all_goals exact h

theorem failMove_sizes (h : s.SizesOk n) (res : MoveResult) : (s.failMove res).SizesOk n :=
  queueEmptied_sizes (endActive_sizes h res)

theorem stopTransport_sizes (h : s.SizesOk n) : s.stopTransport.SizesOk n := by
  unfold State.stopTransport
  split
  case h_1 => exact sizes_ite (fun _ => h) fun _ => enterHalting_sizes h ..
  case h_2 | h_3 => exact enterHalting_sizes h ..
  case h_4 | h_5 => exact { h with }
  case h_6 => exact report_sizes (enterHalting_sizes h ..) ..
  all_goals exact h

/-! ### Moves -/

theorem onActive_sizes (h : s.SizesOk n) (f : ActiveMove → ActiveMove) : (s.onActive f).SizesOk n := { h with }

theorem goWinding_sizes (h : s.SizesOk n) : s.goWinding.SizesOk n := by
  unfold State.goWinding
  split
  case h_1 | h_2 => exact enter_sizes h _
  all_goals exact h

theorem goPlaying_sizes (h : s.SizesOk n) : s.goPlaying.SizesOk n := by
  unfold State.goPlaying
  split
  case h_1 => exact enter_sizes h _
  all_goals exact h

theorem beginSeek_sizes (h : s.SizesOk n) (fr : Nat) : (s.beginSeek fr).SizesOk n := by
  unfold State.beginSeek
  dsimp only
  split
  · exact failMove_sizes h _
  · exact goWinding_sizes { onActive_sizes h (fun a => { a with reversals := 0 }) with }

theorem startChase_sizes (h : s.SizesOk n) : s.startChase.SizesOk n := by
  have started : State.SizesOk { s with chase := { s.chase with e := s.startError } } n := { h with }
  unfold State.startChase
  dsimp only
  split
  · split
    · exact failMove_sizes h _
    · split
      · exact beginSeek_sizes (setChase_sizes started _) _
      · exact sizes_ite (fun _ => goPlaying_sizes (setChase_sizes started _)) fun _ =>
          beginSeek_sizes (setChase_sizes started _) _
  · exact goPlaying_sizes (setChase_sizes started _)

/-- The record that becomes active stays the oldest of as many. -/
theorem makeActive_sizes (h : s.SizesOk n) (r : MoveRecord) (x : Option Int) : (s.makeActive r x).SizesOk n := by
  have records : (match s.motion.queue with
      | q :: rest => { q with resolved := x } :: rest
      | [] => []).length ≤ 16 := by
    refine Nat.le_trans (Nat.le_of_eq ?_) h.queue
    split <;> simp [*]
  unfold State.makeActive
  dsimp only
  split
  · exact setComp_sizes (by exact { h with queue := records }) ..
  · exact { h with queue := records }

theorem startMove_sizes (h : s.SizesOk n) (r : MoveRecord) (x : Option Int) : (s.startMove r x).SizesOk n := by
  unfold State.startMove
  split
  · exact goWinding_sizes h
  · exact goWinding_sizes { h with }
  · exact goPlaying_sizes h
  · exact startChase_sizes h
  · exact h

theorem activateNext_sizes (k : Nat) : ∀ {s : State}, s.SizesOk n → (s.activateNext k).SizesOk n := by
  induction k with
  | zero => exact id
  | succ k ih =>
    intro s h
    unfold State.activateNext
    split
    · exact queueEmptied_sizes h
    · split
      · exact failMove_sizes (makeActive_sizes h ..) _
      · exact sizes_ite (fun _ => ih (endActive_sizes (makeActive_sizes h ..) _)) fun _ =>
          sizes_ite (fun _ => ih (endActive_sizes (makeActive_sizes h ..) _)) fun _ =>
            startMove_sizes (makeActive_sizes h ..) ..

theorem activate_sizes (h : s.SizesOk n) : s.activate.SizesOk n := activateNext_sizes _ h

theorem finishMove_sizes (h : s.SizesOk n) (res : MoveResult) : (s.finishMove res).SizesOk n :=
  activate_sizes (endActive_sizes h res)

theorem supersede_sizes (h : s.SizesOk n) : s.supersede.SizesOk n := by
  unfold State.supersede
  split
  · exact sizes_ite (fun _ => finishMove_sizes h _) fun _ => h
  · exact h

theorem passTarget_sizes (h : s.SizesOk n) (l : LocateCtx) : (s.passTarget l).SizesOk n := by
  have counted : s.countPass.SizesOk n := by
    unfold State.countPass
    split
    · exact { h with }
    · exact onActive_sizes h _
  refine sizes_ite (fun _ => { counted with }) fun _ => ?_
  unfold State.overshoot
  split
  · exact report_sizes (enterHalting_sizes h ..) ..
  · exact failMove_sizes h _

theorem settleEnd_sizes (h : s.SizesOk n) (l : LocateCtx) : (s.settleEnd l).SizesOk n := by
  refine sizes_ite (fun _ => ?_) fun _ => sizes_ite (fun _ => passTarget_sizes h l) fun _ => { h with }
  split
  · exact report_sizes (enter_sizes h _) ..
  · split
    · exact { h with }
    · exact finishMove_sizes h _

/-! ### Faults -/

theorem faultRequest_sizes (h : s.SizesOk n) (c : FaultClass) : (s.faultRequest c).SizesOk n := by
  have ended := sizes_ite (p := s.motion.state = .sizing) (fun _ => report_sizes (endAll_sizes h .faulted) .sizingDone 3)
    fun _ => endAll_sizes h .faulted
  unfold State.faultRequest
  dsimp only
  split
  · split
    case h_1 | h_2 => exact ended
    all_goals exact enter_sizes ended _
  · split
    case h_9 | h_10 | h_11 => exact ended
    case h_7 | h_8 => exact enter_sizes ended _
    all_goals exact enterHalting_sizes ended ..

theorem latchFault_sizes (h : s.SizesOk n) (k : FaultKind) : (s.latchFault k).SizesOk n := by
  have triggered : ∀ u : State, u.SizesOk n → (if u.capture.trigger = .fault then u.captureTrigger else u).SizesOk n :=
    fun u hu => sizes_ite (fun _ => captureTrigger_sizes hu) fun _ => hu
  exact sizes_ite (fun _ => h) fun _ => faultRequest_sizes (triggered _ (report_sizes (by exact { h with }) ..)) _

theorem latchIf_sizes (h : s.SizesOk n) (b : Bool) (k : FaultKind) : (s.latchIf b k).SizesOk n :=
  sizes_ite (fun _ => latchFault_sizes h k) fun _ => h

theorem readInputs_sizes (h : s.SizesOk n) : s.readInputs.SizesOk n :=
  latchIf_sizes (latchIf_sizes (latchIf_sizes (latchIf_sizes h ..) ..) ..) ..

/-! ### Reactions -/

theorem reactTension_sizes (h : s.SizesOk n) (ht : s.reactTension = some t) : t.SizesOk n := by
  unfold State.reactTension at ht
  dsimp only at ht
  split at ht
  · cases ht; exact latchFault_sizes h _
  · split at ht
    · cases ht; exact latchFault_sizes h _
    · split at ht
      · cases ht; exact latchFault_sizes h _
      · split at ht <;> cases ht
        exact enter_sizes (endAll_sizes h _) _

theorem reactSizing_sizes (h : s.SizesOk n) (ht : s.reactSizing = some t) : t.SizesOk n := by
  have noTape : ((s.enterHalting false .unthreaded).sizingDone 1).SizesOk n := report_sizes (enterHalting_sizes h ..) ..
  unfold State.reactSizing at ht
  split at ht
  · split at ht
    · split at ht
      · split at ht <;> cases ht
        · exact { h with }
        · exact enter_sizes h _
      · cases ht
    · split at ht
      · cases ht; exact noTape
      · split at ht <;> cases ht
        exact { h with }
    · split at ht <;> cases ht
      exact noTape
  · cases ht

theorem engaged_sizes (h : s.SizesOk n) : s.engaged.SizesOk n := by
  unfold State.engaged
  split
  · split
    case h_3 => exact sizes_ite (fun _ => enter_sizes h _) fun _ => enter_sizes h _
    all_goals exact enter_sizes h _
  · exact enter_sizes h _

theorem released_sizes (h : s.SizesOk n) : s.released.SizesOk n := { h with }

theorem leaveReleasing_sizes (h : s.SizesOk n) : s.leaveReleasing.SizesOk n := by
  have free := released_sizes h
  unfold State.leaveReleasing
  dsimp only
  split
  · exact sizes_ite (fun _ => enter_sizes free _) fun _ => enter_sizes free _
  · exact sizes_ite (fun _ => enter_sizes (by exact { free with }) _) fun _ => enterHalting_sizes free ..

theorem reactPinch_sizes (h : s.SizesOk n) (ht : s.reactPinch = some t) : t.SizesOk n := by
  unfold State.reactPinch at ht
  split at ht
  · cases ht
  · split at ht
    case h_1 => split at ht <;> cases ht; exact engaged_sizes h
    case h_2 => split at ht <;> cases ht; exact leaveReleasing_sizes h
    case h_3 => split at ht <;> cases ht; exact { released_sizes h with }
    all_goals cases ht

theorem reactHalting_sizes (h : s.SizesOk n) (ht : s.reactHalting = some t) : t.SizesOk n := by
  unfold State.reactHalting at ht
  split at ht
  · split at ht
    · split at ht
      · cases ht
        refine sizes_ite (fun _ => enter_sizes h _) fun _ => ?_
        split <;> exact enter_sizes h _
      · split at ht <;> cases ht
        exact { h with }
    · cases ht
  · cases ht

theorem reactBraking_sizes (h : s.SizesOk n) (ht : s.reactBraking = some t) : t.SizesOk n := by
  unfold State.reactBraking at ht
  split at ht <;> cases ht
  exact enter_sizes h _

theorem reactHold_sizes (h : s.SizesOk n) (ht : s.reactHold = some t) : t.SizesOk n := by
  unfold State.reactHold at ht
  split at ht
  · split at ht
    · split at ht
      · cases ht; exact enter_sizes h _
      · split at ht <;> cases ht; exact enter_sizes h _
    · cases ht
  · cases ht

theorem reactSettled_sizes (h : s.SizesOk n) (ht : s.reactSettled = some t) : t.SizesOk n := by
  unfold State.reactSettled at ht
  split at ht
  · split at ht <;> cases ht; exact settleEnd_sizes h _
  · cases ht

theorem reactQueue_sizes (h : s.SizesOk n) (ht : s.reactQueue = some t) : t.SizesOk n := by
  unfold State.reactQueue at ht
  split at ht <;> cases ht
  exact activate_sizes h

theorem react_sizes (h : s.SizesOk n) (ht : s.react = some t) : t.SizesOk n := by
  rcases react_cases ht with ht | ht | ht | ht | ht | ht | ht | ht
  · exact reactTension_sizes h ht
  · exact reactSizing_sizes h ht
  · exact reactPinch_sizes h ht
  · exact reactHalting_sizes h ht
  · exact reactBraking_sizes h ht
  · exact reactHold_sizes h ht
  · exact reactSettled_sizes h ht
  · exact reactQueue_sizes h ht

theorem syncLoop_sizes (h : s.SizesOk n) : s.syncLoop.SizesOk n := sizes_ite (fun _ => { h with }) fun _ => { h with }

theorem settle_sizes (h : s.SizesOk n) : s.settle.SizesOk n :=
  syncLoop_sizes (reactions_keep (P := (State.SizesOk · n)) (fun _ _ => react_sizes) 64 s h)

end Sys2Proof.Machine
end

section
/-! What waits for a link's transmitter (R182), and what an idle transmitter leaves waiting. -/

namespace Sys2Proof.Machine
variable {s t : State} {n : Link → Nat} {w : List Group} {k l : Link}

/-! ### The transmitters (R182) -/

/-- Nothing waits for a link whose transmitter is idle. -/
def State.Served (s : State) (l : Link) : Prop := (s.port l).sending = none → s.NothingWaits l

/-- In a running part nothing waits for an idle transmitter (R182). -/
def State.ArbiterOk (s : State) : Prop := s.startup.phase = .running → ∀ l, s.Served l

theorem served_of_sending {o : Outgoing} (h : (s.port l).sending = some o) : s.Served l := fun idle => by
  rw [h] at idle
  cases idle

theorem sendEvent_sends {p : LinkPort} {i : Nat} (h : pendingSource p.latches = some i) : (p.sendEvent i).sending ≠ none := by
  obtain ⟨lt, pending, -⟩ := List.findIdx?_eq_some_iff_getElem.1 h
  unfold LinkPort.sendEvent
  rw [List.getD_eq_getElem?_getD, List.getElem?_eq_getElem lt, Option.getD_some]
  split
  · nofun
  · rename_i none
    rw [none] at pending
    cases pending

/-- A link that takes no notice and no report has none. -/
theorem chooseNotice_idle {p : LinkPort} (h : p.chooseNotice.sending = none) :
    p.chooseNotice = p ∧ (∀ x, some x ∈ p.latches → x.notice = false) ∧ p.report = none := by
  unfold LinkPort.chooseNotice at h ⊢
  split at h
  · exact absurd h (sendEvent_sends ‹_›)
  · rename_i quiet
    split at h
    · cases h
    · exact ⟨by simp [*], fun x hx => List.findIdx?_eq_none_iff.1 quiet (some x) hx, ‹_›⟩

theorem chooseNotice_served (notice : (s.port l).notice = none) (replies : (s.port l).replies = [])
    (completions : s.noticeLink = l → s.motion.completions = []) : (s.withPort l (s.port l).chooseNotice).Served l := by
  intro idle
  rw [State.withPort_port] at idle
  obtain ⟨same, latches, report⟩ := chooseNotice_idle idle
  rw [same, withPort_port]
  exact ⟨notice, replies, completions, latches, report⟩

/-- An idle transmitter takes what waits: it sends, or nothing waits (R182). -/
theorem feed_served (running : s.startup.phase = .running) (l : Link) : (s.feed l).Served l := by
  have receiving : s.receiving = true := decide_eq_true running
  unfold State.feed
  split
  · exact served_of_sending ‹_›
  · unfold State.chooseNext State.chooseFrame
    rw [if_pos receiving]
    dsimp only
    split
    · exact served_of_sending (by rw [State.withPort_port]; rfl)
    · split
      · exact served_of_sending (by rw [State.withPort_port])
      · split
        · split
          · exact served_of_sending (by rw [State.withPort_port]; rfl)
          · exact chooseNotice_served ‹_› ‹_› fun _ => ‹_›
        · exact chooseNotice_served ‹_› ‹_› fun same => absurd same ‹_›

theorem withPort_port_other (h : k ≠ l) (p : LinkPort) : (s.withPort l p).port k = s.port k := by
  cases k <;> cases l <;> first | exact absurd rfl h | rfl

/-- What one link's transmitter takes leaves the other link served. -/
theorem feed_served_other (h : s.Served k) (other : k ≠ l) : (s.feed l).Served k := by
  obtain ⟨p, -, e | ⟨c, rest, -, notice, e⟩⟩ := feed_cases s l
  · rw [e]
    intro idle
    rw [withPort_port_other other] at idle
    obtain ⟨h1, h2, h3, h4, h5⟩ := h idle
    refine ⟨?_, ?_, ?_, ?_, ?_⟩ <;> simpa only [withPort_port_other other, State.withPort_noticeLink, State.withPort_motion]
  · rw [e]
    intro idle
    rw [withPort_port_other other] at idle
    have idle' : (s.port k).sending = none := by cases k <;> exact idle
    obtain ⟨h1, h2, -, h4, h5⟩ := h idle'
    have away : s.noticeLink = k → rest = [] := fun same => absurd (same.symm.trans notice) other
    refine ⟨?_, ?_, ?_, ?_, ?_⟩ <;> simp only [withPort_port_other other, State.withPort_noticeLink, State.withPort_motion]
    · cases k <;> exact h1
    · cases k <;> exact h2
    · exact away
    · cases k <;> exact h4
    · cases k <;> exact h5

/-- At the end of a step in which something may come to wait nothing waits for an idle transmitter (R182). -/
theorem handOver_arbiter : s.handOver.ArbiterOk := by
  intro running
  have begun : s.startup.phase = .running := by rwa [handOver_startup] at running
  have deck : (s.feed .deck).startup.phase = .running := by
    rwa [feed_field (l := .deck) (·.startup) (fun _ _ => rfl) fun _ _ => rfl]
  exact fun
    | .deck => feed_served_other (feed_served begun .deck) nofun
    | .service => feed_served deck .service

/-- The registers on which it rests whether something waits for an idle transmitter. -/
def waitingGroups : List Group := [.start, .replies, .latches, .reports, .transmitters, .moves, .ownership]

theorem arbiter_of_sameBut (h : s.ArbiterOk) (e : State.SameBut w s t) (m : ∀ g ∈ waitingGroups, g ∉ w) : t.ArbiterOk := by
  have start : t.startup = s.startup := e.same .start (m _ (by decide))
  have owner : t.ctl.owner = s.ctl.owner := e.same .ownership (m _ (by decide))
  have link : t.noticeLink = s.noticeLink := congrArg Owner.noticeLink owner
  obtain ⟨-, -, completions⟩ := e.same .moves (m _ (by decide))
  intro running l idle
  obtain ⟨notice, sending⟩ := e.same .transmitters (m _ (by decide)) l
  obtain ⟨h1, h2, h3, h4, h5⟩ := h (start ▸ running) l (sending ▸ idle)
  exact ⟨notice.trans h1, (e.same .replies (m _ (by decide)) l).trans h2, fun here => completions.trans (h3 (link ▸ here)),
    fun x hx => h4 x (e.same .latches (m _ (by decide)) l ▸ hx), (e.same .reports (m _ (by decide)) l).trans h5⟩

theorem arbiter_of_phase (h : s.startup.phase ≠ .running) : s.ArbiterOk := fun running => absurd running h

/-! ### Sizes under the transmitters and under frames of registers -/

theorem chooseNotice_occupancy (p : LinkPort) : p.chooseNotice.occupancy = p.occupancy := by
  unfold LinkPort.chooseNotice
  split
  · unfold LinkPort.sendEvent
    split <;> rfl
  · split <;> rfl

theorem feed_sizes (h : s.SizesOk n) (l : Link) : (s.feed l).SizesOk n := by
  have notice := withPort_sizes h l ((chooseNotice_fed (s.port l)).latches.trans (h.latches l))
    ((chooseNotice_occupancy (s.port l)).trans_le (h.frames l))
  unfold State.feed State.chooseNext
  split
  · exact h
  · refine sizes_ite (fun _ => ?_) fun _ => h
    unfold State.chooseFrame
    dsimp only
    split
    · exact withPort_sizes h l (h.latches l) (h.frames l)
    · split
      · rename_i o rest replies
        have frames := h.frames l
        refine withPort_sizes h l (h.latches l) (Nat.le_trans ?_ frames)
        simp [LinkPort.occupancy, replies]
      · split
        · split
          · rename_i c rest completions
            have room := h.completions
            rw [completions, List.length_cons] at room
            exact withPort_sizes (by exact { h with completions := Nat.le_of_succ_le room }) l (h.latches l) (h.frames l)
          · exact notice
        · exact notice

theorem handOver_sizes (h : s.SizesOk n) : s.handOver.SizesOk n := feed_sizes (feed_sizes h _) _

/-- The registers that hold the tables, queues and histories. -/
def sizedGroups : List Group := [.locateTable, .zones, .comparators, .latches, .receivers, .replies, .moves, .speed,
  .capstanSpeed, .converter, .cueHistory, .captureSetup, .captureState, .samples]

theorem sizes_of_sameBut (h : s.SizesOk n) (e : State.SameBut w s t) (m : ∀ g ∈ sizedGroups, g ∉ w) : t.SizesOk n := by
  have locate : t.position.locate = s.position.locate := e.same .locateTable (m _ (by decide))
  have zones : t.zones.entries = s.zones.entries := e.same .zones (m _ (by decide))
  have comps : t.comps = s.comps := e.same .comparators (m _ (by decide))
  have conv : t.conv = s.conv := e.same .converter (m _ (by decide))
  obtain ⟨queue, -, completions⟩ := e.same .moves (m _ (by decide))
  obtain ⟨rollerHist, -⟩ := e.same .speed (m _ (by decide))
  obtain ⟨capstanHist, -⟩ := e.same .capstanSpeed (m _ (by decide))
  obtain ⟨cueHist, -⟩ := e.same .cueHistory (m _ (by decide))
  obtain ⟨-, -, channels, -⟩ := e.same .captureSetup (m _ (by decide))
  obtain ⟨state, -⟩ := e.same .captureState (m _ (by decide))
  obtain ⟨samples, -⟩ := e.same .samples (m _ (by decide))
  exact {
    locate := locate ▸ h.locate
    zones := zones ▸ h.zones
    comps := comps ▸ h.comps
    latches := fun l => e.same .latches (m _ (by decide)) l ▸ h.latches l
    frames := fun l => by
      obtain ⟨rx, -⟩ := e.same .receivers (m _ (by decide)) l
      have replies := e.same .replies (m _ (by decide)) l
      rw [LinkPort.occupancy, rx, replies]
      exact h.frames l
    queue := queue ▸ h.queue
    completions := completions ▸ h.completions
    rollerHist := rollerHist ▸ h.rollerHist
    capstanHist := capstanHist ▸ h.capstanHist
    schedule := conv ▸ h.schedule
    waiting := conv ▸ h.waiting
    slot := conv ▸ h.slot
    cueHist := cueHist ▸ h.cueHist
    channels := channels ▸ state ▸ h.channels
    samples := samples ▸ channels ▸ h.samples }

/-! ### The invariant -/

theorem State.TablesWf.sizes (h : s.TablesWf) : s.SizesOk fun _ => 4 :=
  { h with
    latches := fun
      | .deck => h.latchesD
      | .service => h.latchesS
    frames := fun
      | .deck => h.framesD
      | .service => h.framesS }

theorem tablesWf_of (h : s.SizesOk fun _ => 4) (a : s.ArbiterOk) : s.TablesWf :=
  { h with
    latchesD := h.latches .deck
    latchesS := h.latches .service
    framesD := h.frames .deck
    framesS := h.frames .service
    arbiter := a }

theorem tables_of_sameBut (h : s.TablesWf) (e : State.SameBut w s t) (m : ∀ g ∈ sizedGroups ++ waitingGroups, g ∉ w) :
    t.TablesWf :=
  tablesWf_of (sizes_of_sameBut h.sizes e fun _ k => m _ (List.mem_append_left _ k))
    (arbiter_of_sameBut h.arbiter e fun _ k => m _ (List.mem_append_right _ k))

end Sys2Proof.Machine
end

section
/-! The commands that are no requests keep the tables, and leave nothing waiting for an idle transmitter. -/

namespace Sys2Proof.Machine
variable {s t u : State} {n : Link → Nat} {w : List Group} {o q : Host.Outcome State Fault Refusal}

/-! ### Outcomes -/

/-- Every next state that an outcome gives has its tables well-formed. -/
def LeadsToTables (o : Host.Outcome State Fault Refusal) : Prop := ∀ t, o = .next t → t.TablesWf

theorem tables_next (h : t.TablesWf) : LeadsToTables (.next t) := fun _ e => by cases e; exact h

theorem tables_refused (x : Refusal) : LeadsToTables (.refused x) := fun _ e => by simp at e

theorem tables_ite {p : Prop} [Decidable p] (ho : p → LeadsToTables o) (hq : ¬p → LeadsToTables q) :
    LeadsToTables (if p then o else q) := by
  split
  · exact ho ‹_›
  · exact hq ‹_›

/-- A step at whose end the idle transmitters take what waits. -/
theorem tables_handOver (h : t.SizesOk fun _ => 4) : LeadsToTables (.next t.handOver) :=
  tables_next (tablesWf_of (handOver_sizes h) handOver_arbiter)

/-- The end of most steps: the reactions due, then the transmitters. -/
theorem tables_settled (h : t.SizesOk fun _ => 4) : LeadsToTables (.next t.settle.handOver) :=
  tables_handOver (settle_sizes h)

/-- A step outside the running part. -/
theorem tables_of_phase (h : t.SizesOk fun _ => 4) (phase : t.startup.phase ≠ .running) : LeadsToTables (.next t) :=
  tables_next (tablesWf_of h (arbiter_of_phase phase))

/-- A step that touches nothing sized and nothing that waits. -/
theorem tables_quiet (h : s.TablesWf) (e : State.SameBut w s t) (m : ∀ g ∈ sizedGroups ++ waitingGroups, g ∉ w) :
    LeadsToTables (.next t) := tables_next (tables_of_sameBut h e m)

theorem reach_sizes (h : s.SizesOk n) (x : Nat) : (s.reach x).SizesOk n := { h with }

/-! ### Reset and start-up -/

/-- A capture that outlives a reset keeps its channels and samples (R166). -/
theorem afterReset_capture (h : s.SizesOk n) (k : ResetKind) :
    ((s.capture.afterReset k).state ≠ .idle →
      1 ≤ (s.capture.afterReset k).channels.length ∧ (s.capture.afterReset k).channels.length ≤ 4) ∧
      (s.capture.afterReset k).samples.length ≤ captureCapacity (s.capture.afterReset k).channels.length := by
  have idle : ∀ c : Capture, c = Capture.idle s.capture.lastEvent →
      (c.state ≠ .idle → 1 ≤ c.channels.length ∧ c.channels.length ≤ 4) ∧
        c.samples.length ≤ captureCapacity c.channels.length := by
    rintro _ rfl
    exact ⟨fun under => absurd rfl under, Nat.zero_le _⟩
  unfold Capture.afterReset
  split
  · split
    case h_1 under | h_2 under | h_3 under => exact ⟨fun _ => h.channels (by rw [under]; nofun), h.samples⟩
    case h_4 => exact ⟨h.channels, h.samples⟩
    case h_5 => exact idle _ rfl
  · exact idle _ rfl

theorem afterReset_sizes (h : s.SizesOk n) (k : ResetKind) (ph : StartPhase) : (s.afterReset k ph).SizesOk n := by
  obtain ⟨channels, samples⟩ := afterReset_capture h k
  exact { reset_tables.sizes with
    latches := fun
      | .deck => reset_tables.latchesD
      | .service => reset_tables.latchesS
    frames := fun
      | .deck => Nat.zero_le _
      | .service => Nat.zero_le _
    channels := channels
    samples := samples }

/-- With a Start-up Notice handed over a link's transmitter is sending (R189). -/
theorem handNotice_sends (p : LinkPort) (f : Frame) : ∃ x, (p.handNotice f).sending = some x := by
  unfold LinkPort.handNotice
  split
  · exact ⟨_, rfl⟩
  · exact ⟨_, ‹_›⟩

/-- What keeps the frames being sent keeps a part whose transmitters both have their notice from letting anything wait. -/
theorem arbiter_of_notices (e : ∀ l, (t.port l).sending = (s.handNotices.port l).sending) : t.ArbiterOk := fun _ l => by
  have sends : ∃ x, (s.handNotices.port l).sending = some x := by cases l <;> exact handNotice_sends ..
  obtain ⟨x, sends⟩ := sends
  exact served_of_sending ((e l).trans sends)

theorem linkReset_tables (h : s.SizesOk fun _ => 4) (k : ResetKind) : (s.linkReset k).TablesWf := by
  have begun := sizes_of_sameBut (afterReset_sizes h k .running) handNotices_sameBut (by decide)
  have kept : State.SameBut transportGroups (s.afterReset k .running).handNotices (s.linkReset k) :=
    sameBut_of_backdrop (settle_backdrop.trans readInputs_backdrop)
  exact tablesWf_of (settle_sizes (readInputs_sizes begun))
    (arbiter_of_notices fun l => (kept.same .transmitters (by decide) l).2)

theorem execSettlePeriodEnd_tables (h : s.TablesWf) : LeadsToTables (execSettlePeriodEnd s) := by
  unfold execSettlePeriodEnd
  split
  · refine tables_of_phase (settle_sizes (readInputs_sizes (by exact { h.sizes with }))) ?_
    rw [settle_startup, (same_of_backdrop readInputs_backdrop .start (by decide) : State.startup _ = _)]
    nofun
  all_goals exact tables_next h

theorem execProfileLoadDone_tables (h : s.TablesWf) : LeadsToTables (execProfileLoadDone s) := by
  unfold execProfileLoadDone
  split
  · refine tables_next (tablesWf_of (sizes_of_sameBut h.sizes
      ((loadProfile_sameBut.trans (startup_sameBut _)).trans handNotices_sameBut) (by decide)) (arbiter_of_notices fun _ => rfl))
  all_goals exact tables_next h

theorem execResetInputRelease_tables (h : s.TablesWf) : LeadsToTables (execResetInputRelease s) := by
  unfold execResetInputRelease
  split
  · exact tables_of_phase { h.sizes with } nofun
  all_goals exact tables_next h

theorem execDeferredReset_tables (h : s.TablesWf) : LeadsToTables (execDeferredReset s) := by
  unfold execDeferredReset
  split
  · exact tables_ite (fun _ => tables_next (linkReset_tables h.sizes _)) fun _ => tables_next h
  · exact tables_next h

/-! ### Counts, rest, words -/

theorem reports_sizes (l : List Int) (src : Source) (x : Int) :
    ∀ {s : State}, s.SizesOk n → (l.foldl (fun t v => t.reportAt src v x) s).SizesOk n := by
  induction l with
  | nil => exact id
  | cons v l ih => exact fun h => ih (reportTo_sizes h ..)

theorem stepZones_sizes (h : s.SizesOk n) (d : Direction) : (s.stepZones d).SizesOk n :=
  reports_sizes _ _ _ (by exact { h with zones := List.length_map .. |>.trans h.zones })

theorem deliverHit_sizes (h : s.SizesOk n) (i : Nat) (c : Comparator) : (s.deliverHit i c).SizesOk n := by
  unfold State.deliverHit
  split
  · split
    · exact sizes_ite (fun _ => finishMove_sizes h _) fun _ => h
    · exact h
  · exact sizes_ite (fun armed => captureRun_sizes h (by rw [armed]; nofun)) fun _ => h
  · split
    · rename_i running
      exact captureDone_sizes h (by rw [running]; nofun) _
    · exact captureTrigger_sizes h
    · exact h
  · exact tryCueWrite_sizes h
  · split
    · exact endCueWrite_sizes h _
    · exact endCueWrite_sizes h _
    · exact h
  · exact reportTo_sizes h ..

theorem deliverHits_sizes (l : List (Nat × Comparator)) :
    ∀ {s : State}, s.SizesOk n → (l.foldl (fun t x => t.deliverHit x.1 x.2) s).SizesOk n := by
  induction l with
  | nil => exact id
  | cons x l ih => exact fun h => ih (deliverHit_sizes h ..)

theorem stepComps_sizes (h : s.SizesOk n) (d : Direction) : (s.stepComps d).SizesOk n :=
  deliverHits_sizes _ (by exact { h with comps := List.length_map .. |>.trans h.comps })

theorem stepPosition_sizes (h : s.SizesOk n) (d : Direction) : (s.stepPosition d).SizesOk n :=
  settle_sizes (stepComps_sizes (stepZones_sizes (by exact { h with }) d) d)

theorem execRollerCount_tables (h : s.TablesWf) (d : Direction) : LeadsToTables (execRollerCount d s) := by
  refine tables_ite (fun _ => tables_ite (fun _ => tables_quiet h (rollerSums_sameBut d) (by decide)) fun _ => ?_)
    fun _ => tables_next h
  exact tables_handOver (stepPosition_sizes (sizes_of_sameBut h.sizes (rollerSums_sameBut d) (by decide)) d)

theorem execReelCount_tables (h : s.TablesWf) (r : Side) (d : Direction) : LeadsToTables (execReelCount r d s) := by
  refine tables_ite (fun _ => tables_ite (fun _ => tables_quiet h (tach_sameBut r d) (by decide)) fun _ => ?_)
    fun _ => tables_next h
  have measured := sizes_of_sameBut h.sizes (((tach_sameBut (s := s) r d).trans (withReel_sameBut r
    (counted_drive (State.reel { s with position := s.position.tach r d } r) s.profile d s.now))).trans reformGuards_sameBut)
    (by decide)
  exact tables_settled (sizes_ite (fun _ => latchFault_sizes measured _) fun _ => measured)

theorem restSettled_sizes (h : s.SizesOk n) : s.restSettled.SizesOk n := by
  unfold State.restSettled
  split
  · exact sizes_ite (fun _ => settleEnd_sizes h _) fun _ => h
  · exact h

theorem execRestTimerExpiry_tables (h : s.TablesWf) : LeadsToTables (execRestTimerExpiry s) :=
  tables_ite (fun _ => tables_next h) fun _ => tables_settled (restSettled_sizes (by exact { h.sizes with }))

theorem retimed_length (s : State) : s.retimed.length = s.position.locate.length := List.length_map ..

theorem disagree_sizes (h : s.SizesOk n) (f : Nat) (d : Direction) : (s.disagree f d).SizesOk n := by
  refine sizes_ite (fun _ => ?_) fun _ => { h with }
  rw [reanchor_eq]
  split
  · exact { h with locate := (retimed_length _).trans h.locate }
  · exact reportTo_sizes (by exact { h with locate := (retimed_length _).trans h.locate }) ..

theorem execTapeTimecodeWord_tables (h : s.TablesWf) (x : BcdTime) (rev : Bool) :
    LeadsToTables (execTapeTimecodeWord x rev s) := by
  unfold execTapeTimecodeWord
  split
  · split
    · exact tables_ite (fun _ => tables_quiet h (anchor_sameBut _ _) (by decide)) fun _ =>
        tables_handOver (disagree_sizes h.sizes ..)
    · exact tables_handOver (disagree_sizes h.sizes ..)
  · exact tables_quiet h (anchor_sameBut s.position.anchor _) (by decide)

/-! ### Samples and input lines -/

theorem armMoved_sizes (h : s.SizesOk n) (d : Side) : (s.armMoved d).SizesOk n := by
  have reported : (State.report { s with watch := none } .armMoved (sideNum d)).SizesOk n :=
    report_sizes (by exact { h with }) ..
  exact sizes_ite (fun _ => { enter_sizes reported .unthreaded with }) fun _ => reported

theorem watchArm_sizes (h : s.SizesOk n) (d : Side) (raw : Nat) : (s.watchArm d raw).SizesOk n := by
  unfold State.watchArm
  split
  · exact h
  · exact sizes_ite (fun _ => armMoved_sizes h d) fun _ => { h with }

theorem withArm_sizes (h : s.SizesOk n) (d : Side) (a : Arm) : (s.withArm d a).SizesOk n :=
  sizes_of_sameBut h (withArm_sameBut d a) (by decide)

theorem armSample_sizes (h : s.SizesOk n) (d : Side) (raw : Nat) : (s.armSample d raw).SizesOk n :=
  watchArm_sizes (sizes_ite (fun _ => withArm_sizes h d _) fun _ => report_sizes (withArm_sizes h d _) ..) d raw

theorem currentSample_sizes (h : s.SizesOk n) (m : Motor) (raw : Nat) : (s.currentSample m raw).SizesOk n := by
  cases m
  all_goals exact latchIf_sizes (by exact { h with }) ..

theorem handSample_sizes (h : s.SizesOk n) (x : Slot) (raw : Nat) : (s.handSample x raw).SizesOk n := by
  cases x
  case armL => exact armSample_sizes h .left raw
  case armR => exact armSample_sizes h .right raw
  case curL => exact currentSample_sizes h .left raw
  case curR => exact currentSample_sizes h .right raw
  case curC => exact currentSample_sizes h .capstan raw
  case supply => exact sizes_ite (fun _ => latchIf_sizes (by exact { h with }) ..) fun _ => h
  case idle => exact h

/-- The pointer stays within the schedule, and a schedule that takes over has its 16 slots (R48, R52). -/
theorem advanced_sizes {c : Converter} (schedule : c.schedule.length = 16)
    (waiting : ∀ l, c.pendingSchedule = some l → l.length = 16) :
    c.advanced.schedule.length = 16 ∧ (∀ l, c.advanced.pendingSchedule = some l → l.length = 16) ∧ c.advanced.ptr < 16 := by
  unfold Converter.advanced
  split
  · exact ⟨waiting _ ‹_›, nofun, Nat.zero_lt_succ 15⟩
  · exact ⟨schedule, waiting, Nat.mod_lt _ (Nat.zero_lt_succ 15)⟩

theorem stored_schedule (c : Converter) (raw : Nat) :
    (c.stored raw).schedule = c.schedule ∧ (c.stored raw).pendingSchedule = c.pendingSchedule := by
  unfold Converter.stored
  split <;> exact ⟨rfl, rfl⟩

theorem execConversionComplete_tables (h : s.TablesWf) (raw : BitVec 12) : LeadsToTables (execConversionComplete raw s) := by
  obtain ⟨schedule, pending⟩ := stored_schedule s.conv raw.toNat
  obtain ⟨h1, h2, h3⟩ := advanced_sizes (schedule ▸ h.schedule) (pending ▸ h.waiting)
  exact tables_ite (fun _ => tables_next h) fun _ =>
    tables_settled (handSample_sizes (by exact { h.sizes with schedule := h1, waiting := h2, slot := h3 }) ..)

theorem execDriveFaultInput_tables (h : s.TablesWf) (m : Motor) (b : Bool) : LeadsToTables (execDriveFaultInput m b s) :=
  tables_ite (fun _ => tables_settled (latchFault_sizes (by exact { h.sizes with }) _)) fun _ =>
    tables_quiet h (pins_sameBut _) (by decide)

theorem execSupplyWarningInput_tables (h : s.TablesWf) (b : Bool) : LeadsToTables (execSupplyWarningInput b s) :=
  tables_ite (fun _ => tables_settled (latchFault_sizes (by exact { h.sizes with }) _)) fun _ =>
    tables_quiet h (pins_sameBut _) (by decide)

theorem execPinchEngagedSense_tables (h : s.TablesWf) (b : Bool) : LeadsToTables (execPinchEngagedSense b s) :=
  tables_settled { h.sizes with }

/-! ### The servos and the ends of timers -/

/-- A closed interval takes the place of the oldest (R36, R102). -/
theorem closeInterval_length {l : List Int} (h : l.length = 32) (x : Int) : (closeInterval l x).length = 32 := by
  simp [closeInterval, h]

theorem derate_sizes (h : s.SizesOk n) : s.derate.SizesOk n := by
  unfold State.derate
  split
  · exact h
  · exact sizes_ite (fun _ => report_sizes (by exact { h with }) ..) fun _ => { h with }

theorem driveReels_sizes (h : s.SizesOk n) : s.driveReels.SizesOk n := by
  have derated : ∀ (b : Bool) (u : State), u.SizesOk n → (if b then u.derate else u).SizesOk n :=
    fun _ u hu => sizes_ite (fun _ => derate_sizes hu) fun _ => hu
  exact derated _ _ (derated _ _ { h with })

theorem execReelServoUpdate_tables (h : s.TablesWf) : LeadsToTables (execReelServoUpdate s) := by
  have hist := closeInterval_length h.rollerHist s.speed.cur
  have measured : ∀ x y : Int, State.SizesOk { s.reach (s.speed.lastUpdate + Config.updateTime) with
      speed := ⟨closeInterval s.speed.hist s.speed.cur, 0, x, y, (s.reach (s.speed.lastUpdate + Config.updateTime)).now⟩ }
      fun _ => 4 := fun _ _ => { h.sizes with rollerHist := hist }
  have timed : ∀ x : SpeedMeter, State.SameBut [.speed, .interval, .command] s
      { s.reach (s.speed.lastUpdate + Config.updateTime) with speed := x } := fun x => (reach_sameBut _).trans (speed_sameBut x)
  exact tables_ite (fun _ => tables_next (tablesWf_of { measured _ _ with }
      (arbiter_of_sameBut h.arbiter ((timed _).trans judgeSlip_sameBut) (by decide))))
    fun _ => tables_handOver { driveReels_sizes (measured _ _) with }

theorem execCapstanUpdate_tables (h : s.TablesWf) : LeadsToTables (execCapstanUpdate s) := by
  have hist := closeInterval_length h.capstanHist s.capstan.cur
  refine tables_next (tablesWf_of { h.sizes with capstanHist := ?_ } (arbiter_of_sameBut h.arbiter
    ((reach_sameBut _).trans (capstan_sameBut _)) (by decide)))
  dsimp only
  split <;> exact hist

theorem execRollerSlipTimeout_tables (h : s.TablesWf) : LeadsToTables (execRollerSlipTimeout s) := by
  unfold execRollerSlipTimeout
  split
  · exact tables_settled (latchFault_sizes (by exact { h.sizes with }) _)
  · exact tables_next h

theorem execPinchTimeout_tables (h : s.TablesWf) : LeadsToTables (execPinchTimeout s) := by
  unfold execPinchTimeout
  split
  · exact tables_settled (latchFault_sizes (by exact { h.sizes with }) _)
  · exact tables_next h

theorem execDurationExpiry_tables (h : s.TablesWf) : LeadsToTables (execDurationExpiry s) := by
  unfold execDurationExpiry
  split
  · exact tables_settled (finishMove_sizes (reach_sizes h.sizes _) _)
  · exact tables_next h

theorem execThreadCheckTimeout_tables (h : s.TablesWf) : LeadsToTables (execThreadCheckTimeout s) := by
  unfold execThreadCheckTimeout
  split
  · exact tables_settled (report_sizes (enter_sizes (reach_sizes h.sizes _) _) ..)
  · exact tables_next h

theorem execMeasureTimeout_tables (h : s.TablesWf) : LeadsToTables (execMeasureTimeout s) := by
  unfold execMeasureTimeout
  split
  · exact tables_settled (latchFault_sizes (reach_sizes h.sizes _) _)
  · exact tables_next h

theorem execBrakingTimeout_tables (h : s.TablesWf) : LeadsToTables (execBrakingTimeout s) := by
  unfold execBrakingTimeout
  split
  · exact tables_settled (enter_sizes (reach_sizes h.sizes _) _)
  · exact tables_next h

theorem execSupervisionExpiry_tables (h : s.TablesWf) : LeadsToTables (execSupervisionExpiry s) := by
  unfold execSupervisionExpiry
  split
  · exact tables_settled (report_sizes (stopTransport_sizes (endAll_sizes (by exact { h.sizes with }) _)) ..)
  · exact tables_next h

/-! ### The reference -/

theorem stepLocate_sizes (h : s.SizesOk n) : s.stepLocate.SizesOk n := by
  unfold State.stepLocate
  split
  · split
    · exact sizes_ite (fun _ => passTarget_sizes h _) fun _ => { h with }
    · exact h
  · exact h

theorem reportGuard_sizes (h : s.SizesOk n) (d : Direction) : (s.reportGuard d).SizesOk n :=
  sizes_ite (fun _ => h) fun _ => report_sizes (by exact { h with }) ..

theorem settleHeld_sizes (h : s.SizesOk n) : s.settleHeld.SizesOk n := by
  unfold State.settleHeld
  split
  · exact sizes_ite (fun _ => { h with }) fun _ => h
  · exact h

theorem endWinding_sizes (h : s.SizesOk n) (d : Demand) (v : Int) : (s.endWinding d v).SizesOk n := by
  have limited : State.SizesOk (match d.dir with
      | some x => if s.guardLimits x v then s.reportGuard x else s
      | none => s) n := by
    split
    · exact sizes_ite (fun _ => reportGuard_sizes h _) fun _ => h
    · exact h
  unfold State.endWinding
  dsimp only
  split
  · exact sizes_ite (fun _ => sizes_ite (fun _ => failMove_sizes (sizes_ite (fun _ => limited) fun _ => h) _) fun _ =>
      sizes_ite (fun _ => failMove_sizes limited _) fun _ => limited) fun _ => limited
  · exact settleHeld_sizes limited

theorem endPinched_sizes (h : s.SizesOk n) : s.endPinched.SizesOk n := by
  have stopped := sizes_ite (p := s.barrierStops = true) (fun _ => failMove_sizes h .blocked) fun _ => h
  unfold State.endPinched
  split
  · exact h
  · split
    · exact sizes_ite (fun _ => failMove_sizes (reportGuard_sizes h _) _) fun _ => stopped
    · exact stopped

theorem endUpdate_sizes (h : s.SizesOk n) (d : Demand) (v : Int) : (s.endUpdate d v).SizesOk n := by
  unfold State.endUpdate
  split
  case h_1 => exact sizes_ite (fun _ => enter_sizes (endWinding_sizes h ..) _) fun _ => endWinding_sizes h ..
  case h_2 | h_3 | h_4 => exact endPinched_sizes h
  all_goals exact h

theorem referenceStep_sizes (h : s.SizesOk n) : s.referenceStep.SizesOk n := by
  have formed : s.stepLocate.formCeilings.SizesOk n := { stepLocate_sizes h with }
  have ended := endUpdate_sizes (s := s.stepLocate.formCeilings.stepReference
    (s.stepLocate.formCeilings.demand s.stepLocate.formCeilings.ceiling)) { formed with }
    (s.stepLocate.formCeilings.demand s.stepLocate.formCeilings.ceiling) s.stepLocate.formCeilings.motion.vRef
  exact { ended with }

theorem execReferenceUpdate_tables (h : s.TablesWf) : LeadsToTables (execReferenceUpdate s) :=
  tables_ite (fun _ => tables_handOver { h.sizes with }) fun _ => tables_settled (referenceStep_sizes { h.sizes with })

/-! ### Reference words and losses -/

theorem withCounts_sizes (h : s.SizesOk n) (a b : Nat) : (s.withCounts a b).SizesOk n := { h with }

theorem correct_sizes (h : s.SizesOk n) (e : Int) : (s.correct e).SizesOk n := { h with }

theorem dropSeek_sizes (h : s.SizesOk n) : s.dropSeek.SizesOk n := { h with }

theorem seekWord_sizes (h : s.SizesOk n) (f : Nat) : (s.seekWord f).SizesOk n := by
  unfold State.seekWord
  split
  · exact sizes_ite (fun _ => beginSeek_sizes h f) fun _ => sizes_ite (fun _ => dropSeek_sizes h) fun _ => h
  · exact h

theorem approachWord_sizes (h : s.SizesOk n) (e : Int) : (s.approachWord e).SizesOk n :=
  sizes_ite (fun _ => correct_sizes (withCounts_sizes (setChase_sizes h _) ..) e) fun _ =>
    correct_sizes (withCounts_sizes h ..) e

theorem lockedWord_sizes (h : s.SizesOk n) (e : Int) : (s.lockedWord e).SizesOk n :=
  sizes_ite (fun _ => correct_sizes (withCounts_sizes (setChase_sizes h _) ..) e) fun _ =>
    correct_sizes (withCounts_sizes h ..) e

theorem followWord_sizes (h : s.SizesOk n) (f : Nat) : (s.followWord f).SizesOk n := by
  unfold State.followWord
  split
  · exact failMove_sizes h _
  · exact sizes_ite (fun _ => beginSeek_sizes (withCounts_sizes (setChase_sizes h _) ..) f) fun _ => sizes_ite (fun _ => h)
      fun _ => sizes_ite (fun _ => lockedWord_sizes h _) fun _ => approachWord_sizes h _

theorem returnWord_sizes (h : s.SizesOk n) (f : Nat) : (s.returnWord f).SizesOk n := by
  have back : State.SizesOk { s with chase := { s.chase with freewheel := none, origin := none } } n := { h with }
  unfold State.returnWord
  dsimp only
  split
  · exact failMove_sizes back _
  · exact sizes_ite (fun _ => beginSeek_sizes (setChase_sizes back _) f) fun _ =>
      withCounts_sizes (setChase_sizes (sizes_ite (fun _ => dropSeek_sizes back) fun _ => back) _) ..

theorem chaseWord_sizes (h : s.SizesOk n) (f : Nat) : (s.chaseWord f).SizesOk n := by
  unfold State.chaseWord
  split
  case h_1 => exact seekWord_sizes h f
  case h_2 | h_3 => exact followWord_sizes h f
  case h_4 | h_5 => exact sizes_ite (fun _ => returnWord_sizes h f) fun _ => h
  case h_6 => exact h

theorem becomeLost_sizes (h : s.SizesOk n) : s.becomeLost.SizesOk n := by
  have dropped := sizes_ite (p := s.seeking = true) (fun _ => dropSeek_sizes h) fun _ => h
  exact setChase_sizes (by exact { dropped with }) _

theorem freewheel_sizes (h : s.SizesOk n) (o : ChaseOrigin) : (s.freewheel o).SizesOk n :=
  sizes_ite (fun _ => becomeLost_sizes (withCounts_sizes h 0 0)) fun _ => setChase_sizes (by exact { h with }) _

theorem loseReference_sizes (h : s.SizesOk n) : s.loseReference.SizesOk n := by
  unfold State.loseReference
  split
  case h_1 | h_2 | h_3 => exact freewheel_sizes h _
  all_goals exact h

theorem execReferenceWord_tables (h : s.TablesWf) (x : BcdTime) (rev : Bool) : LeadsToTables (execReferenceWord x rev s) := by
  refine tables_ite (fun _ => tables_next h) fun _ => ?_
  have read : ∀ f, (s.readWord f).SizesOk fun _ => 4 := fun _ => { h.sizes with }
  split
  · exact tables_settled (sizes_ite (fun _ => chaseWord_sizes (read _) _) fun _ => read _)
  · exact tables_quiet h (reader_sameBut 0 _ _ _ _ _) (by decide)

theorem execLossTimerExpiry_tables (h : s.TablesWf) : LeadsToTables (execLossTimerExpiry s) := by
  unfold execLossTimerExpiry
  split
  · exact tables_settled (sizes_ite (fun _ => loseReference_sizes (by exact { h.sizes with })) fun _ => { h.sizes with })
  · exact tables_next h

theorem execFreewheelExpiry_tables (h : s.TablesWf) : LeadsToTables (execFreewheelExpiry s) := by
  unfold execFreewheelExpiry
  split
  · exact tables_settled (becomeLost_sizes (reach_sizes h.sizes _))
  · exact tables_next h

/-! ### Cue bits and captures -/

theorem storeCue_sizes (h : s.SizesOk n) : s.storeCue.1.SizesOk n := by
  unfold State.storeCue
  dsimp only
  split
  · exact h
  · split
    · exact h
    · exact { h with locate := List.length_set.trans h.locate }

theorem reportMark_sizes (h : s.SizesOk n) : s.reportMark.SizesOk n := by
  have taken := sizes_ite (p := s.waitsForCue = true) (fun _ => finishMove_sizes h .done) fun _ => h
  exact sizes_ite (fun _ => reportTo_sizes (storeCue_sizes taken) ..) fun _ => reportTo_sizes taken ..

theorem judgeBit_sizes (h : s.SizesOk n) (d : Direction) : (s.judgeBit d).SizesOk n := by
  have marked : ∀ (b : Bool) (u : State), u.SizesOk n → (if b then u.reportMark else u).SizesOk n :=
    fun _ u hu => sizes_ite (fun _ => reportMark_sizes hu) fun _ => hu
  have cleared : ∀ (b : Bool) (u : State), u.SizesOk n → (if b then u.reportClear else u).SizesOk n :=
    fun _ u hu => sizes_ite (fun _ => report_sizes hu ..) fun _ => hu
  exact cleared _ _ (marked _ _ { h with })

/-- The history holds at most 8 bits (8.1). -/
theorem take_hist (c : CueUnit) (b : Bool) (d : Direction) : (c.take b d).hist.length ≤ 8 := by
  unfold CueUnit.take lastBits
  dsimp only
  rw [List.length_drop]
  omega

theorem readBit_sizes (h : s.SizesOk n) (b : Bool) : (s.readBit b).SizesOk n :=
  sizes_ite (fun _ => judgeBit_sizes (by exact { h with cueHist := take_hist .. }) _) fun _ =>
    { h with cueHist := Nat.zero_le 8 }

theorem writeBit_sizes (h : s.SizesOk n) : s.writeBit.SizesOk n := by
  unfold State.writeBit
  split
  · exact { h with }
  · exact h

theorem writeBit_sameBut : State.SameBut [.cueWriter] s s.writeBit := by
  unfold State.writeBit
  split
  · exact cue_writer_sameBut ..
  · exact sameBut_refl _ s

theorem execCueBit_tables (h : s.TablesWf) (b : Bool) : LeadsToTables (execCueBit b s) :=
  tables_ite (fun _ => tables_next h) fun _ => tables_ite (fun _ => tables_quiet h writeBit_sameBut (by decide)) fun _ =>
    tables_settled (readBit_sizes h.sizes b)

/-- The memory holds the samples of 1 to 4 channels; a full one loses its oldest (9.4, R163). -/
theorem sampled_samples {c : Capture} (channels : 1 ≤ c.channels.length) (most : c.channels.length ≤ 4)
    (h : c.samples.length ≤ captureCapacity c.channels.length) (v : List Int) :
    (c.sampled v).samples.length ≤ captureCapacity c.channels.length := by
  have room : 1 ≤ captureCapacity c.channels.length := (Nat.le_div_iff_mul_le channels).2 (by omega)
  dsimp only [Capture.sampled]
  rw [List.length_append, List.length_singleton]
  split
  · omega
  · rw [List.length_drop]
    omega

theorem takeSample_sizes (h : s.SizesOk n) (under : s.capture.state ≠ .idle) : s.takeSample.SizesOk n := by
  obtain ⟨channels, most⟩ := h.channels under
  have sampled : State.SizesOk { s with capture := s.capture.sampled (s.capture.channels.map s.sampleOf) } n :=
    { h with samples := sampled_samples channels most h.samples _ }
  unfold State.takeSample
  dsimp only
  split
  · exact captureDone_sizes sampled under _
  · exact sampled

theorem execCaptureSampleEvent_tables (h : s.TablesWf) : LeadsToTables (execCaptureSampleEvent s) := by
  have advanced : State.SizesOk { s.reach (s.capture.lastEvent + Config.updateTime) with
      capture := Capture.advancePhase { s.capture with
        lastEvent := (s.reach (s.capture.lastEvent + Config.updateTime)).now } } fun _ => 4 := { h.sizes with }
  unfold execCaptureSampleEvent
  dsimp only
  split
  case h_1 under | h_2 under =>
    exact tables_handOver (sizes_ite (fun _ => takeSample_sizes advanced (by
      change s.capture.state = _ at under
      change s.capture.state ≠ _
      rw [under]
      nofun)) fun _ => advanced)
  all_goals exact tables_quiet h ((reach_sameBut _).trans (sampleTime_sameBut _)) (by decide)

/-! ### The links -/

theorem heard_sizes (h : s.SizesOk n) (l : Link) : (s.heard l).SizesOk n := sizes_ite (fun _ => { h with }) fun _ => h

/-- A frame is taken while the queue holds fewer than four (R179). -/
theorem deliver_sizes (h : s.SizesOk fun _ => 4) (l : Link) (f : Frame) : (s.deliver l f).SizesOk fun _ => 4 := by
  refine sizes_ite (fun room => heard_sizes (withPort_sizes h l (by exact h.latches l) ?_) l) fun _ => h
  dsimp only [LinkPort.occupancy] at room ⊢
  rw [List.length_append, List.length_singleton]
  omega

theorem withPart_sizes (h : s.SizesOk n) (l : Link) (b : Option Bytes) : (s.withPart l b).SizesOk n :=
  withPort_sizes h l (h.latches l) (h.frames l)

theorem collect_sizes (h : s.SizesOk fun _ => 4) (l : Link) (b : Bytes) : (s.collect l b).SizesOk fun _ => 4 := by
  refine sizes_ite (fun _ => withPart_sizes h ..) fun _ => sizes_ite (fun _ => withPart_sizes h ..) fun _ => ?_
  dsimp only
  split
  · exact deliver_sizes (withPart_sizes h ..) ..
  · exact withPart_sizes h ..

/-- A receiver at work leaves what waits for the transmitters. -/
theorem tables_received (h : s.TablesWf) (sizes : t.SizesOk fun _ => 4) (e : State.SameBut [.receivers, .supervision] s t) :
    LeadsToTables (.next t) := tables_next (tablesWf_of sizes (arbiter_of_sameBut h.arbiter e (by decide)))

theorem tables_part (h : s.TablesWf) (l : Link) (b : Option Bytes) : LeadsToTables (.next (s.withPart l b)) :=
  tables_received h (withPart_sizes h.sizes l b) ((withPart_sameBut l b).mono (by decide))

theorem execFrameReceived_tables (h : s.TablesWf) (l : Link) (kind tag : Byte) (body : Bytes) :
    LeadsToTables (execFrameReceived l kind tag body s) :=
  tables_ite (fun _ => tables_refused _) fun _ => tables_ite
    (fun _ => tables_received h (deliver_sizes h.sizes ..) (deliver_sameBut ..)) fun _ => tables_next h

theorem execByteReceived_tables (h : s.TablesWf) (l : Link) (b : Byte) (stop : Bool) :
    LeadsToTables (execByteReceived l b stop s) := by
  refine tables_ite (fun _ => tables_ite (fun _ => ?_) fun _ => tables_part h l none) fun _ => tables_next h
  split
  · exact tables_received h (collect_sizes h.sizes ..) (collect_sameBut ..)
  · split
    · exact tables_part h l (some [])
    · exact tables_next h

theorem execFrameGapTimeout_tables (h : s.TablesWf) (l : Link) : LeadsToTables (execFrameGapTimeout l s) := by
  unfold execFrameGapTimeout
  split
  · have timed := reach_sizes h.sizes ((s.port l).lastByte + Config.msec 5)
    exact tables_received h (withPort_sizes timed l (timed.latches l) (timed.frames l))
      (((reach_sameBut _).trans (receiver_sameBut ..)).mono (by decide))
  · exact tables_next h

theorem idleTransmitter_served {k l : Link} (h : s.Served k) (other : k ≠ l) : (s.idleTransmitter l).Served k := by
  intro idle
  rw [State.idleTransmitter, withPort_port_other other] at idle
  obtain ⟨h1, h2, h3, h4, h5⟩ := h idle
  refine ⟨?_, ?_, ?_, ?_, ?_⟩ <;>
    simpa only [State.idleTransmitter, withPort_port_other other, State.withPort_noticeLink, State.withPort_motion]

/-- The link whose frame has gone takes what waits for it, and the other is served as before (R182). -/
theorem chooseNext_tables (h : s.TablesWf) (l : Link) : ((s.idleTransmitter l).chooseNext l).TablesWf := by
  have idle : ((s.idleTransmitter l).port l).sending = none := by cases l <;> rfl
  have fed : (s.idleTransmitter l).feed l = (s.idleTransmitter l).chooseNext l := by rw [State.feed, idle]
  have sizes := withPort_sizes (p := { s.port l with sending := none }) h.sizes l (h.sizes.latches l) (h.sizes.frames l)
  rw [← fed]
  refine tablesWf_of (feed_sizes sizes l) fun running k => ?_
  have begun : (s.idleTransmitter l).startup.phase = .running := by
    rwa [feed_field (l := l) (·.startup) (fun _ _ => by cases l <;> rfl) fun _ _ => rfl] at running
  by_cases same : k = l
  · rw [same]
    exact feed_served begun l
  · have running : s.startup.phase = .running := by cases l <;> exact begun
    exact feed_served_other (idleTransmitter_served (h.arbiter running k) same) same

theorem execTransmitDone_tables (h : s.TablesWf) (l : Link) : LeadsToTables (execTransmitDone l s) := by
  have idle : (s.idleTransmitter l).SizesOk fun _ => 4 := withPort_sizes h.sizes l (h.sizes.latches l) (h.sizes.frames l)
  unfold execTransmitDone
  dsimp only
  split
  · exact tables_ite (fun _ => tables_next (linkReset_tables idle _)) fun _ => tables_next (chooseNext_tables h l)
  · exact tables_next (chooseNext_tables h l)

theorem execPositionReportPeriod_tables (h : s.TablesWf) : LeadsToTables (execPositionReportPeriod s) :=
  tables_ite (fun _ => tables_next h) fun _ =>
    tables_handOver (withPort_sizes (by exact { h.sizes with }) _ (by exact h.sizes.latches _) (by exact h.sizes.frames _))

theorem execProfileWriteDone_tables (h : s.TablesWf) : LeadsToTables (execProfileWriteDone s) :=
  tables_ite (fun _ => tables_handOver (report_sizes (by exact { h.sizes with }) ..)) fun _ => tables_next h

end Sys2Proof.Machine
end

section
/-! The requests keep the tables: a processed frame leaves room in its link's receive queue for the reply (R179, R180). -/

namespace Sys2Proof.Machine
variable {s t u : State} {n : Link → Nat} {kind : Byte} {r : Request}

/-! ### A request taken and answered -/

/-- The receive queues while a frame of one link is processed: that link's has a place free for the reply. -/
def roomFor (l : Link) : Link → Nat := fun k => if k = l then 3 else 4

theorem sizes_within_roomFor (l : Link) (h : s.SizesOk fun _ => 4) (room : (s.port l).occupancy ≤ 3) : s.SizesOk (roomFor l) := by
  refine { h with frames := fun k => ?_ }
  by_cases same : k = l
  · subst same
    simpa [roomFor] using room
  · simpa [roomFor, same] using h.frames k

theorem heard_port (l k : Link) : (s.heard l).port k = s.port k := by
  unfold State.heard
  split
  · rfl
  · rfl

theorem takeFrame_sizes_of_processed (h : s.SizesOk fun _ => 4) (processed : (s.takeFrame kind r).2 = true) :
    (s.takeFrame kind r).1.SizesOk (roomFor r.link) := by
  have frames := h.frames r.link
  unfold State.takeFrame at processed ⊢
  dsimp only at processed ⊢
  split at processed
  · split at processed
    · rename_i g rest queued
      split at processed
      · have popped : rest.length + (s.port r.link).replies.length ≤ 3 := by
          rw [LinkPort.occupancy, queued, List.length_cons] at frames
          omega
        rw [if_pos ‹_›, if_pos ‹_›]
        refine sizes_within_roomFor _ (withPort_sizes h _ (h.latches _) (by exact popped.trans (Nat.le_succ 3))) ?_
        exact (congrArg LinkPort.occupancy (State.withPort_port ..)).trans_le popped
      · cases processed
    · split at processed
      · rename_i room
        rw [if_pos ‹_›, if_pos room]
        exact sizes_within_roomFor _ (heard_sizes h _) (by rw [heard_port]; omega)
      · cases processed
  · cases processed

theorem takeFrame_sizes (h : s.SizesOk fun _ => 4) : (s.takeFrame kind r).1.SizesOk fun _ => 4 := by
  have frames := h.frames r.link
  unfold State.takeFrame
  dsimp only
  split
  · split
    · rename_i g rest queued
      split
      · refine withPort_sizes h _ (h.latches _) ?_
        rw [LinkPort.occupancy, queued, List.length_cons] at frames
        exact (Nat.add_le_add_right (Nat.le_succ _) _).trans frames
      · exact deliver_sizes h ..
    · split
      · exact heard_sizes h _
      · exact h
  · exact h

theorem reply_sizes (h : s.SizesOk (roomFor l)) (o : Outgoing) : (s.reply l o).SizesOk fun _ => 4 := by
  have frames := h.frames l
  have within : s.SizesOk fun _ => 4 := by
    refine { h with frames := fun k => (h.frames k).trans ?_ }
    unfold roomFor
    split <;> decide
  refine withPort_sizes within l (h.latches l) ?_
  rw [roomFor, if_pos rfl] at frames
  dsimp only [LinkPort.occupancy] at frames ⊢
  rw [List.length_append, List.length_singleton]
  omega

/-- A frame that only joins the queue, or finds no room in it. -/
theorem takeFrame_tables (h : s.TablesWf) : LeadsToTables (.next (s.takeFrame kind r).1) :=
  tables_received h (takeFrame_sizes h.sizes) (takeFrame_sameBut kind r)

/-- A request leads to well-formed tables when its answer keeps their sizes. -/
theorem request_tables (h : s.TablesWf) {answer : State → Answer}
    (ha : ∀ u : State, u.SizesOk (roomFor r.link) → (answer u).state.SizesOk (roomFor r.link)) :
    LeadsToTables (s.request kind r answer) :=
  tables_ite (fun _ => tables_refused _) fun _ => tables_ite
    (fun processed => tables_handOver (reply_sizes (ha _ (takeFrame_sizes_of_processed h.sizes processed)) _))
    fun _ => takeFrame_tables h

/-- What a checked request leaves has its sizes when the request it grants has, all its checks having passed. -/
theorem checked_sizes (h : s.SizesOk n) {checks : List Check} {act : Answer}
    (ha : (∀ c ∈ checks, c = none) → act.state.SizesOk n) : (s.checked checks act).state.SizesOk n := by
  unfold State.checked
  split
  · exact h
  · rename_i e
    exact ha fun c hc => List.findSome?_eq_none_iff.1 e c hc

/-- A condition whose check passes. -/
theorem of_check {b : Bool} {st : Status} (h : check b st = none) : b = true := by
  cases b
  · cases h
  · rfl

theorem execUnknownKind_tables (h : s.TablesWf) (kind : Byte) (r : Request) : LeadsToTables (execUnknownKind kind r s) :=
  tables_ite (fun _ => tables_refused _) fun _ => tables_ite
    (fun processed => tables_handOver (reply_sizes (takeFrame_sizes_of_processed h.sizes processed) _))
    fun _ => takeFrame_tables h

/-- A request that is checked and then only answers. -/
theorem read_tables (h : s.TablesWf) {checks : State → List Check} {data : State → Bytes} :
    LeadsToTables (s.request kind r fun x => x.checked (checks x) (x.ok (data x))) :=
  request_tables h fun _ hu => checked_sizes hu fun _ => hu

/-! ### The reads -/

theorem execReadStatus_tables (h : s.TablesWf) (r : Request) : LeadsToTables (execReadStatus r s) := read_tables h

theorem execReadPosition_tables (h : s.TablesWf) (r : Request) : LeadsToTables (execReadPosition r s) := read_tables h

theorem execReadReelModel_tables (h : s.TablesWf) (r : Request) : LeadsToTables (execReadReelModel r s) := read_tables h

theorem execReadMoves_tables (h : s.TablesWf) (r : Request) : LeadsToTables (execReadMoves r s) := read_tables h

theorem execReadLocateTable_tables (h : s.TablesWf) (r : Request) : LeadsToTables (execReadLocateTable r s) := read_tables h

theorem execReadZones_tables (h : s.TablesWf) (r : Request) : LeadsToTables (execReadZones r s) := read_tables h

theorem execReadCapture_tables (h : s.TablesWf) (r : Request) : LeadsToTables (execReadCapture r s) := read_tables h

theorem execReadProfile_tables (h : s.TablesWf) (r : Request) : LeadsToTables (execReadProfile r s) := read_tables h

theorem execReadEvents_tables (h : s.TablesWf) (r : Request) : LeadsToTables (execReadEvents r s) := read_tables h

/-! ### Requests about motion -/

theorem allocMove_sizes (h : s.SizesOk n) (i slot : Nat) : (s.allocMove i slot).SizesOk n :=
  { h with comps := List.length_set.trans h.comps }

/-- A record joins a queue that has room for it (R70). -/
theorem join_sizes (h : s.SizesOk n) (room : s.motion.queue.length < 16) (x : MoveRecord) : (s.join x).SizesOk n := by
  have longer : (s.motion.queue ++ [x]).length ≤ 16 := by
    rw [List.length_append, List.length_singleton]
    omega
  unfold State.join
  generalize (if x.needsComp = true then (freeIndices s.comps).head? else none) = i
  cases i with
  | none => exact { h with queue := by simpa using longer }
  | some i => exact { allocMove_sizes h i x.slot with queue := by simpa [State.allocMove] using longer }

theorem afterJoin_sizes (h : s.SizesOk n) : s.afterJoin.SizesOk n :=
  sizes_ite (fun _ => activate_sizes (supersede_sizes h)) fun _ => supersede_sizes h

theorem execSubmitMove_tables (h : s.TablesWf) (r : Request) : LeadsToTables (execSubmitMove r s) := by
  refine request_tables h fun u hu => checked_sizes hu fun passed => settle_sizes (afterJoin_sizes (join_sizes hu ?_ _))
  exact of_decide_eq_true (of_check (passed (check (decide (u.motion.queue.length < 16)) .queueFull) (by simp)))

theorem flushAll_sizes (h : s.SizesOk n) : s.flushAll.SizesOk n := by
  unfold State.flushAll
  split
  · exact h
  · exact stopTransport_sizes (endAll_sizes h _)

theorem flushWaiting_sizes (h : s.SizesOk n) : s.flushWaiting.SizesOk n := by
  have dropped := dropRecords_sizes s.waiting h
  refine { dropped with queue := ?_ }
  dsimp only [State.flushWaiting]
  split
  · exact (List.length_take_le' ..).trans dropped.queue
  · exact Nat.zero_le 16

theorem execFlushMoves_tables (h : s.TablesWf) (r : Request) : LeadsToTables (execFlushMoves r s) := by
  refine request_tables h fun u hu => checked_sizes hu fun _ => ?_
  split
  · exact settle_sizes (flushAll_sizes hu)
  · exact flushWaiting_sizes hu

theorem execStop_tables (h : s.TablesWf) (r : Request) : LeadsToTables (execStop r s) :=
  request_tables h fun _ hu => checked_sizes hu fun _ => settle_sizes (stopTransport_sizes (endAll_sizes hu _))

theorem restartReels_sizes (h : s.SizesOk n) : s.restartReels.SizesOk n := { h with }

theorem enterSizing_sizes (h : s.SizesOk n) (v : SizingVariant) : (s.enterSizing v).SizesOk n :=
  enter_sizes (by exact { h with }) _

theorem execSizeReels_tables (h : s.TablesWf) (r : Request) : LeadsToTables (execSizeReels r s) :=
  request_tables h fun _ hu => checked_sizes hu fun _ => settle_sizes (enterSizing_sizes (restartReels_sizes hu) _)

theorem execEnterStandby_tables (h : s.TablesWf) (r : Request) : LeadsToTables (execEnterStandby r s) :=
  request_tables h fun _ hu => checked_sizes hu fun _ => settle_sizes (enter_sizes hu _)

theorem execWake_tables (h : s.TablesWf) (r : Request) : LeadsToTables (execWake r s) :=
  request_tables h fun _ hu => checked_sizes hu fun _ => settle_sizes (enterSizing_sizes hu _)

theorem clearFault_sizes (h : s.SizesOk n) : s.clearFault.state.SizesOk n := by
  have restarted := sizes_ite (p := .tapeBreak ∈ s.faults.set ∨ .radiusLost ∈ s.faults.set)
    (fun _ => restartReels_sizes h) fun _ => h
  have cleared : s.clearKinds.SizesOk n := { restarted with }
  unfold State.clearFault
  split
  · exact settle_sizes (enter_sizes (by exact { cleared with }) _)
  · exact cleared

theorem execClearFault_tables (h : s.TablesWf) (r : Request) : LeadsToTables (execClearFault r s) :=
  request_tables h fun _ hu => checked_sizes hu fun _ => clearFault_sizes hu

/-! ### Requests about tables -/

theorem execSetZone_tables (h : s.TablesWf) (r : Request) : LeadsToTables (execSetZone r s) :=
  request_tables h fun _ hu => checked_sizes hu fun _ => { hu with zones := List.length_set.trans hu.zones }

theorem clearedZones_length (l : List (Option Zone)) (i : Nat) : (clearedZones l i).length = l.length := by
  unfold clearedZones
  split
  · exact List.length_replicate
  · exact List.length_set

theorem execClearZone_tables (h : s.TablesWf) (r : Request) : LeadsToTables (execClearZone r s) :=
  request_tables h fun _ hu => checked_sizes hu fun _ => { hu with zones := (clearedZones_length ..).trans hu.zones }

theorem execSetLocateEntry_tables (h : s.TablesWf) (r : Request) : LeadsToTables (execSetLocateEntry r s) :=
  request_tables h fun _ hu => checked_sizes hu fun _ => { hu with locate := List.length_set.trans hu.locate }

theorem clearedEntries_length (l : List (Option LocateEntry)) (i : Nat) : (clearedEntries l i).length = l.length := by
  unfold clearedEntries
  split
  · exact List.length_replicate
  · exact List.length_set

theorem execClearLocateEntry_tables (h : s.TablesWf) (r : Request) : LeadsToTables (execClearLocateEntry r s) :=
  request_tables h fun _ hu => checked_sizes hu fun _ => { hu with locate := (clearedEntries_length ..).trans hu.locate }

theorem execSetAnchor_tables (h : s.TablesWf) (r : Request) : LeadsToTables (execSetAnchor r s) :=
  request_tables h fun _ hu => checked_sizes hu fun _ => { hu with locate := (retimed_length _).trans hu.locate }

/-- The pending schedule has the body's sixteen slots (R50, R51). -/
theorem execSetSchedule_tables (h : s.TablesWf) (r : Request) : LeadsToTables (execSetSchedule r s) := by
  refine request_tables h fun u hu => checked_sizes hu fun passed => ?_
  have slots : r.body.length = 16 := of_decide_eq_true (of_check (passed (sized r 16) (by simp)))
  refine { hu with waiting := fun _ e => ?_ }
  cases e
  exact (List.length_map ..).trans slots

/-! ### Requests about watches, captures and the cue track -/

theorem execWatchPosition_tables (h : s.TablesWf) (r : Request) : LeadsToTables (execWatchPosition r s) :=
  request_tables h fun _ hu => checked_sizes hu fun _ => setComp_sizes hu ..

theorem execCancelWatch_tables (h : s.TablesWf) (r : Request) : LeadsToTables (execCancelWatch r s) := by
  refine request_tables h fun u hu => checked_sizes hu fun _ => ?_
  split
  · exact { hu with comps := (List.length_map ..).trans hu.comps }
  · exact freeComp_sizes hu (some (bodyU8 r.body 0))

/-- A valid Arm Capture names one to four channels (R161). -/
theorem armChannels_length {b : Bytes} (h : checkFields (armFields b) = none) :
    1 ≤ (armChannels b).length ∧ (armChannels b).length ≤ 4 := by
  have named : (armChannels b).length = bodyU8 b 2 := by simp [armChannels]
  have channels := fields_of_checkFields h (inRange 1 4 (bodyU8 b 2)) (by simp [armFields])
  simp only [inRange, Bool.and_eq_true, decide_eq_true_eq] at channels
  rwa [named]

theorem giveUpCapture_sizes (h : s.SizesOk n) (r : Request) : (s.giveUpCapture r).SizesOk n :=
  sizes_ite (fun _ => reportTo_sizes (captureIdle_sizes h) ..) fun _ => captureIdle_sizes h

theorem takeStartComp_sizes (h : s.SizesOk n) (c : Capture) : (s.takeStartComp c).1.SizesOk n := by
  unfold State.takeStartComp
  split
  · exact setComp_sizes h ..
  · exact h

theorem takeEndComp_sizes (h : s.SizesOk n) (c : Capture) : (s.takeEndComp c).1.SizesOk n := by
  unfold State.takeEndComp
  split
  · exact setComp_sizes h ..
  · exact setComp_sizes h ..
  · exact h

theorem beginCapture_sizes (h : s.SizesOk n) {c : Capture} (channels : 1 ≤ c.channels.length ∧ c.channels.length ≤ 4)
    (samples : c.samples = []) : (s.beginCapture c).SizesOk n := by
  have comps := takeEndComp_sizes (takeStartComp_sizes h c) c
  have empty : c.samples.length ≤ captureCapacity c.channels.length := by
    rw [samples]
    exact Nat.zero_le _
  have armed : State.SizesOk { ((s.takeStartComp c).1.takeEndComp c).1 with
      capture := { c with
        state := .armed, startComp := (s.takeStartComp c).2, endComp := ((s.takeStartComp c).1.takeEndComp c).2 } } n :=
    { comps with channels := fun _ => channels, samples := empty }
  unfold State.beginCapture
  dsimp only
  split
  · exact armed
  · exact captureRun_sizes armed nofun

theorem execArmCapture_tables (h : s.TablesWf) (r : Request) : LeadsToTables (execArmCapture r s) := by
  refine request_tables h fun u hu => checked_sizes hu fun passed => ?_
  have fields : checkFields (armFields r.body) = none := passed _ (by simp)
  exact beginCapture_sizes (giveUpCapture_sizes hu r) (armChannels_length fields) rfl

theorem triggerCapture_sizes (h : s.SizesOk n) : s.triggerCapture.SizesOk n := by
  unfold State.triggerCapture
  split
  · rename_i armed
    have run := captureRun_sizes h (by rw [armed]; nofun)
    exact freeComp_sizes (by exact { run with }) _
  · exact captureTrigger_sizes h
  · exact h

theorem execTriggerCapture_tables (h : s.TablesWf) (r : Request) : LeadsToTables (execTriggerCapture r s) :=
  request_tables h fun _ hu => checked_sizes hu fun _ => triggerCapture_sizes hu

theorem execAbortCapture_tables (h : s.TablesWf) (r : Request) : LeadsToTables (execAbortCapture r s) :=
  request_tables h fun _ hu => checked_sizes hu fun _ =>
    sizes_ite (fun busy => captureDone_sizes hu (fun idle => by rw [idle] at busy; cases busy) _) fun _ => hu

theorem execReleaseCapture_tables (h : s.TablesWf) (r : Request) : LeadsToTables (execReleaseCapture r s) :=
  request_tables h fun _ hu => checked_sizes hu fun _ => captureIdle_sizes hu

theorem execSetCueCodes_tables (h : s.TablesWf) (r : Request) : LeadsToTables (execSetCueCodes r s) :=
  request_tables h fun _ hu => checked_sizes hu fun _ => { hu with cueHist := Nat.zero_le 8 }

theorem execSetAutoCue_tables (h : s.TablesWf) (r : Request) : LeadsToTables (execSetAutoCue r s) :=
  request_tables h fun _ hu => checked_sizes hu fun _ => { hu with }

theorem armWrite_sizes (h : s.SizesOk n) (b : Bytes) : (s.armWrite b).SizesOk n :=
  { setComp_sizes (setComp_sizes h ..) .. with }

theorem execWriteCue_tables (h : s.TablesWf) (r : Request) : LeadsToTables (execWriteCue r s) :=
  request_tables h fun _ hu => checked_sizes hu fun _ => tryCueWrite_sizes (armWrite_sizes hu _)

theorem execCancelCueWrite_tables (h : s.TablesWf) (r : Request) : LeadsToTables (execCancelCueWrite r s) :=
  request_tables h fun _ hu => checked_sizes hu fun _ => endCueWrite_sizes hu _

/-! ### Requests about ownership, events, reports, the profile and resets -/

theorem withOwner_sizes (h : s.SizesOk n) (o : Owner) : (s.withOwner o).SizesOk n := by
  have owned : State.SizesOk { s with
      ctl := { s.ctl with owner := o }
      faults := { s.faults with
        supervision := if o = .free then none else s.faults.supervision.map (fun _ => s.now) } } n := { h with }
  exact sizes_ite (fun _ => owned) fun _ => withPort_sizes owned _ (by exact owned.latches _) (by exact owned.frames _)

theorem seize_sizes (h : s.SizesOk n) : s.seize.SizesOk n :=
  settle_sizes (reportTo_sizes (stopTransport_sizes (endAll_sizes (withOwner_sizes h _) _)) ..)

theorem claim_sizes (h : s.SizesOk n) (l : Link) : (s.claim l).SizesOk n := by
  unfold State.claim
  split
  · exact withOwner_sizes h _
  · exact withOwner_sizes h _
  · exact seize_sizes h
  · exact h
  · exact h

theorem execClaimTransport_tables (h : s.TablesWf) (r : Request) : LeadsToTables (execClaimTransport r s) :=
  request_tables h fun _ hu => checked_sizes hu fun _ => claim_sizes hu _

theorem execReleaseTransport_tables (h : s.TablesWf) (r : Request) : LeadsToTables (execReleaseTransport r s) :=
  request_tables h fun _ hu => checked_sizes hu fun _ => withOwner_sizes hu _

theorem execSetEventMask_tables (h : s.TablesWf) (r : Request) : LeadsToTables (execSetEventMask r s) :=
  request_tables h fun _ hu => checked_sizes hu fun _ => withPort_sizes hu _ (hu.latches _) (hu.frames _)

theorem acknowledged_length (l : List (Option Latch)) (m : Nat) : (acknowledged l m).length = l.length := by
  rw [acknowledged, List.length_map, List.length_zipIdx]

theorem execAcknowledgeEvents_tables (h : s.TablesWf) (r : Request) : LeadsToTables (execAcknowledgeEvents r s) :=
  request_tables h fun _ hu => checked_sizes hu fun _ =>
    withPort_sizes hu _ ((acknowledged_length ..).trans (hu.latches _)) (hu.frames _)

theorem withRate_sizes (h : s.SizesOk n) (x : Nat) : (s.withRate x).SizesOk n := by
  refine sizes_ite (fun _ => ?_) fun _ => { h with }
  exact { h with
    latches := fun
      | .deck => h.latches .deck
      | .service => h.latches .service
    frames := fun
      | .deck => h.frames .deck
      | .service => h.frames .service }

theorem execSetReportRate_tables (h : s.TablesWf) (r : Request) : LeadsToTables (execSetReportRate r s) :=
  request_tables h fun _ hu => checked_sizes hu fun _ => withRate_sizes hu _

theorem reprofiled_length (x : PositionUnit) (p q : Profile) : (x.reprofiled p q).locate.length = x.locate.length := by
  unfold PositionUnit.reprofiled
  split
  · exact List.length_map ..
  · rfl

theorem writeProfile_sizes (h : s.SizesOk n) (b : Bytes) : (s.writeProfile b).SizesOk n :=
  { h with locate := (reprofiled_length ..).trans h.locate }

theorem execWriteProfile_tables (h : s.TablesWf) (r : Request) : LeadsToTables (execWriteProfile r s) :=
  request_tables h fun _ hu => checked_sizes hu fun _ => writeProfile_sizes hu _

theorem resetPart_sizes (h : s.SizesOk n) (l : Link) : (s.resetPart l).state.SizesOk n := by
  unfold State.resetPart
  split
  · exact h
  · exact settle_sizes (stopTransport_sizes (endAll_sizes (by exact { h with }) _))

theorem execResetPart_tables (h : s.TablesWf) (r : Request) : LeadsToTables (execResetPart r s) :=
  request_tables h fun _ hu => checked_sizes hu fun _ => resetPart_sizes hu _

/-! ### Every command -/

theorem tables_of_writes (h : s.TablesWf) {w : List Group} {o : Host.Outcome State Fault Refusal} (e : WritesOnly w s o)
    (m : ∀ g ∈ sizedGroups ++ waitingGroups, g ∉ w) : LeadsToTables o := by
  intro t e'
  obtain ⟨u, rfl | rfl, same⟩ := e t e'
  · exact tables_of_sameBut h same m
  · exact tables_handOver (sizes_of_sameBut h.sizes same fun _ k => m _ (List.mem_append_left _ k)) _ rfl

/-- Every command keeps the tables, and leaves nothing waiting for an idle transmitter (R182). -/
theorem exec_tables (h : s.TablesWf) (c : Instr) : LeadsToTables (exec c s) := by
  cases c with
  | powerOn => exact tables_of_phase (afterReset_sizes h.sizes ..) nofun
  | resetLine => exact tables_of_phase (afterReset_sizes h.sizes ..) nofun
  | settlePeriodEnd => exact execSettlePeriodEnd_tables h
  | profileLoadDone => exact execProfileLoadDone_tables h
  | rollerCount d => exact execRollerCount_tables h d
  | reelCount r d => exact execReelCount_tables h r d
  | capstanCount d => exact tables_of_writes h (execCapstanCount_writes d) (by decide)
  | windowTimeout r => exact tables_of_writes h (execWindowTimeout_writes r) (by decide)
  | restTimerExpiry => exact execRestTimerExpiry_tables h
  | tapeTimecodeWord w rev => exact execTapeTimecodeWord_tables h w rev
  | conversionComplete raw => exact execConversionComplete_tables h raw
  | driveFaultInput m b => exact execDriveFaultInput_tables h m b
  | supplyWarningInput b => exact execSupplyWarningInput_tables h b
  | reelServoUpdate => exact execReelServoUpdate_tables h
  | rollerSlipTimeout => exact execRollerSlipTimeout_tables h
  | referenceUpdate => exact execReferenceUpdate_tables h
  | capstanUpdate => exact execCapstanUpdate_tables h
  | pinchEngagedSense b => exact execPinchEngagedSense_tables h b
  | pinchTimeout => exact execPinchTimeout_tables h
  | durationExpiry => exact execDurationExpiry_tables h
  | threadCheckTimeout => exact execThreadCheckTimeout_tables h
  | measureTimeout => exact execMeasureTimeout_tables h
  | brakingTimeout => exact execBrakingTimeout_tables h
  | supervisionExpiry => exact execSupervisionExpiry_tables h
  | referenceWord w rev => exact execReferenceWord_tables h w rev
  | lossTimerExpiry => exact execLossTimerExpiry_tables h
  | freewheelExpiry => exact execFreewheelExpiry_tables h
  | cueBit b => exact execCueBit_tables h b
  | captureSampleEvent => exact execCaptureSampleEvent_tables h
  | positionReportPeriod => exact execPositionReportPeriod_tables h
  | frameReceived l kind tag body => exact execFrameReceived_tables h l kind tag body
  | frameGapTimeout l => exact execFrameGapTimeout_tables h l
  | transmitDone l => exact execTransmitDone_tables h l
  | deferredReset => exact execDeferredReset_tables h
  | profileWriteDone => exact execProfileWriteDone_tables h
  | unknownKind kind r => exact execUnknownKind_tables h kind r
  | readStatus r => exact execReadStatus_tables h r
  | readPosition r => exact execReadPosition_tables h r
  | readReelModel r => exact execReadReelModel_tables h r
  | readMoves r => exact execReadMoves_tables h r
  | readLocateTable r => exact execReadLocateTable_tables h r
  | readZones r => exact execReadZones_tables h r
  | readCapture r => exact execReadCapture_tables h r
  | readProfile r => exact execReadProfile_tables h r
  | readEvents r => exact execReadEvents_tables h r
  | claimTransport r => exact execClaimTransport_tables h r
  | releaseTransport r => exact execReleaseTransport_tables h r
  | submitMove r => exact execSubmitMove_tables h r
  | flushMoves r => exact execFlushMoves_tables h r
  | stop r => exact execStop_tables h r
  | sizeReels r => exact execSizeReels_tables h r
  | enterStandby r => exact execEnterStandby_tables h r
  | wake r => exact execWake_tables h r
  | clearFault r => exact execClearFault_tables h r
  | setZone r => exact execSetZone_tables h r
  | clearZone r => exact execClearZone_tables h r
  | setLocateEntry r => exact execSetLocateEntry_tables h r
  | clearLocateEntry r => exact execClearLocateEntry_tables h r
  | setAnchor r => exact execSetAnchor_tables h r
  | setSchedule r => exact execSetSchedule_tables h r
  | setEventMask r => exact execSetEventMask_tables h r
  | acknowledgeEvents r => exact execAcknowledgeEvents_tables h r
  | setReportRate r => exact execSetReportRate_tables h r
  | watchPosition r => exact execWatchPosition_tables h r
  | cancelWatch r => exact execCancelWatch_tables h r
  | armCapture r => exact execArmCapture_tables h r
  | triggerCapture r => exact execTriggerCapture_tables h r
  | abortCapture r => exact execAbortCapture_tables h r
  | releaseCapture r => exact execReleaseCapture_tables h r
  | setCueCodes r => exact execSetCueCodes_tables h r
  | setAutoCue r => exact execSetAutoCue_tables h r
  | writeCue r => exact execWriteCue_tables h r
  | cancelCueWrite r => exact execCancelCueWrite_tables h r
  | writeProfile r => exact execWriteProfile_tables h r
  | resetPart r => exact execResetPart_tables h r
  | resetInputRelease => exact execResetInputRelease_tables h
  | byteReceived l b stop => exact execByteReceived_tables h l b stop

theorem withPending_sameBut (l : List Instr) : State.SameBut [] s (s.withPending l) := by
  refine ⟨fun g n => ?_⟩
  have h := g.same_refl s
  cases g <;> exact h

theorem tick_sameBut : State.SameBut [] s s.tick := by
  refine ⟨fun g n => ?_⟩
  have h := g.same_refl s
  cases g <;> exact h

/-- Settles O7: the clock's tick touches no table, and a command runs on the state with the queue's rest, which has the same
tables. -/
theorem stepKeepsTables : Obligations.StepKeepsTables := by
  intro s t h e
  unfold step at e
  split at e
  · exact exec_tables (tables_of_sameBut h (withPending_sameBut _) (by simp)) _ t e
  · cases e
    exact tables_of_sameBut h tick_sameBut (by simp)

end Sys2Proof.Machine
end

section
/-! A latched fault kind stays latched under the sequencer's operations and the reactions (R173: only a Clear Fault takes a kind out
of the set), and what a fault request comes to (R174). -/

namespace Sys2Proof.Machine
variable {s t : State} {k : FaultKind}

/-! ### The entries into the transport states -/

theorem tryCueWrite_faults : s.tryCueWrite.faults = s.faults := by
  unfold State.tryCueWrite
  split
  · rfl
  · split <;> rfl

theorem arrivePlaying_faults : s.arrivePlaying.faults = s.faults := by
  unfold State.arrivePlaying
  dsimp only
  split
  · exact tryCueWrite_faults.trans (setChase_faults _)
  · exact tryCueWrite_faults

/-- An entry changes no latched fault. -/
theorem enter_faultSet (x : Transport) : (s.enter x).faults.set = s.faults.set := by
  have left : s.leavePlaying.faults.set = s.faults.set := by
    unfold State.leavePlaying
    dsimp only
    split
    · rw [endCueWrite_faults]
    · rfl
  have stopped : (if s.motion.state = .playing ∧ x ≠ .playing then s.leavePlaying else s).faults.set = s.faults.set := by
    split
    · exact left
    · rfl
  unfold State.enter
  dsimp only
  split
  · refine (congrArg Faults.set arrivePlaying_faults).trans ?_
    split <;> exact stopped
  · split <;> exact stopped

/-- A kind is latched. -/
def State.HasFault (s : State) (k : FaultKind) : Prop := k ∈ s.faults.set

theorem hasFault_of_eq (h : s.HasFault k) (e : t.faults.set = s.faults.set) : t.HasFault k := by
  rw [State.HasFault, e]
  exact h

theorem hasFault_of_faults (h : s.HasFault k) (e : t.faults = s.faults) : t.HasFault k := hasFault_of_eq h (congrArg Faults.set e)

theorem hasFault_ite {p : Prop} [Decidable p] {u v : State} (hu : p → u.HasFault k) (hv : ¬p → v.HasFault k) :
    (if p then u else v).HasFault k := by
  split
  · exact hu ‹_›
  · exact hv ‹_›

theorem report_hasFault (h : s.HasFault k) (x : Source) (v : Int) : (s.report x v).HasFault k := hasFault_of_faults h (report_faults ..)

theorem enter_hasFault (h : s.HasFault k) (x : Transport) : (s.enter x).HasFault k := hasFault_of_eq h (enter_faultSet x)

theorem enterHalting_hasFault (h : s.HasFault k) (b : Bool) (d : HaltDest) : (s.enterHalting b d).HasFault k :=
  hasFault_of_faults (s := s.enter .halting) (enter_hasFault h .halting) discardQueue_faults

theorem endActive_hasFault (h : s.HasFault k) (res : MoveResult) : (s.endActive res).HasFault k :=
  hasFault_of_faults h (endActive_faults res)

theorem endAll_hasFault (h : s.HasFault k) (res : MoveResult) : (s.endAll res).HasFault k := hasFault_of_faults h (endAll_faults res)

theorem setChase_hasFault (h : s.HasFault k) (x : ChaseState) : (s.setChase x).HasFault k := hasFault_of_faults h (setChase_faults x)

/-! ### Moves -/

theorem queueEmptied_hasFault (h : s.HasFault k) : s.queueEmptied.HasFault k := by
  unfold State.queueEmptied
  split
  case h_1 | h_2 => exact enterHalting_hasFault h ..
  all_goals exact h

theorem failMove_hasFault (h : s.HasFault k) (res : MoveResult) : (s.failMove res).HasFault k :=
  queueEmptied_hasFault (endActive_hasFault h res)

theorem goWinding_hasFault (h : s.HasFault k) : s.goWinding.HasFault k := by
  unfold State.goWinding
  split
  case h_1 | h_2 => exact enter_hasFault h _
  all_goals exact h

theorem goPlaying_hasFault (h : s.HasFault k) : s.goPlaying.HasFault k := by
  unfold State.goPlaying
  split
  case h_1 => exact enter_hasFault h _
  all_goals exact h

theorem beginSeek_hasFault (h : s.HasFault k) (fr : Nat) : (s.beginSeek fr).HasFault k := by
  unfold State.beginSeek
  dsimp only
  split
  · exact failMove_hasFault h _
  · exact goWinding_hasFault h

theorem startChase_hasFault (h : s.HasFault k) : s.startChase.HasFault k := by
  have started : State.HasFault { s with chase := { s.chase with e := s.startError } } k := h
  unfold State.startChase
  dsimp only
  split
  · split
    · exact failMove_hasFault h _
    · split
      · exact beginSeek_hasFault (setChase_hasFault started _) _
      · exact hasFault_ite (fun _ => goPlaying_hasFault (setChase_hasFault started _)) fun _ =>
          beginSeek_hasFault (setChase_hasFault started _) _
  · exact goPlaying_hasFault (setChase_hasFault started _)

theorem makeActive_hasFault (h : s.HasFault k) (r : MoveRecord) (x : Option Int) : (s.makeActive r x).HasFault k := by
  unfold State.makeActive
  dsimp only
  split <;> exact h

theorem startMove_hasFault (h : s.HasFault k) (r : MoveRecord) (x : Option Int) : (s.startMove r x).HasFault k := by
  unfold State.startMove
  split
  · exact goWinding_hasFault h
  · exact goWinding_hasFault h
  · exact goPlaying_hasFault h
  · exact startChase_hasFault h
  · exact h

theorem activateNext_hasFault (n : Nat) : ∀ {s : State}, s.HasFault k → (s.activateNext n).HasFault k := by
  induction n with
  | zero => exact id
  | succ n ih =>
    intro s h
    unfold State.activateNext
    split
    · exact queueEmptied_hasFault h
    · split
      · exact failMove_hasFault (makeActive_hasFault h ..) _
      · exact hasFault_ite (fun _ => ih (endActive_hasFault (makeActive_hasFault h ..) _)) fun _ =>
          hasFault_ite (fun _ => ih (endActive_hasFault (makeActive_hasFault h ..) _)) fun _ =>
            startMove_hasFault (makeActive_hasFault h ..) ..

theorem activate_hasFault (h : s.HasFault k) : s.activate.HasFault k := activateNext_hasFault _ h

theorem passTarget_hasFault (h : s.HasFault k) (l : LocateCtx) : (s.passTarget l).HasFault k := by
  have counted : s.countPass.HasFault k := by
    unfold State.countPass
    split <;> exact h
  refine hasFault_ite (fun _ => counted) fun _ => ?_
  unfold State.overshoot
  split
  · exact report_hasFault (enterHalting_hasFault h ..) ..
  · exact failMove_hasFault h _

theorem settleEnd_hasFault (h : s.HasFault k) (l : LocateCtx) : (s.settleEnd l).HasFault k := by
  refine hasFault_ite (fun _ => ?_) fun _ => hasFault_ite (fun _ => passTarget_hasFault h l) fun _ => h
  split
  · exact report_hasFault (enter_hasFault h _) ..
  · split
    · exact h
    · exact activate_hasFault (endActive_hasFault h _)

/-! ### A fault request -/

/-- The moves ended by a fault request, with SIZING_DONE in SIZING (R174). -/
def State.faultEnded (s : State) : State :=
  if s.motion.state = .sizing then (s.endAll .faulted).sizingDone 3 else s.endAll .faulted

theorem faultEnded_faults : s.faultEnded.faults = s.faults := by
  unfold State.faultEnded
  split
  · exact (report_faults ..).trans (endAll_faults _)
  · exact endAll_faults _

theorem faultEnded_motion : s.faultEnded.motion = (s.endAll .faulted).motion := by
  unfold State.faultEnded
  split
  · exact report_motion ..
  · rfl

theorem faultEnded_state : s.faultEnded.motion.state = s.motion.state :=
  (congrArg Motion.state faultEnded_motion).trans (endAll_state _)

/-- A class A fault brakes (R174). -/
theorem faultRequest_a (h : s.motion.state ≠ .braking) (k : s.motion.state ≠ .fault) :
    s.faultRequest .a = s.faultEnded.enter .braking := by
  unfold State.faultRequest
  dsimp only
  split
  case h_1 | h_2 => contradiction
  all_goals rfl

theorem faultRequest_a_of_braking (h : s.motion.state = .braking) : s.faultRequest .a = s.faultEnded := by
  unfold State.faultRequest
  simp only [h, State.faultEnded]

/-- A class B fault halts the states with a reference under way (R174). -/
theorem faultRequest_b (driven : s.motion.state.braked = false) (h : s.motion.state ≠ .halting) :
    s.faultRequest .b = s.faultEnded.enterHalting (decide (s.motion.state = .playing)) .stopped := by
  unfold State.faultRequest State.faultEnded
  generalize s.motion.state = x at *
  cases x with
  | sizing | stopped | winding | engaging | playing | releasing => rfl
  | halting => exact absurd rfl h
  | unthreaded | braking | fault | standby => cases driven

theorem faultRequest_b_of_halting (h : s.motion.state = .halting) : s.faultRequest .b = s.faultEnded := by
  unfold State.faultRequest State.faultEnded
  simp only [h]

theorem faultRequest_hasFault (h : s.HasFault k) (c : FaultClass) : (s.faultRequest c).HasFault k := by
  have ended : s.faultEnded.HasFault k := hasFault_of_faults h faultEnded_faults
  unfold State.faultRequest
  dsimp only
  split
  · split
    case h_1 | h_2 => exact ended
    all_goals exact enter_hasFault ended _
  · split
    case h_9 | h_10 | h_11 => exact ended
    case h_7 | h_8 => exact enter_hasFault ended _
    all_goals exact enterHalting_hasFault ended ..

theorem mem_faultJoin {x : FaultKind} {l : List FaultKind} : x ∈ faultJoin k l ↔ x = k ∨ x ∈ l := by
  have named : x ∈ faultKinds := by cases x <;> decide
  simp [faultJoin, named]

theorem latchFault_hasFault (x : FaultKind) (h : k = x ∨ s.HasFault k) : (s.latchFault x).HasFault k := by
  by_cases latched : x ∈ s.faults.set
  · rw [State.latchFault, if_pos latched]
    rcases h with rfl | h
    · exact latched
    · exact h
  · rw [latchFault_fresh latched]
    refine faultRequest_hasFault ?_ _
    rw [State.HasFault, faulted_faults]
    exact mem_faultJoin.2 h

/-! ### The reactions -/

theorem reactTension_hasFault (h : s.HasFault k) (ht : s.reactTension = some t) : t.HasFault k := by
  unfold State.reactTension at ht
  dsimp only at ht
  split at ht
  · cases ht; exact latchFault_hasFault _ (.inr h)
  · split at ht
    · cases ht; exact latchFault_hasFault _ (.inr h)
    · split at ht
      · cases ht; exact latchFault_hasFault _ (.inr h)
      · split at ht <;> cases ht
        exact enter_hasFault (endAll_hasFault h _) _

theorem reactSizing_hasFault (h : s.HasFault k) (ht : s.reactSizing = some t) : t.HasFault k := by
  have noTape : ((s.enterHalting false .unthreaded).sizingDone 1).HasFault k := report_hasFault (enterHalting_hasFault h ..) ..
  unfold State.reactSizing at ht
  split at ht
  · split at ht
    · split at ht
      · split at ht <;> cases ht
        · exact h
        · exact enter_hasFault h _
      · cases ht
    · split at ht
      · cases ht; exact noTape
      · split at ht <;> cases ht
        exact h
    · split at ht <;> cases ht
      exact noTape
  · cases ht

theorem engaged_hasFault (h : s.HasFault k) : s.engaged.HasFault k := by
  unfold State.engaged
  split
  · split
    case h_3 => exact hasFault_ite (fun _ => enter_hasFault h _) fun _ => enter_hasFault h _
    all_goals exact enter_hasFault h _
  · exact enter_hasFault h _

theorem leaveReleasing_hasFault (h : s.HasFault k) : s.leaveReleasing.HasFault k := by
  have free : s.released.HasFault k := h
  unfold State.leaveReleasing
  dsimp only
  split
  · exact hasFault_ite (fun _ => enter_hasFault free _) fun _ => enter_hasFault free _
  · exact hasFault_ite (fun _ => enter_hasFault (by exact free) _) fun _ => enterHalting_hasFault free ..

theorem reactPinch_hasFault (h : s.HasFault k) (ht : s.reactPinch = some t) : t.HasFault k := by
  unfold State.reactPinch at ht
  split at ht
  · cases ht
  · split at ht
    case h_1 => split at ht <;> cases ht; exact engaged_hasFault h
    case h_2 => split at ht <;> cases ht; exact leaveReleasing_hasFault h
    case h_3 => split at ht <;> cases ht; exact h
    all_goals cases ht

theorem reactHalting_hasFault (h : s.HasFault k) (ht : s.reactHalting = some t) : t.HasFault k := by
  unfold State.reactHalting at ht
  split at ht
  · split at ht
    · split at ht
      · cases ht
        refine hasFault_ite (fun _ => enter_hasFault h _) fun _ => ?_
        split <;> exact enter_hasFault h _
      · split at ht <;> cases ht
        exact h
    · cases ht
  · cases ht

theorem reactBraking_hasFault (h : s.HasFault k) (ht : s.reactBraking = some t) : t.HasFault k := by
  unfold State.reactBraking at ht
  split at ht <;> cases ht
  exact enter_hasFault h _

theorem reactHold_hasFault (h : s.HasFault k) (ht : s.reactHold = some t) : t.HasFault k := by
  unfold State.reactHold at ht
  split at ht
  · split at ht
    · split at ht
      · cases ht; exact enter_hasFault h _
      · split at ht <;> cases ht; exact enter_hasFault h _
    · cases ht
  · cases ht

theorem reactSettled_hasFault (h : s.HasFault k) (ht : s.reactSettled = some t) : t.HasFault k := by
  unfold State.reactSettled at ht
  split at ht
  · split at ht <;> cases ht; exact settleEnd_hasFault h _
  · cases ht

theorem reactQueue_hasFault (h : s.HasFault k) (ht : s.reactQueue = some t) : t.HasFault k := by
  unfold State.reactQueue at ht
  split at ht <;> cases ht
  exact activate_hasFault h

theorem react_hasFault (h : s.HasFault k) (ht : s.react = some t) : t.HasFault k := by
  rcases react_cases ht with ht | ht | ht | ht | ht | ht | ht | ht
  · exact reactTension_hasFault h ht
  · exact reactSizing_hasFault h ht
  · exact reactPinch_hasFault h ht
  · exact reactHalting_hasFault h ht
  · exact reactBraking_hasFault h ht
  · exact reactHold_hasFault h ht
  · exact reactSettled_hasFault h ht
  · exact reactQueue_hasFault h ht

theorem settle_hasFault (h : s.HasFault k) : s.settle.HasFault k :=
  hasFault_of_faults (reactions_keep (P := (State.HasFault · k)) (fun _ _ => react_hasFault) 64 s h) syncLoop_faults

end Sys2Proof.Machine
end

section
/-! The release of the reset input and the end of the settle period: what the Fault Supervisor's reading of its inputs leaves. -/

namespace Sys2Proof.Machine
variable {s t u : State} {k : FaultKind} {P : FaultKind → Prop}

/-! ### The inputs read (R168, R174) -/

/-- The inputs read so far: the kinds of a predicate are latched, and from the first of them on the transport is BRAKING. -/
structure State.InputsRead (s : State) (P : FaultKind → Prop) : Prop where
  set   : ∀ k, k ∈ s.faults.set ↔ P k
  state : s.motion.state = if s.faults.set = [] then .unthreaded else .braking

theorem latchFault_brakes (hk : k.class = .a) (fresh : k ∉ s.faults.set)
    (h : s.motion.state = .unthreaded ∨ s.motion.state = .braking) :
    (s.latchFault k).faults.set = faultJoin k s.faults.set ∧ (s.latchFault k).motion.state = .braking := by
  have state : (s.faulted k).motion.state = s.motion.state := by rw [faulted_motion]
  have joined : (s.faulted k).faultEnded.faults.set = faultJoin k s.faults.set := by rw [faultEnded_faults, faulted_faults]
  rw [latchFault_fresh fresh, hk]
  rcases h with h | h
  · rw [faultRequest_a (by rw [state, h]; decide) (by rw [state, h]; decide), enter_faultSet, enter_motion]
    exact ⟨joined, rfl⟩
  · rw [faultRequest_a_of_braking (state.trans h), faultEnded_state]
    exact ⟨joined, state.trans h⟩

/-- An asserted input latches its class A kind. -/
theorem State.InputsRead.latch (h : s.InputsRead P) (hk : k.class = .a) : (s.latchFault k).InputsRead fun x => x = k ∨ P x := by
  obtain ⟨set, state⟩ := h
  by_cases latched : k ∈ s.faults.set
  · rw [State.latchFault, if_pos latched]
    exact ⟨fun x => (set x).trans ⟨.inr, fun e => e.elim (fun same => same ▸ (set k).1 latched) id⟩, state⟩
  · obtain ⟨joined, braking⟩ := latchFault_brakes hk latched (by rw [state]; split <;> simp)
    have nonempty : (s.latchFault k).faults.set ≠ [] := List.ne_nil_of_mem (a := k) (by rw [joined, mem_faultJoin]; exact .inl rfl)
    exact ⟨fun x => by rw [joined, mem_faultJoin, set], by rw [braking, if_neg nonempty]⟩

theorem State.InputsRead.latchIf (h : s.InputsRead P) (b : Bool) (hk : k.class = .a) :
    (s.latchIf b k).InputsRead fun x => (x = k ∧ b = true) ∨ P x := by
  cases b
  · simpa [State.latchIf] using h
  · simpa [State.latchIf] using h.latch hk

theorem readInputs_read (state : s.motion.state = .unthreaded) (none : s.faults.set = []) : s.readInputs.InputsRead fun k =>
    (k = .driveL ∧ s.pins.faultL = true) ∨ (k = .driveR ∧ s.pins.faultR = true) ∨
      (k = .driveC ∧ s.pins.faultC = true) ∨ (k = .supplyLow ∧ s.pins.supplyWarning = true) := by
  have before : s.InputsRead fun _ => False := ⟨by simp [none], by rw [none]; exact state⟩
  have left := before.latchIf s.pins.faultL (k := .driveL) rfl
  have right := left.latchIf s.pins.faultR (k := .driveR) rfl
  have capstan := right.latchIf s.pins.faultC (k := .driveC) rfl
  obtain ⟨set, braking⟩ := capstan.latchIf s.pins.supplyWarning (k := .supplyLow) rfl
  exact ⟨fun k => (set k).trans (by tauto), braking⟩

theorem readInputs_of_clear (left : s.pins.faultL = false) (right : s.pins.faultR = false) (capstan : s.pins.faultC = false)
    (supply : s.pins.supplyWarning = false) : s.readInputs = s := by
  simp [State.readInputs, State.latchIf, left, right, capstan, supply]

/-- With an input asserted the transport is BRAKING after the reading. -/
theorem readInputs_braking (state : s.motion.state = .unthreaded) (none : s.faults.set = [])
    (some : s.pins.faultL = true ∨ s.pins.faultR = true ∨ s.pins.faultC = true ∨ s.pins.supplyWarning = true) :
    s.readInputs.motion.state = .braking := by
  obtain ⟨set, braking⟩ := readInputs_read state none
  obtain ⟨k, found⟩ : ∃ k, k ∈ s.readInputs.faults.set := by
    rcases some with h | h | h | h
    · exact ⟨.driveL, (set _).2 (.inl ⟨rfl, h⟩)⟩
    · exact ⟨.driveR, (set _).2 (.inr (.inl ⟨rfl, h⟩))⟩
    · exact ⟨.driveC, (set _).2 (.inr (.inr (.inl ⟨rfl, h⟩)))⟩
    · exact ⟨.supplyLow, (set _).2 (.inr (.inr (.inr ⟨rfl, h⟩)))⟩
  rw [braking, if_neg (List.ne_nil_of_mem found)]

/-! ### BRAKING at the end of a step (R175) -/

/-- In BRAKING with the tape moving nothing is due. -/
theorem react_none_of_braking (h : s.motion.state = .braking) (moving : s.position.atRest = false) : s.react = none := by
  have tension : s.reactTension = none := by simp [State.reactTension, h, Transport.moving, Transport.braked]
  exact react_none tension (reactSizing_none (by simp [h]))
    (reactPinch_none_of_state (by simp [h]) (by simp [h]) (by simp [h])) (reactHalting_none (by simp [h]))
    (reactBraking_none (.inr moving)) (reactHold_none_of_state (by simp [h]) (by simp [h]))
    (reactSettled_none_of_state (by simp [h]) (by simp [h])) (reactQueue_none (.inl (by simp [h])))

theorem settle_braked (h : s.motion.state = .braking) : s.settle.faults.set = s.faults.set ∧
    s.settle.motion.state = if s.position.atRest = true then .fault else .braking := by
  by_cases rest : s.position.atRest = true
  · rw [settle_of_braking h rest, syncLoop_faults, syncLoop_motion, enter_faultSet, enter_motion, if_pos rest]
    exact ⟨rfl, rfl⟩
  · rw [settle_of_none (react_none_of_braking h (by simpa using rest)), syncLoop_faults, syncLoop_motion, if_neg rest]
    exact ⟨rfl, h⟩

/-! ### The obligation -/

theorem settlePeriodEnd_eq (h : s.startup.phase = .settle) : exec .settlePeriodEnd s = .next (State.readInputs { s with
    now := max s.now (s.startup.start + Config.msec 200), startup := { s.startup with phase := .load } }).settle := by
  show execSettlePeriodEnd s = _
  unfold execSettlePeriodEnd
  rw [h]
  rfl

/-- Settles O22: with no input asserted nothing is latched (`readInputs_of_clear`), and else the kinds found asserted are, in
BRAKING (`readInputs_read`), which at rest is left for FAULT (`settle_braked`). -/
theorem settlePeriod : Obligations.SettlePeriod := by
  intro s u
  refine ⟨fun held => ?_, fun free => ?_, fun outside => ?_, fun settling hu => ?_⟩
  · show execResetInputRelease s = _
    unfold execResetInputRelease
    rw [held]
  · show execResetInputRelease s = _
    unfold execResetInputRelease
    split
    · contradiction
    all_goals rfl
  · show execSettlePeriodEnd s = _
    unfold execSettlePeriodEnd
    split
    · contradiction
    all_goals rfl
  · rw [settlePeriodEnd_eq settling, ← hu]
    have pins : u.pins = s.pins := by rw [hu]
    refine ⟨fun left right capstan supply settled => ?_, fun some state none => ?_⟩
    · rw [← pins] at left right capstan supply
      rw [readInputs_of_clear left right capstan supply, settle_of_settled settled]
    · have parked : u.motion.state = .unthreaded := by rw [hu]; exact state
      have clear : u.faults.set = [] := by rw [hu]; exact none
      have back : u.readInputs.settle.backdrop = u.backdrop := settle_backdrop.trans readInputs_backdrop
      have position : u.readInputs.position = s.position := by
        rw [field_of_backdrop (readInputs_backdrop (s := u)) (·.position) fun _ => rfl, hu]
      obtain ⟨kept, ends⟩ := settle_braked (readInputs_braking parked clear (by rw [pins]; exact some))
      rw [position] at ends
      refine ⟨_, rfl, field_of_backdrop back (·.now) fun _ => rfl, field_of_backdrop back (·.startup) fun _ => rfl, ends,
        fun k => ?_⟩
      rw [kept, (readInputs_read parked clear).set, pins]

end Sys2Proof.Machine
end

section
/-! CONVERSION_COMPLETE: the pointer and the schedule, the current and supply codes with their counters, and the kinds that a full
counter latches. -/

namespace Sys2Proof.Machine
variable {s t u : State} {raw : Nat} {k : FaultKind}

/-! ### The conversion made and the pointer (R48, R52) -/

/-- A conversion made for a slot is handed to that slot's consumer. -/
theorem conversionComplete_slot {x : BitVec 12} {z : Slot} (h : s.startup.phase ≠ .held)
    (slot : s.conv.schedule[s.conv.ptr]? = some z) :
    exec (.conversionComplete x) s = .next ((s.converted x.toNat).handSample z x.toNat).settle.handOver := by
  have made : s.conv.slot = z := by rw [Converter.slot, List.getD_eq_getElem?_getD, slot, Option.getD_some]
  refine (if_neg h).trans ?_
  rw [made]
  rfl

/-- A sample stored in its input's place, whatever the schedule. -/
def Converter.withCode (c : Converter) (raw : Nat) : Slot → Converter
  | .armL => { c with armL := raw }
  | .armR => { c with armR := raw }
  | .curL => { c with curL := raw }
  | .curR => { c with curR := raw }
  | .curC => { c with curC := raw }
  | .supply => { c with supply := raw }
  | .idle => c

/-- The converter past a conversion that ended at a moment. -/
def Converter.passed (c : Converter) (n : Nat) : Converter := { c.advanced with lastDone := n }

theorem passed_of_pending {c : Converter} {sc : List Slot} (h : c.pendingSchedule = some sc) (n : Nat) :
    c.passed n = { c with schedule := sc, pendingSchedule := none, ptr := 0, lastDone := n } := by
  rw [Converter.passed, Converter.advanced, h]

theorem passed_of_none {c : Converter} (h : c.pendingSchedule = none) (n : Nat) :
    c.passed n = { c with ptr := (c.ptr + 1) % 16, lastDone := n } := by
  rw [Converter.passed, Converter.advanced, h]

/-- The pointer moves on alike whatever sample has been stored. -/
theorem converted_eq {z : Slot} (slot : s.conv.schedule[s.conv.ptr]? = some z) : s.converted raw = { s with
    now := max s.now (s.conv.lastDone + 125)
    conv := (s.conv.passed (max s.now (s.conv.lastDone + 125))).withCode raw z } := by
  have made : s.conv.slot = z := by rw [Converter.slot, List.getD_eq_getElem?_getD, slot, Option.getD_some]
  have stored : s.conv.stored raw = s.conv.withCode raw z := by
    rw [Converter.stored, made]
    cases z <;> rfl
  have advanced : { (s.conv.withCode raw z).advanced with lastDone := max s.now (s.conv.lastDone + 125) } =
      (s.conv.passed (max s.now (s.conv.lastDone + 125))).withCode raw z := by
    cases h : s.conv.pendingSchedule with
    | none =>
      rw [passed_of_none h, Converter.advanced]
      cases z <;> simp only [Converter.withCode, h]
    | some sc =>
      rw [passed_of_pending h, Converter.advanced]
      cases z <;> simp only [Converter.withCode, h]
  rw [State.converted, stored]
  exact congrArg (fun c => { s with now := max s.now (s.conv.lastDone + 125), conv := c }) advanced

/-! ### A counter that latches at its limit (R169, R170) -/

theorem judging_eq (h : s.startup.phase ≠ .held) : s.judging = decide (s.startup.phase ≠ .settle) := by
  unfold State.judging
  split <;> simp_all

/-- A counter below its limit latches nothing. -/
theorem settle_of_few {n limit : Nat} (few : n < limit) (b : Bool) (settled : u.Settled) :
    (u.latchIf (b && decide (limit ≤ n)) k).settle = u := by
  rw [decide_eq_false (by omega), Bool.and_false]
  exact settle_of_settled settled

/-- A counter at its limit latches its kind. -/
theorem settle_of_full (n : Nat) : (u.latchIf (true && decide (n ≤ n)) k).settle.conv = u.conv ∧
    (u.latchIf (true && decide (n ≤ n)) k).settle.HasFault k := by
  rw [decide_eq_true (Nat.le_refl n)]
  refine ⟨?_, settle_hasFault (latchFault_hasFault k (.inl rfl))⟩
  rw [settle_conv]
  exact field_of_backdrop (latchIf_backdrop (true && true) k) (·.conv) fun _ => rfl

/-- What a sample that only counts leads to, its counter below the limit or at it. -/
theorem outcomes_of_counter {c : Instr} {n limit : Nat} {b : Bool} (hb : b = decide (s.startup.phase ≠ .settle))
    (made : exec c s = .next (u.latchIf (b && decide (limit ≤ n)) k).settle.handOver) :
    (n < limit → u.Settled → exec c s = .next u.handOver) ∧
      (n = limit → s.startup.phase ≠ .settle →
        ∃ t : State, exec c s = .next t.handOver ∧ t.conv = u.conv ∧ k ∈ t.faults.set) := by
  refine ⟨fun few settled => ?_, ?_⟩
  · rw [made, settle_of_few few b settled]
  · rintro rfl judged
    rw [hb, decide_eq_true judged] at made
    obtain ⟨conv, latched⟩ := settle_of_full (u := u) (k := k) n
    exact ⟨_, made, conv, latched⟩

/-! ### Currents (R53, R169) -/

/-- The slot of a motor's current. -/
def currentSlot : Motor → Slot
  | .left => .curL
  | .right => .curR
  | .capstan => .curC

/-- A motor's current code and mismatch counter replaced. -/
def State.withCurrent (s : State) (m : Motor) (code : Int) (n : Nat) : State :=
  match m with
  | .left => { s with conv := { s.conv with codeL := code }, faults := { s.faults with mismL := n } }
  | .right => { s with conv := { s.conv with codeR := code }, faults := { s.faults with mismR := n } }
  | .capstan => { s with conv := { s.conv with codeC := code }, faults := { s.faults with mismC := n } }

/-- What the Fault Supervisor holds a motor's current sample against: its calibration, its drive code and its counter. -/
def State.currentBasis (s : State) : Motor → Nat × Nat × Int × Nat
  | .left => (s.profile.zeroL, s.profile.scaleL, s.reelL.code, s.faults.mismL)
  | .right => (s.profile.zeroR, s.profile.scaleR, s.reelR.code, s.faults.mismR)
  | .capstan => (s.profile.zeroC, s.profile.scaleC, s.capstan.code, s.faults.mismC)

/-- A motor's counter after a current sample. -/
def State.countMismatch (s : State) (old : Nat) (code drive : Int) : Nat :=
  if s.judging = true then mismatchAfter old code drive else old

theorem currentSample_eq (m : Motor) {nul scale old : Nat} {drive : Int} (basis : (nul, scale, drive, old) = s.currentBasis m) :
    s.currentSample m raw = (s.withCurrent m (currentCode raw nul scale)
      (s.countMismatch old (currentCode raw nul scale) drive)).latchIf
        (s.judging && decide (64 ≤ s.countMismatch old (currentCode raw nul scale) drive)) (driveFaultKind m) := by
  cases m <;> cases basis <;> rfl

theorem currentCode_eq (raw nul scale : Nat) :
    currentCode raw nul scale = max (-2047) (min 2047 (Int.tdiv (((raw : Int) - nul) * scale) 256)) :=
  clampInt_eq _ _ _ (by decide)

theorem mismatchAfter_eq (cnt : Nat) (code drive : Int) :
    mismatchAfter cnt code drive = if 512 < |code - drive| then min 64 (cnt + 1) else 0 := by
  have same : 512 < (code - drive).natAbs ↔ 512 < |code - drive| := by
    rw [Int.abs_eq_natAbs]
    omega
  simp only [mismatchAfter, same]

theorem countMismatch_eq (h : s.startup.phase ≠ .held) (old : Nat) (code drive : Int) : s.countMismatch old code drive =
    if s.startup.phase = .settle then old else if 512 < |code - drive| then min 64 (old + 1) else 0 := by
  rw [State.countMismatch, judging_eq h, mismatchAfter_eq]
  by_cases settling : s.startup.phase = .settle <;> simp [settling]

/-! ### The supply (R54, R170) -/

/-- The supply counter after a sample. -/
def State.countSupply (s : State) (raw : Nat) : Nat :=
  if s.judging = true then supplyAfter s.profile s.faults.supply raw else s.faults.supply

theorem supplySample_eq (raw : Nat) : s.supplySample raw =
    State.latchIf { s with faults := { s.faults with supply := s.countSupply raw } }
      (s.judging && decide (16 ≤ s.countSupply raw)) .supplyLow := by
  unfold State.supplySample State.countSupply
  cases s.judging <;> rfl

theorem countSupply_eq (h : s.startup.phase ≠ .held) (raw : Nat) : s.countSupply raw =
    if s.startup.phase = .settle then s.faults.supply
    else if raw < s.profile.supplyLow then min 16 (s.faults.supply + 1) else 0 := by
  rw [State.countSupply, judging_eq h, supplyAfter]
  by_cases settling : s.startup.phase = .settle <;> simp [settling]

/-! ### The obligation -/

/-- Settles O34: every sample is handed on past the pointer (`converted_eq`), a current by `currentSample_eq` and a supply by
`supplySample_eq`, and their counters by `outcomes_of_counter`. -/
theorem conversionComplete : Obligations.ConversionComplete := by
  intro s raw c
  refine ⟨fun held => if_pos held, fun running hc => ?_⟩
  have passed : c = s.conv.passed (max s.now (s.conv.lastDone + 125)) := by
    rw [hc]
    split
    · exact (passed_of_pending ‹_› _).symm
    · exact (passed_of_none ‹_› _).symm
  refine ⟨fun u slot hu settled => ?_, fun m nul scale old n drive code u slot basis hcode hn hu => ?_,
    fun n u slot hn hu => ?_⟩
  · have left : u = s.converted raw.toNat := by
      rw [hu, converted_eq slot, ← passed]
      rfl
    rw [conversionComplete_slot running slot, ← left]
    exact congrArg (fun v => Host.Outcome.next v.handOver) (settle_of_settled settled)
  · have named : s.conv.schedule[s.conv.ptr]? = some (currentSlot m) := by rw [slot]; cases m <;> rfl
    have left : u = (s.converted raw.toNat).withCurrent m code n := by
      rw [hu, converted_eq named, ← passed]
      cases m <;> rfl
    have counted : n = (s.converted raw.toNat).countMismatch old code drive := hn.trans (countMismatch_eq running ..).symm
    have made := conversionComplete_slot (x := raw) running named
    rw [show (s.converted raw.toNat).handSample (currentSlot m) raw.toNat = (s.converted raw.toNat).currentSample m raw.toNat from
      by cases m <;> rfl, currentSample_eq m (by rw [basis]; cases m <;> rfl), currentCode_eq, ← hcode, ← counted, ← left] at made
    have outcomes := outcomes_of_counter (judging_eq running) made
    cases m <;> exact outcomes
  · have left : u = { s.converted raw.toNat with faults := { s.faults with supply := n } } := by
      rw [hu, converted_eq slot, ← passed]
      rfl
    have counted : n = (s.converted raw.toNat).countSupply raw.toNat := hn.trans (countSupply_eq running _).symm
    have made := conversionComplete_slot (x := raw) running slot
    rw [show (s.converted raw.toNat).handSample .supply raw.toNat = (s.converted raw.toNat).supplySample raw.toNat from rfl,
      supplySample_eq, ← counted] at made
    rw [left]
    exact outcomes_of_counter (judging_eq running) made

end Sys2Proof.Machine
end

section
/-! An arm sample at the detectors, and what the tension states then find due in the transport. -/

namespace Sys2Proof.Machine
variable {s t : State} {d : Side} {a : Arm} {p : Profile} {f raw : Nat} {k : FaultKind}

/-! ### The detectors (R57, R58) -/

/-- The slack run after a sample in NORMAL. -/
def Arm.slackAfter (a : Arm) (p : Profile) (f : Nat) : Nat := if f < p.slackAt then a.slackRun + 1 else 0

/-- The over run after a sample in NORMAL. -/
def Arm.overAfter (a : Arm) (p : Profile) (f : Nat) : Nat := if p.overAt < f then a.overRun + 1 else 0

/-- The return run after a sample in SLACK or OVER. -/
def Arm.returnAfter (a : Arm) (p : Profile) (f : Nat) : Nat :=
  if (a.state = .slack ∧ p.slackAt + p.hysteresis ≤ f) ∨ (a.state = .over ∧ f + p.hysteresis ≤ p.overAt) then a.returnRun + 1 else 0

theorem sampled_of_normal (h : a.state = .normal) : a.sampled p f =
    if p.nSlack ≤ a.slackAfter p f then ⟨f, .slack, 0, 0, 0⟩
    else if p.nOver ≤ a.overAfter p f then ⟨f, .over, 0, 0, 0⟩
    else { a with tension := f, slackRun := a.slackAfter p f, overRun := a.overAfter p f } := by
  unfold Arm.sampled
  rw [h]
  rfl

theorem sampled_of_other (h : a.state ≠ .normal) : a.sampled p f =
    if p.nClear ≤ a.returnAfter p f then ⟨f, .normal, 0, 0, 0⟩ else { a with tension := f, returnRun := a.returnAfter p f } := by
  unfold Arm.sampled Arm.returnAfter
  split
  case h_1 => contradiction
  all_goals simp [*]

theorem sampled_counts (h : a.state = .normal) (sl : a.slackAfter p f < p.nSlack) (ov : a.overAfter p f < p.nOver) :
    a.sampled p f = { a with tension := f, slackRun := a.slackAfter p f, overRun := a.overAfter p f } := by
  rw [sampled_of_normal h, if_neg (by omega), if_neg (by omega)]

theorem sampled_slackens (h : a.state = .normal) (sl : p.nSlack ≤ a.slackAfter p f) : a.sampled p f = ⟨f, .slack, 0, 0, 0⟩ := by
  rw [sampled_of_normal h, if_pos sl]

theorem sampled_tightens (h : a.state = .normal) (sl : a.slackAfter p f < p.nSlack) (ov : p.nOver ≤ a.overAfter p f) :
    a.sampled p f = ⟨f, .over, 0, 0, 0⟩ := by
  rw [sampled_of_normal h, if_neg (by omega), if_pos ov]

theorem sampled_waits (h : a.state ≠ .normal) (few : a.returnAfter p f < p.nClear) :
    a.sampled p f = { a with tension := f, returnRun := a.returnAfter p f } := by
  rw [sampled_of_other h, if_neg (by omega)]

theorem sampled_returns (h : a.state ≠ .normal) (many : p.nClear ≤ a.returnAfter p f) :
    a.sampled p f = ⟨f, .normal, 0, 0, 0⟩ := by
  rw [sampled_of_other h, if_pos many]

/-! ### An arm sample outside STANDBY's watch (R55, R60) -/

/-- F_meas of an arm from a raw code. -/
def State.tensionOf (s : State) (raw : Nat) : Side → Nat
  | .left => armTension raw s.profile.restL s.profile.gainL
  | .right => armTension raw s.profile.restR s.profile.gainR

theorem armSample_unwatched (h : s.watch = none) (d : Side) (raw : Nat) :
    s.armSample d raw = s.judgeArm d (s.tensionOf raw d) := by
  have judged : s.armSample d raw = (s.judgeArm d (s.tensionOf raw d)).watchArm d raw := by cases d <;> rfl
  obtain ⟨-, watch, -, -⟩ := judgeArm_keeps (s := s) d (s.tensionOf raw d)
  rw [judged]
  unfold State.watchArm
  rw [watch, h]

theorem judgeArm_of_same (h : (s.arm d).sampled s.profile f = a) (same : a.state = (s.arm d).state) :
    s.judgeArm d f = s.withArm d a := by
  unfold State.judgeArm
  rw [h]
  exact if_pos same

theorem judgeArm_of_changed (h : (s.arm d).sampled s.profile f = a) (changed : a.state ≠ (s.arm d).state) :
    s.judgeArm d f = (s.withArm d a).reportTo s.noticeLink (tensionSource d) a.state.ctorIdx s.position.pos := by
  unfold State.judgeArm
  rw [h]
  refine (if_neg changed).trans ?_
  cases d <;> rfl

/-- What a sample that changes an arm's tension state leaves, and leaves alone. -/
structure State.ArmChanged (t s : State) (d : Side) (x : TensionState) (n : Nat) : Prop where
  arm      : (t.arm d).state = x
  other    : t.arm (otherSide d) = s.arm (otherSide d)
  motion   : t.motion = s.motion
  faults   : t.faults = s.faults
  position : t.position = s.position
  profile  : t.profile = s.profile
  now      : t.now = n
  reels    : t.reelL = s.reelL ∧ t.reelR = s.reelR
  link     : t.noticeLink = s.noticeLink
  port     : t.port s.noticeLink = (s.port s.noticeLink).offer (tensionSource d) x.ctorIdx s.position.pos

theorem withArm_otherArm (d : Side) (a : Arm) : (s.withArm d a).arm (otherSide d) = s.arm (otherSide d) := by cases d <;> rfl

theorem withArm_port (d : Side) (a : Arm) (l : Link) : (s.withArm d a).port l = s.port l := by cases d <;> cases l <;> rfl

theorem reportTo_arm (l : Link) (x : Source) (v n : Int) (d : Side) : (s.reportTo l x v n).arm d = s.arm d := by
  cases d
  · exact State.reportTo_armL ..
  · exact State.reportTo_armR ..

theorem armChanged_of_report (d : Side) (a : Arm) :
    ((s.withArm d a).reportTo s.noticeLink (tensionSource d) a.state.ctorIdx s.position.pos).ArmChanged s d a.state s.now := by
  have link : (s.withArm d a).noticeLink = s.noticeLink := by cases d <;> rfl
  exact {
    arm := by rw [reportTo_arm, State.withArm_arm]
    other := by rw [reportTo_arm, withArm_otherArm]
    motion := by rw [State.reportTo_motion, State.withArm_motion]
    faults := by rw [State.reportTo_faults, State.withArm_faults]
    position := by rw [State.reportTo_position, State.withArm_position]
    profile := by rw [State.reportTo_profile, State.withArm_profile]
    now := by rw [State.reportTo_now, State.withArm_now]
    reels := by
      rw [State.reportTo_reelL, State.reportTo_reelR, State.withArm_reelL, State.withArm_reelR]
      exact ⟨rfl, rfl⟩
    link := (State.reportTo_noticeLink ..).trans link
    port := by rw [State.reportTo_port, withArm_port] }

/-! ### R171: what the tension states call for -/

theorem reactTension_slackLoop (hd : (s.arm d).state = .slack) (ho : (s.arm (otherSide d)).state = .normal)
    (moves : s.motion.state.moving = true) (fresh : .slackLoop ∉ s.faults.set) :
    s.reactTension = some (s.latchFault .slackLoop) := by
  cases d <;> simp only [State.arm, otherSide] at hd ho <;> simp [State.reactTension, hd, ho, moves, fresh]

theorem reactTension_tapeBreak (hd : (s.arm d).state = .slack) (ho : (s.arm (otherSide d)).state = .slack)
    (moves : s.motion.state.moving = true ∨ (s.motion.state = .halting ∧ .slackLoop ∈ s.faults.set))
    (fresh : .tapeBreak ∉ s.faults.set) : s.reactTension = some (s.latchFault .tapeBreak) := by
  cases d <;> simp only [State.arm, otherSide] at hd ho <;> simp [State.reactTension, hd, ho, moves, fresh]

theorem reactTension_overTension (hd : (s.arm d).state = .over) (ho : (s.arm (otherSide d)).state = .normal)
    (driven : s.motion.state.braked = false) (fresh : .overTension ∉ s.faults.set) :
    s.reactTension = some (s.latchFault .overTension) := by
  cases d <;> simp only [State.arm, otherSide] at hd ho <;> simp [State.reactTension, hd, ho, driven, fresh]

/-- A slack arm in STOPPED (R171). -/
theorem reactTension_unthreads (hd : (s.arm d).state = .slack) (ho : (s.arm (otherSide d)).state ≠ .over)
    (stopped : s.motion.state = .stopped) : s.reactTension = some ((s.endAll .halted).enter .unthreaded) := by
  cases d <;> simp only [State.arm, otherSide] at hd ho <;>
    simp [State.reactTension, hd, ho, stopped, Transport.moving, Transport.braked]

/-- One slack arm is no fault outside the moving states. -/
theorem reactTension_none_of_slack (hd : (s.arm d).state = .slack) (ho : (s.arm (otherSide d)).state = .normal)
    (still : s.motion.state = .halting ∨ s.motion.state = .sizing) : s.reactTension = none := by
  cases d <;> simp only [State.arm, otherSide] at hd ho <;> rcases still with e | e <;>
    simp [State.reactTension, hd, ho, e, Transport.moving]

/-- An arm OVER is latched once. -/
theorem reactTension_none_of_over (hd : (s.arm d).state = .over) (ho : (s.arm (otherSide d)).state = .normal)
    (halting : s.motion.state = .halting) (latched : .overTension ∈ s.faults.set) : s.reactTension = none := by
  cases d <;> simp only [State.arm, otherSide] at hd ho <;> simp [State.reactTension, hd, ho, halting, latched]

theorem react_of_tension (h : s.reactTension = some t) : s.react = some t := by rw [State.react, h]; rfl

theorem react_of_sizing_due (h : s.reactTension = none) (k : s.reactSizing = some t) : s.react = some t := by
  rw [State.react, h, k]
  rfl

/-- The arms are the same before and after what the sequencer does. -/
theorem arm_of_backdrop (h : t.backdrop = s.backdrop) (d : Side) : t.arm d = s.arm d := by
  cases d
  · exact field_of_backdrop h (·.armL) fun _ => rfl
  · exact field_of_backdrop h (·.armR) fun _ => rfl

theorem atRest_of_backdrop (h : t.backdrop = s.backdrop) : t.position.atRest = s.position.atRest :=
  congrArg PositionUnit.atRest (field_of_backdrop h (·.position) fun _ => rfl)

/-! ### The moves that a fault or a slack arm ends (R81, R82) -/

/-- The end of the moves empties the queue and leaves none active, a result that discards and an active move being in the queue. -/
theorem endAll_emptied {res : MoveResult} (discards : res.discards = true)
    (queued : ∀ m, s.motion.active = some m → s.motion.queue ≠ []) :
    (s.endAll res).motion.queue = [] ∧ (s.endAll res).motion.active = none := by
  have dropped : ∀ (l : List MoveRecord) (x : State), (l.foldl State.dropRecord x).motion.active = x.motion.active := by
    intro l
    induction l with
    | nil => exact fun _ => rfl
    | cons r l ih =>
      intro x
      rw [List.foldl_cons, ih]
      exact (congrArg Motion.active (State.freeComp_motion x r.comp) : (x.freeComp r.comp).motion.active = _)
  unfold State.endAll
  split
  · rename_i m active
    unfold State.endActive
    rw [active]
    cases queue : s.motion.queue with
    | nil => exact absurd queue (queued m active)
    | cons r rest =>
      simp only [discards, if_true]
      exact ⟨rfl, dropped _ _⟩
  · rename_i active
    exact ⟨rfl, (dropped _ _).trans active⟩

/-- The last move leaves, of whatever kind, at the sequencer. -/
theorem endActive_motion_of_single {m : ActiveMove} {r : MoveRecord} (res : MoveResult) (ha : s.motion.active = some m)
    (hq : s.motion.queue = [r]) (room : s.motion.completions.length < 16) : (s.endActive res).motion = { s.motion with
      queue := [], active := none, locate := none, completions := s.motion.completions ++ [s.recordFor r m res 0] } := by
  have chase : (if m.kind = .chase then s.endChase else s).motion = s.motion := by
    split
    · exact setChase_motion _
    · rfl
  have freed := (State.freeComp_motion (if m.kind = .chase then s.endChase else s) r.comp).trans chase
  have count : (if res.discards then ([] : List MoveRecord).length else 0) = 0 := ite_self 0
  unfold State.endActive State.pushCompletion
  rw [ha, hq]
  simp only [freed, count, room, if_true]
  split <;> rfl

end Sys2Proof.Machine
end

section
/-! What a change of an arm's tension state comes to in the transport: the halts of class B, BRAKING, UNTHREADED, and the thread
check and the slack arm of SIZING. -/

namespace Sys2Proof.Machine
variable {s t : State} {d : Side} {k : FaultKind} {z : SizingCtx}

/-! ### Braked states -/

theorem loopRuns_of_braked (h : s.motion.state.braked = true) : s.loopRuns = false := by
  unfold State.loopRuns
  generalize s.motion.state = x at *
  cases x with
  | unthreaded | braking | fault | standby => rfl
  | sizing | stopped | winding | engaging | playing | releasing | halting => cases h

theorem driven_of_moving {x : Transport} (h : x.moving = true) : x.braked = false ∧ x ≠ .halting := by
  revert h
  cases x <;> decide

theorem brakes_of_moving {x : Transport} (h : x.moving = true ∨ x = .halting) : x ≠ .braking ∧ x ≠ .fault := by
  revert h
  cases x <;> decide

/-- The entry into a braked state leaves what such a state means (R42, R92, R112). -/
theorem enter_braked {x : Transport} (h : x.braked = true) : (s.enter x).Braked := by
  have other : x ≠ .playing := by rintro rfl; cases h
  simp only [State.enter, h, other, if_true, if_false]
  exact ⟨rfl, rfl, rfl, rfl, rfl, rfl, rfl, rfl, rfl, rfl, rfl, rfl, rfl, rfl⟩

theorem syncLoop_braked (h : s.Braked) (braked : s.motion.state.braked = true) : s.syncLoop.Braked := by
  unfold State.syncLoop
  rw [loopRuns_of_braked braked]
  exact { h with capstan := rfl, integral := rfl, loop := rfl }

theorem enter_syncLoop_braked {x : Transport} (h : x.braked = true) : (s.enter x).syncLoop.Braked :=
  syncLoop_braked (enter_braked h) (by rw [enter_motion]; exact h)

/-! ### Class B faults in a driven state (R173, R174) -/

/-- The transport halts with one fault latched, in an empty queue. -/
structure State.HaltedBy (t s : State) (k : FaultKind) : Prop where
  state   : t.motion.state = .halting
  queue   : t.motion.queue = []
  active  : t.motion.active = none
  set     : t.faults.set = [k]
  primary : t.faults.primary = some ⟨k, s.position.pos, s.motion.state⟩

theorem faulted_emptied (k : FaultKind) (queued : ∀ m, s.motion.active = some m → s.motion.queue ≠ []) :
    (s.faulted k).faultEnded.motion.queue = [] ∧ (s.faulted k).faultEnded.motion.active = none := by
  rw [faultEnded_motion]
  exact endAll_emptied rfl (by rw [faulted_motion]; exact queued)

theorem faulted_alone (k : FaultKind) (clear : s.faults.set = []) : (s.faulted k).faultEnded.faults.set = [k] ∧
    (s.faulted k).faultEnded.faults.primary = some ⟨k, s.position.pos, s.motion.state⟩ := by
  rw [faultEnded_faults, faulted_faults, clear, faultJoin_nil]
  exact ⟨rfl, rfl⟩

/-- A class B fault outside HALTING halts, from PLAYING with the pinch engaged. -/
theorem latchFault_halts (hk : k.class = .b) (driven : s.motion.state.braked = false) (outside : s.motion.state ≠ .halting)
    (clear : s.faults.set = []) (queued : ∀ m, s.motion.active = some m → s.motion.queue ≠ []) :
    (s.latchFault k).HaltedBy s k ∧ (s.latchFault k).motion.pinchTimer = none ∧ (s.latchFault k).motion.halt =
      some ⟨decide (s.motion.state = .playing), .stopped, !decide (s.motion.state = .playing)⟩ := by
  obtain ⟨queue, active⟩ := faulted_emptied k queued
  obtain ⟨set, primary⟩ := faulted_alone k clear
  have state : (s.faulted k).motion.state = s.motion.state := by rw [faulted_motion]
  rw [latchFault_fresh (by simp [clear]), hk, faultRequest_b (by rw [state]; exact driven) (by rw [state]; exact outside), state]
  obtain ⟨keptSet, keptPrimary⟩ := enterHalting_latched (s := (s.faulted k).faultEnded) (decide (s.motion.state = .playing)) .stopped
  have motion := congrArg State.motion (enterHalting_eq (decide (s.motion.state = .playing)) .stopped queue)
  rw [enter_motion] at motion
  exact ⟨⟨by rw [motion], by rw [motion], by rw [motion]; exact active, keptSet.trans set, keptPrimary.trans primary⟩,
    by rw [motion]; rfl, by rw [motion]⟩

/-- A class B fault in HALTING leaves the halt as it is. -/
theorem latchFault_of_halting (hk : k.class = .b) (halting : s.motion.state = .halting) (clear : s.faults.set = [])
    (queued : ∀ m, s.motion.active = some m → s.motion.queue ≠ []) : (s.latchFault k).HaltedBy s k := by
  obtain ⟨queue, active⟩ := faulted_emptied k queued
  obtain ⟨set, primary⟩ := faulted_alone k clear
  have state : (s.faulted k).motion.state = .halting := by rw [faulted_motion, halting]
  rw [latchFault_fresh (by simp [clear]), hk, faultRequest_b_of_halting state]
  exact ⟨faultEnded_state.trans state, queue, active, set, primary⟩

/-! ### Halts with the tape moving -/

/-- In HALTING with the tape moving and no cause standing only a pinch release may be due. -/
theorem react_of_halting_moving (h : s.motion.state = .halting) (tension : s.reactTension = none)
    (moving : s.position.atRest = false) : s.react = s.reactPinch := by
  rw [State.react, tension, reactSizing_none (by simp [h]), reactHalting_none_of_motion (.inl moving),
    reactBraking_none (.inl (by simp [h])), reactHold_none_of_state (by simp [h]) (by simp [h]),
    reactSettled_none_of_state (by simp [h]) (by simp [h]), reactQueue_none (.inl (by simp [h]))]
  cases s.reactPinch <;> rfl

theorem settle_of_halt (due : s.react = some t) (h : t.motion.state = .halting) (tension : t.reactTension = none)
    (moving : t.position.atRest = false) (pinch : t.motion.pinchTimer = none) : s.settle = t.syncLoop :=
  settle_of_some due ((react_of_halting_moving h tension moving).trans (reactPinch_none pinch))

/-- The first arm to slacken in a moving state latches SLACK_LOOP and halts (R171, R174). -/
theorem slackLoop_halts (hd : (s.arm d).state = .slack) (ho : (s.arm (otherSide d)).state = .normal)
    (moves : s.motion.state.moving = true) (clear : s.faults.set = [])
    (queued : ∀ m, s.motion.active = some m → s.motion.queue ≠ []) (moving : s.position.atRest = false) :
    s.settle.HaltedBy s .slackLoop ∧ s.settle.motion.halt =
      some ⟨decide (s.motion.state = .playing), .stopped, !decide (s.motion.state = .playing)⟩ := by
  have driven := driven_of_moving moves
  have due := react_of_tension (reactTension_slackLoop hd ho moves (by simp [clear]))
  obtain ⟨halted, pinch, halt⟩ := latchFault_halts (k := .slackLoop) rfl driven.1 driven.2 clear queued
  have back := latchFault_backdrop (s := s) .slackLoop
  have still := reactTension_none_of_slack (s := s.latchFault .slackLoop) (d := d) (by rw [arm_of_backdrop back, hd])
    (by rw [arm_of_backdrop back, ho]) (.inl halted.state)
  rw [settle_of_halt due halted.state still (by rw [atRest_of_backdrop back, moving]) pinch]
  obtain ⟨state, queue, active, set, primary⟩ := halted
  exact ⟨⟨by rw [syncLoop_motion, state], by rw [syncLoop_motion, queue], by rw [syncLoop_motion, active],
    by rw [syncLoop_faults, set], by rw [syncLoop_faults, primary]⟩, by rw [syncLoop_motion, halt]⟩

/-- A pinch release that ends in HALTING leaves the halt under way. -/
theorem reactPinch_of_halting (h : s.motion.state = .halting) (e : s.reactPinch = some t) : t.motion.state = .halting ∧
    t.motion.queue = s.motion.queue ∧ t.motion.active = s.motion.active ∧ t.motion.pinchTimer = none ∧ t.faults = s.faults := by
  unfold State.reactPinch at e
  split at e
  · cases e
  · rw [h] at e
    dsimp only at e
    split at e <;> cases e
    exact ⟨h, rfl, rfl, rfl, rfl⟩

/-- The halt that an arm OVER finds or brings about goes on with the tape moving. -/
theorem settle_of_overTension (due : s.react = some t) (halted : t.HaltedBy s .overTension) (hd : (t.arm d).state = .over)
    (ho : (t.arm (otherSide d)).state = .normal) (moving : t.position.atRest = false) : s.settle.HaltedBy s .overTension := by
  obtain ⟨state, queue, active, set, primary⟩ := halted
  have first := react_of_halting_moving state (reactTension_none_of_over hd ho state (by simp [set])) moving
  cases e : t.reactPinch with
  | none =>
    rw [settle_of_some due (first.trans e)]
    exact ⟨by rw [syncLoop_motion, state], by rw [syncLoop_motion, queue], by rw [syncLoop_motion, active],
      by rw [syncLoop_faults, set], by rw [syncLoop_faults, primary]⟩
  | some w =>
    obtain ⟨state', queue', active', pinch, faults⟩ := reactPinch_of_halting state e
    have back := reactPinch_backdrop e
    have second := react_of_halting_moving state' (reactTension_none_of_over (d := d) (by rw [arm_of_backdrop back, hd])
      (by rw [arm_of_backdrop back, ho]) state' (by simp [faults, set])) (by rw [atRest_of_backdrop back, moving])
    rw [settle_of_two due (first.trans e) (second.trans (reactPinch_none pinch))]
    exact ⟨by rw [syncLoop_motion, state'], by rw [syncLoop_motion, queue', queue], by rw [syncLoop_motion, active', active],
      by rw [syncLoop_faults, faults, set], by rw [syncLoop_faults, faults, primary]⟩

/-- An arm OVER in a driven state latches OVER_TENSION and halts (R171, R174). -/
theorem overTension_halts (hd : (s.arm d).state = .over) (ho : (s.arm (otherSide d)).state = .normal)
    (driven : s.motion.state.braked = false) (clear : s.faults.set = [])
    (queued : ∀ m, s.motion.active = some m → s.motion.queue ≠ []) (moving : s.position.atRest = false) :
    s.settle.HaltedBy s .overTension := by
  have due := react_of_tension (reactTension_overTension hd ho driven (by simp [clear]))
  have back := latchFault_backdrop (s := s) .overTension
  have halted : (s.latchFault .overTension).HaltedBy s .overTension := by
    by_cases halting : s.motion.state = .halting
    · exact latchFault_of_halting rfl halting clear queued
    · exact (latchFault_halts rfl driven halting clear queued).1
  exact settle_of_overTension due halted (by rw [arm_of_backdrop back, hd]) (by rw [arm_of_backdrop back, ho])
    (by rw [atRest_of_backdrop back, moving])

/-! ### BRAKING and UNTHREADED -/

/-- With both arms slack in a moving state, or in the halt of SLACK_LOOP, the tape is broken (R171, R174). -/
theorem tapeBreak_brakes (hd : (s.arm d).state = .slack) (ho : (s.arm (otherSide d)).state = .slack)
    (moves : s.motion.state.moving = true ∨ (s.motion.state = .halting ∧ .slackLoop ∈ s.faults.set))
    (fresh : .tapeBreak ∉ s.faults.set) (queued : ∀ m, s.motion.active = some m → s.motion.queue ≠ [])
    (moving : s.position.atRest = false) : s.settle.motion.state = .braking ∧ s.settle.Braked ∧ s.settle.motion.queue = [] ∧
      s.settle.faults.set = faultJoin .tapeBreak s.faults.set ∧ s.settle.faults.primary =
        if s.faults.set = [] then some ⟨.tapeBreak, s.position.pos, s.motion.state⟩ else s.faults.primary := by
  have brakes := brakes_of_moving (moves.imp_right And.left)
  have state : (s.faulted .tapeBreak).motion.state = s.motion.state := by rw [faulted_motion]
  have latched : s.latchFault .tapeBreak = (s.faulted .tapeBreak).faultEnded.enter .braking := by
    rw [latchFault_fresh fresh]
    exact faultRequest_a (by rw [state]; exact brakes.1) (by rw [state]; exact brakes.2)
  have due := react_of_tension (reactTension_tapeBreak hd ho moves fresh)
  have back := latchFault_backdrop (s := s) .tapeBreak
  rw [latched] at due back
  obtain ⟨set, primary⟩ := enter_latched (s := (s.faulted .tapeBreak).faultEnded) (x := .braking) (by decide)
  rw [faultEnded_faults, faulted_faults] at set primary
  rw [settle_of_some due (react_none_of_braking (by rw [enter_motion]) (by rw [atRest_of_backdrop back, moving]))]
  exact ⟨by rw [syncLoop_motion, enter_motion], enter_syncLoop_braked rfl,
    by rw [syncLoop_motion, enter_motion]; exact (faulted_emptied _ queued).1, by rw [syncLoop_faults, set],
    by rw [syncLoop_faults, primary]⟩

/-- An arm that slackens in STOPPED takes the transport to UNTHREADED, its last move HALTED (R171). -/
theorem slack_unthreads {m : ActiveMove} {r : MoveRecord} (hd : (s.arm d).state = .slack)
    (ho : (s.arm (otherSide d)).state ≠ .over) (stopped : s.motion.state = .stopped) (ha : s.motion.active = some m)
    (hq : s.motion.queue = [r]) (room : s.motion.completions.length < 16) : s.settle.faults.set = s.faults.set ∧
      s.settle.Braked ∧ s.settle.motion.state = .unthreaded ∧ s.settle.motion.brakeRelease = false ∧
      s.settle.motion.queue = [] ∧ s.settle.motion.active = none ∧
      s.settle.motion.completions = s.motion.completions ++ [s.recordFor r m .halted 0] := by
  have due := react_of_tension (reactTension_unthreads hd ho stopped)
  have ended : s.endAll .halted = s.endActive .halted := by rw [State.endAll, ha]
  rw [settle_of_some due (react_none_of_parked (.inr (by rw [enter_motion]))), syncLoop_faults, enter_faultSet, endAll_faults,
    syncLoop_motion, enter_motion, ended, endActive_motion_of_single .halted ha hq room]
  exact ⟨rfl, enter_syncLoop_braked rfl, rfl, rfl, rfl, rfl, rfl⟩

/-! ### SIZING (R106, R107, R110) -/

/-- An arm that slackens past the thread check halts the transport without tape. -/
theorem sizing_slack_halts (hd : (s.arm d).state = .slack) (ho : (s.arm (otherSide d)).state = .normal)
    (sizing : s.motion.state = .sizing) (hz : s.motion.sizing = some z) (past : z.phase ≠ .threadCheck)
    (queue : s.motion.queue = []) (moving : s.position.atRest = false) : s.settle.motion.state = .halting ∧
      s.settle.motion.halt = some ⟨false, .unthreaded, true⟩ ∧ s.settle.motion.sizing = none ∧
      s.settle.motion.accel = s.profile.aStop ∧ s.settle.faults.set = s.faults.set ∧
      s.settle.port s.noticeLink = (s.port s.noticeLink).offer .sizingDone 1 s.position.pos := by
  have slack : s.armL.state = .slack ∨ s.armR.state = .slack := by
    cases d
    · exact .inl hd
    · exact .inr hd
  have sized : s.reactSizing = some ((s.enterHalting false .unthreaded).sizingDone 1) := by
    unfold State.reactSizing
    rw [sizing, hz]
    dsimp only
    split
    · contradiction
    · exact if_pos slack
    · exact if_pos slack
  have due := react_of_sizing_due (reactTension_none_of_slack hd ho (.inr sizing)) sized
  have motion : ((s.enterHalting false .unthreaded).sizingDone 1).motion = _ :=
    (report_motion ..).trans (congrArg State.motion (enterHalting_eq false .unthreaded queue))
  rw [enter_motion] at motion
  have back : ((s.enterHalting false .unthreaded).sizingDone 1).backdrop = s.backdrop :=
    (sizingDone_backdrop _).trans (enterHalting_backdrop ..)
  obtain ⟨set, ports⟩ := enterHalting_keeps false .unthreaded queue (by simp [sizing])
  have reported := sizingDone_reported (v := 1) (enterHalting_backdrop (s := s) false .unthreaded) ports
  have faults : ((s.enterHalting false .unthreaded).sizingDone 1).faults.set = s.faults.set :=
    (congrArg Faults.set (report_faults ..)).trans set
  generalize (s.enterHalting false .unthreaded).sizingDone 1 = w at *
  have state : w.motion.state = .halting := by rw [motion]
  have still := reactTension_none_of_slack (s := w) (d := d) (by rw [arm_of_backdrop back, hd]) (by rw [arm_of_backdrop back, ho])
    (.inl state)
  rw [settle_of_halt due state still (by rw [atRest_of_backdrop back, moving]) (by rw [motion]; rfl), syncLoop_motion,
    syncLoop_faults, syncLoop_port, motion]
  exact ⟨rfl, rfl, rfl, rfl, faults, reported⟩

/-- The thread check passed in a Size Reels begins MEASURE. -/
theorem threadCheck_measures (hl : s.armL.state = .normal) (hr : s.armR.state = .normal) (sizing : s.motion.state = .sizing)
    (hz : s.motion.sizing = some z) (check : z.phase = .threadCheck) (size : z.variant = .size)
    (quiet : s.motion.locate = none ∨ s.position.atRest = false) (conf : s.reelL.conf < 4 ∨ s.reelR.conf < 4) :
    s.settle = (s.beginMeasure z).syncLoop := by
  have sized : s.reactSizing = some (s.beginMeasure z) := by simp [State.reactSizing, sizing, hz, check, hl, hr, size]
  have due := react_of_sizing_due (reactTension_none hl hr) sized
  have state : (s.beginMeasure z).motion.state = .sizing := sizing
  have measuring : (s.beginMeasure z).reactSizing = none := by
    unfold State.reactSizing
    rw [state]
    simp only [State.beginMeasure, hl, hr]
    exact (if_neg (by simp)).trans (if_neg (by omega))
  have settled : (s.beginMeasure z).reactSettled = none := by
    rcases quiet with none | moving
    · exact reactSettled_none none
    · exact reactSettled_none_of_moving moving
  exact settle_of_some due (react_none (reactTension_none hl hr) measuring
    (reactPinch_none_of_state (by simp [state]) (by simp [state]) (by simp [state])) (reactHalting_none (by simp [state]))
    (reactBraking_none (.inl (by simp [state]))) (reactHold_none_of_state (by simp [state]) (by simp [state])) settled
    (reactQueue_none (.inl (by simp [state]))))

/-- The thread check passed in a Wake ends in STOPPED. -/
theorem threadCheck_wakes (hl : s.armL.state = .normal) (hr : s.armR.state = .normal) (sizing : s.motion.state = .sizing)
    (hz : s.motion.sizing = some z) (check : z.phase = .threadCheck) (wake : z.variant = .wake) (queue : s.motion.queue = []) :
    s.settle = (s.enter .stopped).syncLoop := by
  have sized : s.reactSizing = some (s.enter .stopped) := by simp [State.reactSizing, sizing, hz, check, hl, hr, wake]
  exact settle_of_some (react_of_sizing_due (reactTension_none hl hr) sized) (react_none_of_rest (.inl (by rw [enter_motion]))
    (by rw [enter_armL, hl]) (by rw [enter_armR, hr]) (by rw [enter_motion]; exact queue))

/-- STOPPED entered from outside PLAYING leaves the reels alone. -/
theorem enter_stopped_reels (h : s.motion.state ≠ .playing) : (s.enter .stopped).reelL = s.reelL ∧
    (s.enter .stopped).reelR = s.reelR := by
  simp only [State.enter, h, false_and, if_false]
  exact ⟨rfl, rfl⟩

end Sys2Proof.Machine
end

section
/-! CONVERSION_COMPLETE for an arm's slot: the obligation, from the detectors to the transport. -/

namespace Sys2Proof.Machine
variable {s t v : State} {d : Side} {a : Arm} {raw n : Nat} {x : BitVec 12} {f : Nat} {z : SizingCtx}

/-! ### A conversion for an arm's slot -/

/-- Outside STANDBY's watch such a conversion comes to the judgement of its F_meas. -/
theorem conversionComplete_judged (running : s.startup.phase ≠ .held) (unwatched : s.watch = none)
    (slot : s.conv.schedule[s.conv.ptr]? = some (armSlot d)) : exec (.conversionComplete x) s =
      .next ((s.converted x.toNat).judgeArm d (s.tensionOf x.toNat d)).settle.handOver := by
  rw [conversionComplete_arm running slot, armSample_unwatched (s := s.converted x.toNat) unwatched]
  rfl

/-- A sample that changes the tension state, in the state that the conversion has left. -/
theorem judged_changes (h : (s.arm d).sampled s.profile f = a) (changed : a.state ≠ (s.arm d).state) :
    ((s.converted raw).judgeArm d f).ArmChanged (s.converted raw) d a.state (max s.now (s.conv.lastDone + 125)) := by
  rw [judgeArm_of_changed (s := s.converted raw) h changed]
  exact armChanged_of_report (s := s.converted raw) d a

/-- A sample that leaves the tension state, with nothing due. -/
theorem judged_of_same (h : (s.arm d).sampled s.profile f = a) (same : a.state = (s.arm d).state)
    (settled : ((s.converted raw).withArm d a).Settled) :
    ((s.converted raw).judgeArm d f).settle = (s.converted raw).withArm d a := by
  rw [judgeArm_of_same (s := s.converted raw) h same, settle_of_settled settled]

/-- A sample that changes the tension state, with nothing due. -/
theorem judged_of_changed (h : (s.arm d).sampled s.profile f = a) (changed : a.state ≠ (s.arm d).state)
    (ht : t = ((s.converted raw).withArm d a).reportTo s.noticeLink (tensionSource d) a.state.ctorIdx s.position.pos)
    (settled : t.Settled) : ((s.converted raw).judgeArm d f).settle = t := by
  rw [ht] at settled ⊢
  rw [judgeArm_of_changed (s := s.converted raw) h changed]
  exact settle_of_settled settled

/-! ### What a changed arm comes to -/

/-- An active move is in the queue. -/
theorem State.MovesOk.queued (h : s.MovesOk) : ∀ m, s.motion.active = some m → s.motion.queue ≠ [] := by
  intro m hm
  obtain ⟨r, rest, e, -, -⟩ := h.active m hm
  rw [e]
  exact List.cons_ne_nil r rest

theorem moving_of_driven {x : Transport} (h : x = .winding ∨ x = .engaging ∨ x = .playing ∨ x = .releasing) : x.moving = true := by
  rcases h with rfl | rfl | rfl | rfl <;> rfl

theorem State.ArmChanged.slackLoop (h : v.ArmChanged s d .slack n) (ho : (s.arm (otherSide d)).state = .normal)
    (moves : s.motion.state.moving = true) (clear : s.faults.set = [])
    (queued : ∀ m, s.motion.active = some m → s.motion.queue ≠ []) (moving : s.position.atRest = false) :
    v.settle.HaltedBy s .slackLoop ∧ v.settle.motion.halt =
      some ⟨decide (s.motion.state = .playing), .stopped, decide (s.motion.state ≠ .playing)⟩ := by
  obtain ⟨hd, same, motion, faults, position, -, -, -, -, -⟩ := h
  obtain ⟨⟨state, queue, active, set, primary⟩, halt⟩ := slackLoop_halts hd (by rw [same, ho]) (by rw [motion, moves])
    (by rw [faults, clear]) (by rw [motion]; exact queued) (by rw [position, moving])
  rw [position, motion] at primary
  rw [motion, ← decide_not] at halt
  exact ⟨⟨state, queue, active, set, primary⟩, halt⟩

theorem State.ArmChanged.tapeBreak (h : v.ArmChanged s d .slack n) (ho : (s.arm (otherSide d)).state = .slack)
    (moves : s.motion.state.moving = true ∨ (s.motion.state = .halting ∧ .slackLoop ∈ s.faults.set))
    (fresh : .tapeBreak ∉ s.faults.set) (queued : ∀ m, s.motion.active = some m → s.motion.queue ≠ [])
    (moving : s.position.atRest = false) : v.settle.motion.state = .braking ∧ v.settle.Braked ∧ v.settle.motion.queue = [] ∧
      v.settle.faults.set = faultJoin .tapeBreak s.faults.set ∧ v.settle.faults.primary =
        if s.faults.set = [] then some ⟨.tapeBreak, s.position.pos, s.motion.state⟩ else s.faults.primary := by
  obtain ⟨hd, same, motion, faults, position, -, -, -, -, -⟩ := h
  rw [← faults, ← motion, ← position]
  exact tapeBreak_brakes hd (by rw [same, ho]) (by rw [motion, faults]; exact moves) (by rw [faults]; exact fresh)
    (by rw [motion]; exact queued) (by rw [position, moving])

theorem State.ArmChanged.unthreads {m : ActiveMove} {r : MoveRecord} (h : v.ArmChanged s d .slack n)
    (ho : (s.arm (otherSide d)).state ≠ .over) (stopped : s.motion.state = .stopped) (ha : s.motion.active = some m)
    (hq : s.motion.queue = [r]) (room : s.motion.completions.length < 16) (now : s.now = n) : v.settle.faults.set = s.faults.set ∧
      v.settle.Braked ∧ v.settle.motion.state = .unthreaded ∧ v.settle.motion.brakeRelease = false ∧
      v.settle.motion.queue = [] ∧ v.settle.motion.active = none ∧
      v.settle.motion.completions = s.motion.completions ++ [s.recordFor r m .halted 0] := by
  obtain ⟨hd, same, motion, faults, position, profile, clock, -, -, -⟩ := h
  have record : v.recordFor r m .halted 0 = s.recordFor r m .halted 0 := by
    unfold State.recordFor State.timeAt
    rw [position, clock, now]
    unfold State.frameAt
    rw [position, profile]
  rw [← faults, ← record, ← motion]
  exact slack_unthreads hd (by rw [same]; exact ho) (by rw [motion, stopped]) (by rw [motion, ha]) (by rw [motion, hq])
    (by rw [motion]; exact room)

theorem State.ArmChanged.overTension (h : v.ArmChanged s d .over n) (ho : (s.arm (otherSide d)).state = .normal)
    (driven : s.motion.state.braked = false) (clear : s.faults.set = [])
    (queued : ∀ m, s.motion.active = some m → s.motion.queue ≠ []) (moving : s.position.atRest = false) :
    v.settle.HaltedBy s .overTension := by
  obtain ⟨hd, same, motion, faults, position, -, -, -, -, -⟩ := h
  obtain ⟨state, queue, active, set, primary⟩ := overTension_halts hd (by rw [same, ho]) (by rw [motion, driven])
    (by rw [faults, clear]) (by rw [motion]; exact queued) (by rw [position, moving])
  rw [position, motion] at primary
  exact ⟨state, queue, active, set, primary⟩

theorem State.ArmChanged.noTape (h : v.ArmChanged s d .slack n) (ho : (s.arm (otherSide d)).state = .normal)
    (sizing : s.motion.state = .sizing) (hz : s.motion.sizing = some z) (past : z.phase ≠ .threadCheck)
    (queue : s.motion.queue = []) (moving : s.position.atRest = false) : v.settle.motion.state = .halting ∧
      v.settle.motion.halt = some ⟨false, .unthreaded, true⟩ ∧ v.settle.motion.sizing = none ∧
      v.settle.motion.accel = s.profile.aStop ∧ v.settle.faults.set = s.faults.set ∧ v.settle.port s.noticeLink =
        ((s.port s.noticeLink).offer (tensionSource d) 0 s.position.pos).offer .sizingDone 1 s.position.pos := by
  obtain ⟨hd, same, motion, faults, position, profile, -, -, link, port⟩ := h
  have halts := sizing_slack_halts hd (by rw [same, ho]) (by rw [motion, sizing]) (by rw [motion, hz]) past
    (by rw [motion, queue]) (by rw [position, moving])
  rw [link, port, position, profile, faults] at halts
  exact halts

/-- Both arms are NORMAL. -/
theorem State.ArmChanged.normal (h : v.ArmChanged s d .normal n) (ho : (s.arm (otherSide d)).state = .normal) :
    v.armL.state = .normal ∧ v.armR.state = .normal := by
  obtain ⟨hd, same, -⟩ := h
  rw [← same] at ho
  cases d
  · exact ⟨hd, ho⟩
  · exact ⟨ho, hd⟩

theorem State.ArmChanged.measures (h : v.ArmChanged s d .normal n) (ho : (s.arm (otherSide d)).state = .normal)
    (sizing : s.motion.state = .sizing) (hz : s.motion.sizing = some z) (check : z.phase = .threadCheck) (size : z.variant = .size)
    (quiet : s.motion.locate = none ∨ s.position.atRest = false) (conf : s.reelL.conf < 4 ∨ s.reelR.conf < 4) :
    v.settle.Reported s (tensionSource d) 1 ∧
      v.settle.motion = { s.motion with sizing := some { z with phase := .measure, timer := n } } := by
  obtain ⟨hl, hr⟩ := h.normal ho
  obtain ⟨-, -, motion, -, position, -, now, ⟨left, right⟩, -, port⟩ := h
  rw [threadCheck_measures hl hr (by rw [motion, sizing]) (by rw [motion, hz]) check size (by rw [motion, position]; exact quiet)
    (by rw [left, right]; exact conf), State.Reported, syncLoop_port, syncLoop_motion, State.beginMeasure, now, motion]
  refine ⟨Eq.trans ?_ port, rfl⟩
  cases s.noticeLink <;> rfl

theorem State.ArmChanged.wakes (h : v.ArmChanged s d .normal n) (ho : (s.arm (otherSide d)).state = .normal)
    (sizing : s.motion.state = .sizing) (hz : s.motion.sizing = some z) (check : z.phase = .threadCheck) (wake : z.variant = .wake)
    (queue : s.motion.queue = []) : v.settle.Reported s (tensionSource d) 1 ∧ v.settle.motion.state = .stopped ∧
      v.settle.motion.sizing = none ∧ v.settle.reelL = s.reelL ∧ v.settle.reelR = s.reelR := by
  obtain ⟨hl, hr⟩ := h.normal ho
  obtain ⟨-, -, motion, -, -, -, -, ⟨left, right⟩, -, port⟩ := h
  have outside : v.motion.state ≠ .playing := by rw [motion, sizing]; decide
  obtain ⟨reelL, reelR⟩ := enter_stopped_reels outside
  rw [threadCheck_wakes hl hr (by rw [motion, sizing]) (by rw [motion, hz]) check wake (by rw [motion, queue]), State.Reported,
    syncLoop_port, (enter_keeps outside (by decide)).2, syncLoop_motion, enter_motion, syncLoop_reelL, syncLoop_reelR, reelL, reelR]
  exact ⟨port, rfl, rfl, left, right⟩

/-! ### The obligation -/

theorem toNat_max_zero (x : Int) : (max 0 x).toNat = x.toNat := by omega

/-- Settles O35: the detectors by the lemmas on `Arm.sampled`, and a change of the tension state by what the transport makes of it
(`State.ArmChanged.slackLoop` and those after it). -/
theorem armSample : Obligations.ArmSample := by
  intro s u d raw f old new c running pending unwatched slot hf hold hc hu
  have named : s.conv.schedule[s.conv.ptr]? = some (armSlot d) := by rw [slot]; cases d <;> rfl
  have measured : f = s.tensionOf raw.toNat d := by
    rw [hf, toNat_max_zero]
    cases d <;> rfl
  have made := conversionComplete_judged (x := raw) running unwatched named
  rw [← measured] at made
  obtain rfl : old = s.arm d := by rw [hold]; cases d <;> rfl
  have left : u = (s.converted raw.toNat).withArm d new := by
    rw [hu, hc, converted_eq named, passed_of_none pending]
    cases d <;> rfl
  rw [made, left]
  refine ⟨?_, ?_, ?_, ?_⟩
  · rintro sl ov normal rfl rfl
    refine ⟨fun few few' hn settled => ?_, fun many hn t ht settled => ?_, fun few many hn t ht settled => ?_⟩
    · rw [judged_of_same ((sampled_counts normal few few').trans hn.symm) (by rw [hn]) settled]
    · rw [judged_of_changed ((sampled_slackens normal many).trans hn.symm) (by rw [hn, normal]; nofun)
        (ht.trans (by rw [hn]; cases d <;> rfl)) settled]
    · rw [judged_of_changed ((sampled_tightens normal few many).trans hn.symm) (by rw [hn, normal]; nofun)
        (ht.trans (by rw [hn]; cases d <;> rfl)) settled]
  · rintro rr abnormal rfl
    refine ⟨fun few hn settled => ?_, fun many hn t ht settled => ?_⟩
    · rw [judged_of_same ((sampled_waits abnormal few).trans hn.symm) (by rw [hn]) settled]
    · rw [judged_of_changed ((sampled_returns abnormal many).trans hn.symm) (by rw [hn]; exact abnormal.symm)
        (ht.trans (by rw [hn]; cases d <;> rfl)) settled]
  · rintro other sl ov moves moving normal hother rfl rfl
    obtain rfl : other = s.arm (otherSide d) := by rw [hother]; cases d <;> rfl
    refine ⟨fun many => ?_, fun few many driven clear ho => ?_⟩
    · have changed := judged_changes (raw := raw.toNat) (sampled_slackens normal many) (by rw [normal]; nofun)
      refine ⟨fun driven clear => ⟨fun ho => ?_, fun ho => ?_⟩, fun halting set ho => ?_, fun m r stopped clear ho ha hq room => ?_⟩
      · obtain ⟨⟨state, queue, active, set, primary⟩, halt⟩ :=
          changed.slackLoop ho (moving_of_driven driven) clear moves.queued moving
        exact ⟨_, rfl, set, primary, state, queue, active, halt⟩
      · obtain ⟨state, braked, queue, set, -⟩ := changed.tapeBreak ho (.inl (moving_of_driven driven))
          (clear ▸ List.not_mem_nil) moves.queued moving
        exact ⟨_, rfl, set.trans ((congrArg _ clear).trans (faultJoin_nil _)), state, braked, queue⟩
      · obtain ⟨state, braked, -, broken, primary⟩ := changed.tapeBreak ho
          (.inr ⟨halting, set ▸ List.mem_singleton_self _⟩) (set ▸ by decide) moves.queued moving
        exact ⟨_, rfl, broken.trans ((congrArg _ set).trans (by decide)),
          primary.trans (if_neg fun e => List.cons_ne_nil _ _ (set.symm.trans e)), state, braked⟩
      · obtain ⟨set, braked, state, brakes, queue, active, completions⟩ := changed.unthreads ho stopped ha hq room rfl
        exact ⟨_, rfl, set.trans clear, state, braked, brakes, queue, active, completions⟩
    · have changed := judged_changes (raw := raw.toNat) (sampled_tightens normal few many) (by rw [normal]; nofun)
      obtain ⟨state, queue, active, set, primary⟩ := changed.overTension ho driven clear moves.queued moving
      exact ⟨_, rfl, set, primary, state, queue, active⟩
  · rintro other z src sl rr hother hsrc rfl rfl sizing hz queue active quiet clear ho
    obtain rfl : other = s.arm (otherSide d) := by rw [hother]; cases d <;> rfl
    obtain rfl : src = tensionSource d := by rw [hsrc]; cases d <;> rfl
    refine ⟨fun past normal many moving => ?_, fun check abnormal many => ?_⟩
    · have changed := judged_changes (raw := raw.toNat) (sampled_slackens normal many) (by rw [normal]; nofun)
      obtain ⟨state, halt, sized, accel, set, reported⟩ := changed.noTape ho sizing hz past queue moving
      exact ⟨_, rfl, state, halt, sized, accel, set.trans clear, reported⟩
    · have changed := judged_changes (raw := raw.toNat) (sampled_returns abnormal many) abnormal.symm
      refine ⟨fun size conf => ?_, fun wake => ?_⟩
      · have measures := changed.measures ho sizing hz check size quiet conf
        exact ⟨_, rfl, measures⟩
      · have wakes := changed.wakes ho sizing hz check wake queue
        exact ⟨_, rfl, wakes⟩

end Sys2Proof.Machine
end

section
/-! The move queue and the contexts (O9): what `MovesOk` reads, and the entries into the transport states. -/

namespace Sys2Proof.Machine
variable {s t : State} {w : List Group} {x : Transport}

/-! ### What the invariant reads -/

/-- The registers that `MovesOk` reads hold in `t` what they held in `s`. -/
structure State.SameMoves (s t : State) : Prop where
  queue   : t.motion.queue = s.motion.queue
  active  : t.motion.active = s.motion.active
  state   : t.motion.state = s.motion.state
  sizing  : t.motion.sizing = s.motion.sizing
  halt    : t.motion.halt = s.motion.halt
  pending : t.motion.haltPending = s.motion.haltPending
  braking : t.motion.brakingTimer = s.motion.brakingTimer
  pinch   : t.motion.pinchTimer = s.motion.pinchTimer
  locate  : t.motion.locate = s.motion.locate
  watch   : t.watch = s.watch
  set     : t.faults.set = s.faults.set
  seek    : t.chase.seek = s.chase.seek

theorem moves_congr (h : s.MovesOk) (e : s.SameMoves t) : t.MovesOk where
  active := by rw [e.active, e.queue]; exact h.active
  queue := by rw [e.queue, e.state]; exact h.queue
  sizing := by rw [e.sizing, e.state]; exact h.sizing
  halting := by rw [e.halt, e.state]; exact h.halting
  pending := by rw [e.pending, e.state]; exact h.pending
  dropped := by rw [e.pending, e.active]; exact h.dropped
  braking := by rw [e.braking, e.state]; exact h.braking
  pinch := by rw [e.pinch, e.state]; exact h.pinch
  watch := by rw [e.watch, e.state]; exact h.watch
  latched := by rw [e.set, e.state]; exact h.latched
  stopped := by rw [e.set, e.state]; exact h.stopped
  locate := by rw [e.locate, e.state, e.sizing, e.active, e.seek]; exact h.locate
  seek := by rw [e.seek, e.active]; exact h.seek

/-- The groups of the registers that `MovesOk` reads. -/
def movesGroups : List Group := [.sequencer, .moves, .watch, .faults, .chase]

theorem sameMoves_of_sameBut (e : State.SameBut w s t) (m : ∀ g ∈ movesGroups, g ∉ w) : s.SameMoves t := by
  obtain ⟨queue, active, -⟩ := e.same .moves (m _ (by decide))
  have motion : t.motion = _ := e.same .sequencer (m _ (by decide))
  have chase : t.chase = _ := e.same .chase (m _ (by decide))
  obtain ⟨set, -⟩ := e.same .faults (m _ (by decide))
  exact {
    queue, active, set
    state := by rw [motion]
    sizing := by rw [motion]
    halt := by rw [motion]
    pending := by rw [motion]
    braking := by rw [motion]
    pinch := by rw [motion]
    locate := by rw [motion]
    watch := e.same .watch (m _ (by decide))
    seek := by rw [chase] }

theorem moves_of_sameBut (h : s.MovesOk) (e : State.SameBut w s t) (m : ∀ g ∈ movesGroups, g ∉ w) : t.MovesOk :=
  moves_congr h (sameMoves_of_sameBut e m)

theorem moves_ite {p : Prop} [Decidable p] {u v : State} (hu : p → u.MovesOk) (hv : ¬p → v.MovesOk) :
    (if p then u else v).MovesOk := by
  split
  · exact hu ‹_›
  · exact hv ‹_›

/-! ### What follows at once -/

/-- With a move active, the queue holds moves and so the state is one that may hold them (R66, R67). -/
theorem State.MovesOk.holds (h : s.MovesOk) {a : ActiveMove} (ha : s.motion.active = some a) :
    s.motion.state.holdsMoves = true := h.queue (h.queued a ha)

theorem State.MovesOk.unlatched (h : s.MovesOk) (holds : s.motion.state.holdsMoves = true) : s.faults.set = [] := by
  by_contra latched
  rcases h.latched latched with e | e | e <;> rw [e] at holds <;> cases holds

theorem State.MovesOk.idle (h : s.MovesOk) (empty : s.motion.state.holdsMoves = false) :
    s.motion.queue = [] ∧ s.motion.active = none := by
  have queue : s.motion.queue = [] := by
    by_contra filled
    rw [h.queue filled] at empty
    cases empty
  refine ⟨queue, ?_⟩
  by_contra active
  obtain ⟨a, ha⟩ := Option.ne_none_iff_exists'.1 active
  exact h.queued a ha queue

/-- No seek without an active move. -/
theorem State.MovesOk.unsought (h : s.MovesOk) (ha : s.motion.active = none) : s.chase.seek = none := by
  by_contra sought
  obtain ⟨a, e, -⟩ := h.seek (Option.isSome_iff_ne_none.2 sought)
  rw [ha] at e
  cases e

/-- No halt waits behind an active move (R96). -/
theorem State.MovesOk.unhalted (h : s.MovesOk) {a : ActiveMove} (ha : s.motion.active = some a) :
    s.motion.haltPending = none := by
  by_contra pending
  rw [h.dropped (Option.isSome_iff_ne_none.2 pending)] at ha
  cases ha

/-- A locate stands outside SIZING under an active move alone. -/
theorem State.MovesOk.unlocated (h : s.MovesOk) (ha : s.motion.active = none) (hs : s.motion.state ≠ .sizing) :
    s.motion.locate = none := by
  by_contra located
  rcases h.locate (Option.isSome_iff_ne_none.2 located) with ⟨e, -⟩ | ⟨-, a, e, -⟩
  · exact hs e
  · rw [ha] at e
    cases e

/-- The active move is a LOCATE, or a CHASE whose seek is LOCATING (R95, R134). -/
def State.Located (s : State) : Prop := ∃ a, s.motion.active = some a ∧
  (a.kind = .locate ∨ (a.kind = .chase ∧ ∃ k, s.chase.seek = some k ∧ k.parked = false))

theorem State.MovesOk.located (h : s.MovesOk) (holds : s.motion.state.holdsMoves = true)
    (located : s.motion.locate.isSome = true) :
    (s.motion.state = .winding ∨ s.motion.state = .engaging ∨ s.motion.state = .releasing) ∧ s.Located := by
  rcases h.locate located with ⟨e, -⟩ | k
  · rw [e] at holds
    cases holds
  · exact k

/-! ### The seek context under the shared operations -/

theorem seek_of_sameBut (e : State.SameBut w s t) (m : Group.chase ∉ w) : t.chase.seek = s.chase.seek := by
  have chase : t.chase = _ := e.same .chase m
  rw [chase]

theorem setChase_seek (c : ChaseState) : (s.setChase c).chase.seek = s.chase.seek := by
  unfold State.setChase
  split
  · rfl
  · exact (congrArg Chase.seek (State.reportTo_chase ..)).trans rfl

theorem leavePlaying_seek : s.leavePlaying.chase.seek = s.chase.seek := by
  unfold State.leavePlaying
  dsimp only
  split
  · exact (seek_of_sameBut (w := [.cueWriter, .comparators, .latches]) (endCueWrite_sameBut 3) (by decide)).trans rfl
  · rfl

theorem arrivePlaying_seek : s.arrivePlaying.chase.seek = s.chase.seek := by
  unfold State.arrivePlaying
  dsimp only
  rw [seek_of_sameBut tryCueWrite_sameBut (by decide)]
  split
  · exact setChase_seek _
  · rfl

theorem enter_seek (x : Transport) : (s.enter x).chase.seek = s.chase.seek := by
  have left : (if s.motion.state = .playing ∧ x ≠ .playing then s.leavePlaying else s).chase.seek = s.chase.seek := by
    split
    · exact leavePlaying_seek
    · rfl
  have braked : ∀ u : State, (if x.braked then u.brake else u).chase.seek = u.chase.seek := fun u => by
    split <;> rfl
  unfold State.enter
  dsimp only
  split
  · rw [arrivePlaying_seek, braked]
    exact left
  · rw [braked]
    exact left

theorem setChase_watch (c : ChaseState) : (s.setChase c).watch = s.watch := by
  unfold State.setChase
  split
  · rfl
  · exact (reportTo_sameBut ..).same .watch (by decide)

theorem arrivePlaying_watch : s.arrivePlaying.watch = s.watch := by
  unfold State.arrivePlaying
  dsimp only
  refine (tryCueWrite_sameBut.same .watch (by decide) : _ = _).trans ?_
  split
  · exact setChase_watch _
  · rfl

/-- The standby watch is active in STANDBY alone (R63). -/
theorem enter_unwatched (h : x ≠ .standby) : (s.enter x).watch = none := by
  by_cases playing : x = .playing
  · subst playing
    exact arrivePlaying_watch
  · exact enter_watch h playing

/-! ### Entries into the transport states -/

/-- What an entry into a state other than HALTING needs for the invariant to hold after it: the active move the oldest record,
and what stands in the queue and the contexts at home in the new state. -/
structure State.MayEnter (s : State) (x : Transport) : Prop where
  active  : ∀ a, s.motion.active = some a → ∃ r rest, s.motion.queue = r :: rest ∧ a.id = r.id ∧ a.kind = r.kind
  seek    : s.chase.seek.isSome = true → ∃ a, s.motion.active = some a ∧ a.kind = .chase
  running : x ≠ .halting
  queue   : s.motion.queue ≠ [] → x.holdsMoves = true
  pending : s.motion.haltPending.isSome = true → x.braked = true ∨ ((x = .engaging ∨ x = .releasing) ∧ s.motion.active = none)
  latched : s.faults.set ≠ [] → x = .braking ∨ x = .fault
  stopped : x = .braking ∨ x = .fault → s.faults.set ≠ []
  locate  : x.keepsLocate = true → s.motion.locate.isSome = true → (x = .winding ∨ x = .engaging ∨ x = .releasing) ∧ s.Located

theorem enter_moves (h : s.MayEnter x) : (s.enter x).MovesOk := by
  have motion := enter_motion (s := s) x
  have pending : (s.enter x).motion.haltPending.isSome = true → (x = .engaging ∨ x = .releasing) ∧ s.motion.active = none := by
    rw [motion]
    dsimp only
    split
    · nofun
    · exact fun waits => (h.pending waits).resolve_left ‹_›
  exact {
    active := by rw [motion]; exact h.active
    queue := by rw [motion]; exact h.queue
    sizing := by
      rw [motion]
      dsimp only
      split
      · exact fun _ => ‹_›
      · nofun
    halting := by
      rw [motion]
      exact ⟨nofun, fun e => absurd e h.running⟩
    pending := fun waits => by rw [motion]; exact (pending waits).1
    dropped := fun waits => by rw [motion]; exact (pending waits).2
    braking := by
      rw [motion]
      dsimp only
      split
      · exact fun _ => ‹_›
      · nofun
    pinch := by
      rw [motion]
      dsimp only
      split
      · rename_i pinched
        exact fun _ => pinched.elim .inl fun e => .inr (.inl e)
      · nofun
    watch := by
      rw [motion]
      by_cases parked : x = .standby
      · exact fun _ => parked
      · rw [enter_unwatched parked]
        nofun
    latched := by
      rw [enter_faultSet, motion]
      exact fun latched => .inr (h.latched latched)
    stopped := by rw [enter_faultSet, motion]; exact h.stopped
    locate := by
      rw [enter_seek, motion]
      dsimp only
      split
      · exact fun located => .inr (h.locate ‹_› located)
      · nofun
    seek := by rw [enter_seek, motion]; exact h.seek }

/-- An entry from a state that may hold moves into another such state. -/
theorem State.MovesOk.mayEnter (h : s.MovesOk) (holds : s.motion.state.holdsMoves = true) (into : x.holdsMoves = true)
    (pending : s.motion.haltPending.isSome = true → x = .releasing) (located : x = .playing → s.motion.locate = none) :
    s.MayEnter x := by
  have clear := h.unlatched holds
  refine ⟨h.active, h.seek, ?_, fun _ => into, fun waits => .inr ⟨.inr (pending waits), h.dropped waits⟩,
    fun latched => absurd clear latched, ?_, fun keeps locate => ?_⟩
  · rintro rfl
    cases into
  · rintro (rfl | rfl) <;> cases into
  · refine ⟨?_, (h.located holds locate).2⟩
    cases x with
    | winding => exact .inl rfl
    | engaging => exact .inr (.inl rfl)
    | releasing => exact .inr (.inr rfl)
    | playing =>
      rw [located rfl] at locate
      cases locate
    | stopped => cases keeps
    | unthreaded | sizing | halting | braking | fault | standby => cases into

/-- An entry from a state in which no fault is latched, the queue empty, into UNTHREADED, STOPPED, STANDBY or SIZING. -/
theorem State.MovesOk.mayPark (h : s.MovesOk) (queue : s.motion.queue = []) (set : s.faults.set = [])
    (resting : x = .unthreaded ∨ x = .stopped ∨ x = .standby ∨ x = .sizing)
    (pending : x = .stopped ∨ x = .sizing → s.motion.haltPending = none) (located : x = .sizing → s.motion.locate = none) :
    s.MayEnter x := by
  refine ⟨h.active, h.seek, ?_, fun filled => absurd queue filled, fun waits => ?_, fun latched => absurd set latched, ?_,
    fun keeps locate => ?_⟩
  · rcases resting with rfl | rfl | rfl | rfl <;> nofun
  · have held : ¬(x = .stopped ∨ x = .sizing) := fun k => by
      rw [pending k] at waits
      cases waits
    rcases resting with rfl | rfl | rfl | rfl
    · exact .inl rfl
    · exact absurd (.inl rfl) held
    · exact .inl rfl
    · exact absurd (.inr rfl) held
  · rcases resting with rfl | rfl | rfl | rfl <;> nofun
  · rcases resting with rfl | rfl | rfl | rfl
    · cases keeps
    · cases keeps
    · cases keeps
    · rw [located rfl] at locate
      cases locate

end Sys2Proof.Machine
end
section
/-! The move queue and the contexts (O9): the ends of moves, the halts and the activations keep the invariant. -/

namespace Sys2Proof.Machine
variable {s t : State} {w : List Group} {x : Transport} {a : ActiveMove}

/-! ### The ends of moves -/

/-- Records that leave the queue unactivated touch the completion list and the comparators alone. -/
theorem dropRecords_leaves (l : List MoveRecord) : ∀ s : State,
    (l.foldl State.dropRecord s).motion =
      { s.motion with completions := (l.foldl State.dropRecord s).motion.completions } ∧
    (l.foldl State.dropRecord s).chase = s.chase ∧ (l.foldl State.dropRecord s).watch = s.watch := by
  induction l with
  | nil => exact fun s => ⟨rfl, rfl, rfl⟩
  | cons r l ih =>
    intro s
    obtain ⟨motion, chase, watch⟩ := ih (s.dropRecord r)
    have dropped : (s.dropRecord r).motion = { s.motion with completions := (s.dropRecord r).motion.completions } := by
      unfold State.dropRecord State.pushCompletion
      rw [State.freeComp_motion]
    refine ⟨?_, chase.trans (State.freeComp_chase s r.comp), watch.trans (State.freeComp_watch s r.comp)⟩
    rw [List.foldl_cons, motion, dropped]

theorem discardQueue_leaves : s.discardQueue.motion =
      { s.motion with queue := [], completions := s.discardQueue.motion.completions } ∧
    s.discardQueue.chase = s.chase ∧ s.discardQueue.watch = s.watch := by
  obtain ⟨motion, chase, watch⟩ := dropRecords_leaves s.motion.queue s
  refine ⟨?_, chase, watch⟩
  dsimp only [State.discardQueue]
  rw [motion]

/-- What the end of the active move leaves of the queue and the contexts (R80, R81, R141). -/
theorem endActive_leaves {r : MoveRecord} {rest : List MoveRecord} (res : MoveResult) (ha : s.motion.active = some a)
    (hq : s.motion.queue = r :: rest) : (s.endActive res).motion = { s.motion with
      queue := if res.discards then [] else rest, active := none, locate := none,
      completions := (s.endActive res).motion.completions } ∧
    (s.endActive res).chase.seek = (if a.kind = .chase then none else s.chase.seek) ∧ (s.endActive res).watch = s.watch := by
  have chase : (if a.kind = .chase then s.endChase else s).motion = s.motion ∧
      (if a.kind = .chase then s.endChase else s).chase.seek = (if a.kind = .chase then none else s.chase.seek) ∧
      (if a.kind = .chase then s.endChase else s).watch = s.watch := by
    split
    · exact ⟨setChase_motion _, rfl, setChase_watch _⟩
    · exact ⟨rfl, rfl, rfl⟩
  unfold State.endActive
  rw [ha, hq]
  dsimp only
  generalize (if a.kind = .chase then s.endChase else s) = u at chase ⊢
  obtain ⟨motion, seek, watch⟩ := chase
  have freed := (State.freeComp_motion u r.comp).trans motion
  have freedSeek := (congrArg Chase.seek (State.freeComp_chase u r.comp)).trans seek
  have freedWatch := (State.freeComp_watch u r.comp).trans watch
  split
  · refine ⟨discardQueue_leaves.1.trans ?_, (congrArg Chase.seek discardQueue_leaves.2.1).trans freedSeek,
      discardQueue_leaves.2.2.trans freedWatch⟩
    simp only [State.pushCompletion, freed]
  · refine ⟨?_, freedSeek, freedWatch⟩
    simp only [State.pushCompletion, freed]

/-- Without a move active its end changes nothing. -/
theorem endActive_of_none (res : MoveResult) (ha : s.motion.active = none) : s.endActive res = s := by
  unfold State.endActive
  rw [ha]

theorem endActive_of_active (res : MoveResult) (queued : ∀ m, s.motion.active = some m → s.motion.queue ≠ []) :
    (s.endActive res).motion.active = none := by
  cases ha : s.motion.active with
  | none => rw [endActive_of_none res ha, ha]
  | some a =>
    cases hq : s.motion.queue with
    | nil => exact absurd hq (queued a ha)
    | cons r rest => rw [(endActive_leaves res ha hq).1]

/-- The end of the active move leaves no seek, which stood under a CHASE alone (R141). -/
theorem endActive_unsought (res : MoveResult) (queued : ∀ m, s.motion.active = some m → s.motion.queue ≠ [])
    (seek : s.chase.seek.isSome = true → ∃ a, s.motion.active = some a ∧ a.kind = .chase) :
    (s.endActive res).chase.seek = none := by
  by_contra sought
  cases ha : s.motion.active with
  | none =>
    rw [endActive_of_none res ha] at sought
    obtain ⟨a, e, -⟩ := seek (Option.isSome_iff_ne_none.2 sought)
    rw [ha] at e
    cases e
  | some a =>
    cases hq : s.motion.queue with
    | nil => exact absurd hq (queued a ha)
    | cons r rest =>
      rw [(endActive_leaves res ha hq).2.1] at sought
      split at sought
      · exact sought rfl
      · obtain ⟨b, e, kind⟩ := seek (Option.isSome_iff_ne_none.2 sought)
        cases ha.symm.trans e
        contradiction

theorem endActive_moves (h : s.MovesOk) (res : MoveResult) : (s.endActive res).MovesOk := by
  cases ha : s.motion.active with
  | none => rwa [endActive_of_none res ha]
  | some a =>
    obtain ⟨r, rest, hq, -⟩ := h.active a ha
    obtain ⟨motion, -, watch⟩ := endActive_leaves res ha hq
    have faults := endActive_faults (s := s) res
    have unsought := endActive_unsought res h.queued h.seek
    exact {
      active := by rw [motion]; nofun
      queue := fun _ => by rw [motion]; exact h.holds ha
      sizing := by rw [motion]; exact h.sizing
      halting := by rw [motion]; exact h.halting
      pending := by rw [motion]; exact h.pending
      dropped := fun _ => by rw [motion]
      braking := by rw [motion]; exact h.braking
      pinch := by rw [motion]; exact h.pinch
      watch := by rw [motion, watch]; exact h.watch
      latched := by rw [motion, faults]; exact h.latched
      stopped := by rw [motion, faults]; exact h.stopped
      locate := by rw [motion]; nofun
      seek := by rw [unsought]; nofun }

theorem discardQueue_moves (h : s.MovesOk) (ha : s.motion.active = none) : s.discardQueue.MovesOk := by
  obtain ⟨motion, chase, watch⟩ := discardQueue_leaves (s := s)
  have faults := discardQueue_faults (s := s)
  exact {
    active := by rw [motion]; dsimp only; rw [ha]; nofun
    queue := by rw [motion]; exact fun filled => absurd rfl filled
    sizing := by rw [motion]; exact h.sizing
    halting := by rw [motion]; exact h.halting
    pending := by rw [motion]; exact h.pending
    dropped := fun _ => by rw [motion]; exact ha
    braking := by rw [motion]; exact h.braking
    pinch := by rw [motion]; exact h.pinch
    watch := by rw [motion, watch]; exact h.watch
    latched := by rw [motion, faults]; exact h.latched
    stopped := by rw [motion, faults]; exact h.stopped
    locate := by rw [motion, chase]; exact h.locate
    seek := by rw [motion, chase]; exact h.seek }

theorem endAll_moves (h : s.MovesOk) (res : MoveResult) : (s.endAll res).MovesOk := by
  unfold State.endAll
  split
  · exact endActive_moves h res
  · exact discardQueue_moves h ‹_›

/-- No move is active after the end of them all, and no seek stands. -/
theorem endAll_leaves (res : MoveResult) (queued : ∀ m, s.motion.active = some m → s.motion.queue ≠ [])
    (seek : s.chase.seek.isSome = true → ∃ a, s.motion.active = some a ∧ a.kind = .chase) :
    (s.endAll res).motion.active = none ∧ (s.endAll res).chase.seek = none := by
  unfold State.endAll
  split
  · exact ⟨endActive_of_active res queued, endActive_unsought res queued seek⟩
  · rename_i ha
    obtain ⟨motion, chase, -⟩ := discardQueue_leaves (s := s)
    refine ⟨by rw [motion]; exact ha, ?_⟩
    rw [chase]
    by_contra sought
    obtain ⟨a, e, -⟩ := seek (Option.isSome_iff_ne_none.2 sought)
    rw [ha] at e
    cases e

/-! ### Halts -/

/-- The entry into HALTING with no move active and no seek: whatever stood before, the queue and the contexts are emptied. -/
theorem enterHalting_moves (ha : s.motion.active = none) (hs : s.chase.seek = none) (b : Bool) (d : HaltDest) :
    (s.enterHalting b d).MovesOk := by
  have entered := enter_motion (s := s) .halting
  obtain ⟨motion, chase, watch⟩ := discardQueue_leaves (s := s.enter .halting)
  rw [entered] at motion
  have halted : (s.enterHalting b d).motion = { (s.enter .halting).discardQueue.motion with
      halt := some ⟨b, d, !b⟩, pinchCmd := b, haltPending := none,
      accel := (s.enter .halting).discardQueue.profile.aStop } := rfl
  rw [motion] at halted
  have active : (s.enterHalting b d).motion.active = none := by rw [halted]; exact ha
  have seek : (s.enterHalting b d).chase.seek = none := (congrArg Chase.seek chase).trans ((enter_seek .halting).trans hs)
  have watched : (s.enterHalting b d).watch = none := watch.trans (enter_unwatched (by decide))
  have state : (s.enterHalting b d).motion.state = .halting := enterHalting_state b d
  exact {
    active := by rw [active]; nofun
    queue := by rw [halted]; exact fun filled => absurd rfl filled
    sizing := by rw [halted]; nofun
    halting := by rw [halted]; exact ⟨fun _ => rfl, fun _ => rfl⟩
    pending := by rw [halted]; nofun
    dropped := fun _ => active
    braking := by rw [halted]; nofun
    pinch := fun _ => .inr (.inr state)
    watch := by rw [watched]; nofun
    latched := fun _ => .inl state
    stopped := by rw [state]; rintro (e | e) <;> cases e
    locate := by rw [halted]; nofun
    seek := by rw [seek]; nofun }

/-- A halt set pending in a pinch transition with no move active (R96). -/
theorem setPending_moves (h : s.MovesOk) (ha : s.motion.active = none)
    (hs : s.motion.state = .engaging ∨ s.motion.state = .releasing) (d : HaltDest) :
    State.MovesOk { s with motion := { s.motion with haltPending := some d } } :=
  { h with pending := fun _ => hs, dropped := fun _ => ha }

theorem queueEmptied_moves (h : s.MovesOk) (ha : s.motion.active = none) : s.queueEmptied.MovesOk := by
  unfold State.queueEmptied
  split
  case h_1 | h_2 => exact enterHalting_moves ha (h.unsought ha) ..
  case h_3 e => exact setPending_moves h ha (.inl e) _
  case h_4 e => exact setPending_moves h ha (.inr e) _
  all_goals exact h

theorem failMove_moves (h : s.MovesOk) (res : MoveResult) : (s.failMove res).MovesOk :=
  queueEmptied_moves (endActive_moves h res) (endActive_of_active res h.queued)

theorem report_moves (h : s.MovesOk) (src : Source) (v : Int) : (s.report src v).MovesOk :=
  moves_of_sameBut h (reportTo_sameBut ..) (by decide)

theorem stopTransport_moves (h : s.MovesOk) (ha : s.motion.active = none) : s.stopTransport.MovesOk := by
  have halts := enterHalting_moves ha (h.unsought ha)
  unfold State.stopTransport
  split
  case h_1 => exact moves_ite (fun _ => h) fun _ => halts ..
  case h_2 | h_3 => exact halts ..
  case h_4 e => exact setPending_moves h ha (.inl e) _
  case h_5 e => exact setPending_moves h ha (.inr e) _
  case h_6 => exact report_moves (halts ..) ..
  all_goals exact h

/-- The end of all moves and the halt behind it (R82, R105). -/
theorem stopped_moves (h : s.MovesOk) (res : MoveResult) : ((s.endAll res).stopTransport).MovesOk :=
  stopTransport_moves (endAll_moves h res) (endAll_leaves res h.queued h.seek).1

/-! ### Activations -/

/-- A locate context given to a move that may have one takes it to WINDING from any state that may hold moves (R95, R98). -/
theorem goWinding_moves (h : s.MovesOk) (holds : s.motion.state.holdsMoves = true) {l : Option LocateCtx}
    (located : l.isSome = true → s.Located) :
    (State.goWinding { s with motion := { s.motion with locate := l } }).MovesOk := by
  have clear := h.unlatched holds
  have quiet : s.motion.state ≠ .engaging → s.motion.state ≠ .releasing → s.motion.haltPending = none := fun ne nr => by
    by_contra pending
    exact (h.pending (Option.isSome_iff_ne_none.2 pending)).elim ne nr
  have entered (y : Transport) (hy : y = .winding ∨ y = .releasing) (pending : s.motion.haltPending = none) :
      State.MayEnter { s with motion := { s.motion with locate := l } } y := by
    refine ⟨h.active, h.seek, ?_, fun _ => ?_, fun waits => ?_, fun latched => absurd clear latched, ?_, fun _ some => ?_⟩
    · rcases hy with rfl | rfl <;> nofun
    · rcases hy with rfl | rfl <;> rfl
    · rw [show ({ s with motion := { s.motion with locate := l } } : State).motion.haltPending = none from pending] at waits
      cases waits
    · rcases hy with rfl | rfl <;> nofun
    · exact ⟨hy.elim .inl fun e => .inr (.inr e), located some⟩
  have stays (k : s.motion.state = .winding ∨ s.motion.state = .engaging ∨ s.motion.state = .releasing) :
      State.MovesOk { s with motion := { s.motion with locate := l } } :=
    { h with locate := fun some => .inr ⟨k, located some⟩ }
  unfold State.goWinding
  split
  case h_1 e => exact enter_moves (entered _ (.inl rfl) (quiet (e.trans_ne nofun) (e.trans_ne nofun)))
  case h_2 e => exact enter_moves (entered _ (.inr rfl) (quiet (e.trans_ne nofun) (e.trans_ne nofun)))
  case h_3 e => exact stays (.inl e)
  case h_4 e => exact stays (.inr (.inl e))
  case h_5 e => exact stays (.inr (.inr e))
  all_goals
    rename_i e
    rw [show s.motion.state = _ from e] at holds
    cases holds

end Sys2Proof.Machine
end
section
/-! The move queue and the contexts (O9): activations, faults and reactions keep the invariant. -/

namespace Sys2Proof.Machine
variable {s t : State} {w : List Group} {x : Transport} {a : ActiveMove}

/-! ### The starts of moves -/

/-- A move without a locate on its way to WINDING. -/
theorem goWinding_moves_of_unlocated (h : s.MovesOk) (holds : s.motion.state.holdsMoves = true) (hl : s.motion.locate = none) :
    s.goWinding.MovesOk :=
  goWinding_moves (l := s.motion.locate) h holds (by rw [hl]; nofun)

theorem goPlaying_moves (h : s.MovesOk) : s.goPlaying.MovesOk := by
  unfold State.goPlaying
  split
  case h_1 e =>
    refine enter_moves (h.mayEnter (by rw [e]; rfl) rfl (fun pending => ?_) nofun)
    rcases h.pending pending with k | k <;> rw [e] at k <;> cases k
  all_goals exact h

theorem setChase_moves (h : s.MovesOk) (c : ChaseState) : (s.setChase c).MovesOk := by
  have faults : (s.setChase c).faults = s.faults := setChase_faults c
  exact moves_congr h {
    queue := by rw [setChase_motion]
    active := by rw [setChase_motion]
    state := by rw [setChase_motion]
    sizing := by rw [setChase_motion]
    halt := by rw [setChase_motion]
    pending := by rw [setChase_motion]
    braking := by rw [setChase_motion]
    pinch := by rw [setChase_motion]
    locate := by rw [setChase_motion]
    watch := setChase_watch c
    set := by rw [faults]
    seek := setChase_seek c }

theorem onActive_moves (h : s.MovesOk) {f : ActiveMove → ActiveMove} (keeps : ∀ a, (f a).id = a.id ∧ (f a).kind = a.kind) :
    (s.onActive f).MovesOk := by
  have active : (s.onActive f).motion.active = s.motion.active.map f := rfl
  refine { h with active := fun b hb => ?_, dropped := fun pending => ?_, locate := fun located => ?_, seek := fun sought => ?_ }
  · rw [active, Option.map_eq_some_iff] at hb
    obtain ⟨a, ha, rfl⟩ := hb
    rw [(keeps a).1, (keeps a).2]
    exact h.active a ha
  · rw [active, h.dropped pending]
    rfl
  · refine (h.locate located).imp id fun ⟨state, a, ha, kind⟩ => ⟨state, f a, ?_, ?_⟩
    · rw [active, ha]
      rfl
    · rw [(keeps a).2]
      exact kind
  · obtain ⟨a, ha, kind⟩ := h.seek sought
    refine ⟨f a, ?_, (keeps a).2.trans kind⟩
    rw [active, ha]
    rfl

/-- A seek begun by an active CHASE (R134). -/
theorem beginSeek_moves (h : s.MovesOk) (ha : s.motion.active = some a) (kind : a.kind = .chase) (fr : Nat) :
    (s.beginSeek fr).MovesOk := by
  unfold State.beginSeek
  dsimp only
  split
  · exact failMove_moves h _
  · have counted : (s.onActive fun a => { a with reversals := 0 }).MovesOk := onActive_moves h fun _ => ⟨rfl, rfl⟩
    have active : (s.onActive fun a => { a with reversals := 0 }).motion.active = some { a with reversals := 0 } := by
      rw [State.onActive, ha]
      rfl
    have chasing : ∃ b, (s.onActive fun a => { a with reversals := 0 }).motion.active = some b ∧ b.kind = .chase :=
      ⟨_, active, kind⟩
    refine goWinding_moves (s := { s.onActive fun a => { a with reversals := 0 } with
      chase := { (s.onActive fun a => { a with reversals := 0 }).chase with seek := some _ } })
      { counted with
        seek := fun _ => chasing
        locate := fun located => (counted.locate located).imp id fun ⟨state, _⟩ => ⟨state, _, active, .inr ⟨kind, _, rfl, rfl⟩⟩ }
      (h.holds ha) fun _ => ⟨_, active, .inr ⟨kind, _, rfl, rfl⟩⟩

theorem startChase_moves (h : s.MovesOk) (ha : s.motion.active = some a) (kind : a.kind = .chase) : s.startChase.MovesOk := by
  have started : State.MovesOk { s with chase := { s.chase with e := s.startError } } := { h with }
  have moved (c : ChaseState) :
      (State.setChase { s with chase := { s.chase with e := s.startError } } c).motion.active = some a := by
    rw [setChase_motion]
    exact ha
  unfold State.startChase
  dsimp only
  split
  · split
    · exact failMove_moves h _
    · split
      · exact beginSeek_moves (setChase_moves started _) (moved _) kind _
      · exact moves_ite (fun _ => goPlaying_moves (setChase_moves started _)) fun _ =>
          beginSeek_moves (setChase_moves started _) (moved _) kind _
  · exact goPlaying_moves (setChase_moves started _)

/-- The oldest record becomes the active move, none being active before and no halt pending. -/
theorem makeActive_moves {r : MoveRecord} {rest : List MoveRecord} (h : s.MovesOk) (hq : s.motion.queue = r :: rest)
    (ha : s.motion.active = none) (pending : s.motion.haltPending = none) (target : Option Int) :
    (s.makeActive r target).MovesOk := by
  have holds : s.motion.state.holdsMoves = true := h.queue (by rw [hq]; nofun)
  have unlocated : s.motion.locate = none := h.unlocated ha fun e => by rw [e] at holds; cases holds
  have unsought := h.unsought ha
  have active : State.MovesOk { s with
      motion := { s.motion with
        active := some ⟨r.id, r.kind, r.dir, target, r.comp, r.accel, r.ceiling, r.tension, r.vari, r.offset, s.now, false, 0⟩
        accel := r.accel
        queue := match s.motion.queue with
          | q :: rest => { q with resolved := target } :: rest
          | [] => [] }
      zones := { s.zones with guardReported := false, updated := false } } := by
    rw [hq]
    refine { h with
      active := fun b hb => ⟨_, _, rfl, ?_⟩, queue := fun _ => holds, dropped := fun waits => ?_, locate := fun located => ?_,
      seek := fun sought => ?_ }
    · cases hb
      exact ⟨rfl, rfl⟩
    · change s.motion.haltPending.isSome = true at waits
      rw [pending] at waits
      cases waits
    · change s.motion.locate.isSome = true at located
      rw [unlocated] at located
      cases located
    · change s.chase.seek.isSome = true at sought
      rw [unsought] at sought
      cases sought
  unfold State.makeActive
  dsimp only
  split
  · exact { active with }
  · exact active

theorem makeActive_motion (r : MoveRecord) (target : Option Int) : (s.makeActive r target).motion = { s.motion with
    active := some ⟨r.id, r.kind, r.dir, target, r.comp, r.accel, r.ceiling, r.tension, r.vari, r.offset, s.now, false, 0⟩
    accel := r.accel
    queue := match s.motion.queue with
      | q :: rest => { q with resolved := target } :: rest
      | [] => [] } := by
  unfold State.makeActive
  dsimp only
  split <;> rfl

theorem startMove_moves (h : s.MovesOk) (ha : s.motion.active = some a) {r : MoveRecord} (kind : a.kind = r.kind)
    (hl : s.motion.locate = none) (target : Option Int) : (s.startMove r target).MovesOk := by
  have holds := h.holds ha
  unfold State.startMove
  split
  · exact goWinding_moves_of_unlocated h holds hl
  · exact goWinding_moves h holds fun _ => ⟨a, ha, .inl (kind.trans ‹_›)⟩
  · exact goPlaying_moves h
  · exact startChase_moves h ha (kind.trans ‹_›)
  · exact h

/-- What an activation needs: no move active and no halt pending (R73, R96). -/
structure State.Activates (s : State) : Prop where
  moves   : s.MovesOk
  active  : s.motion.active = none
  pending : s.motion.haltPending = none

/-- After the end of a move that was active the next may activate. -/
theorem endActive_activates (h : s.MovesOk) (ha : s.motion.active = some a) (res : MoveResult) : (s.endActive res).Activates := by
  obtain ⟨r, rest, hq, -⟩ := h.active a ha
  obtain ⟨motion, -⟩ := endActive_leaves res ha hq
  exact ⟨endActive_moves h res, endActive_of_active res h.queued, by rw [motion]; exact h.unhalted ha⟩

theorem activateNext_moves (n : Nat) : ∀ {s : State}, s.Activates → (s.activateNext n).MovesOk := by
  induction n with
  | zero => exact fun h => h.moves
  | succ n ih =>
    intro s h
    unfold State.activateNext
    split
    · exact queueEmptied_moves h.moves h.active
    · rename_i r rest hq
      have made (target : Option Int) := makeActive_moves h.moves hq h.active h.pending target
      have motion (target : Option Int) := makeActive_motion (s := s) r target
      have holds : s.motion.state.holdsMoves = true := h.moves.queue (by rw [hq]; nofun)
      have unlocated : s.motion.locate = none := h.moves.unlocated h.active fun e => by rw [e] at holds; cases holds
      split
      · exact failMove_moves (made _) _
      · rename_i target _
        obtain ⟨a, active, kind⟩ : ∃ a, (s.makeActive r target).motion.active = some a ∧ a.kind = r.kind :=
          ⟨_, congrArg Motion.active (motion target), rfl⟩
        refine moves_ite (fun _ => ih (endActive_activates (made _) active _)) fun _ =>
          moves_ite (fun _ => ih (endActive_activates (made _) active _)) fun _ =>
            startMove_moves (made _) active kind ?_ _
        rw [motion]
        exact unlocated

theorem activate_moves (h : s.Activates) : s.activate.MovesOk := activateNext_moves _ h

theorem finishMove_moves (h : s.MovesOk) (ha : s.motion.active = some a) (res : MoveResult) : (s.finishMove res).MovesOk :=
  activate_moves (endActive_activates h ha res)

theorem supersede_moves (h : s.MovesOk) : s.supersede.MovesOk := by
  unfold State.supersede
  split
  · exact moves_ite (fun _ => finishMove_moves h ‹_› _) fun _ => h
  · exact h

/-- In STOPPED with no move active the oldest record may activate (R73). -/
theorem activates_of_stopped (h : s.MovesOk) (hs : s.motion.state = .stopped) (ha : s.motion.active = none) : s.Activates := by
  refine ⟨h, ha, ?_⟩
  by_contra pending
  rcases h.pending (Option.isSome_iff_ne_none.2 pending) with e | e <;> rw [hs] at e <;> cases e

/-! ### Locates (R99, R107, R135) -/

theorem withLocate_moves (h : s.MovesOk) (hl : s.motion.locate.isSome = true) (l : LocateCtx) : (s.withLocate l).MovesOk :=
  { h with locate := fun _ => h.locate hl }

theorem countPass_moves (h : s.MovesOk) : s.countPass.MovesOk := by
  unfold State.countPass
  split
  · rename_i z hz
    refine { h with
      sizing := fun _ => h.sizing (by rw [hz]; rfl)
      locate := fun located => (h.locate located).imp (fun ⟨state, y, hy, phase⟩ => ⟨state, _, rfl, ?_⟩) id }
    cases hz.symm.trans hy
    exact phase
  · exact onActive_moves h fun _ => ⟨rfl, rfl⟩

theorem countPass_locate : s.countPass.motion.locate = s.motion.locate := by
  unfold State.countPass
  split <;> rfl

/-- In SIZING the queue is empty, so that a halt may be entered. -/
theorem sizing_halts (h : s.MovesOk) {z : SizingCtx} (hz : s.motion.sizing = some z) (b : Bool) (d : HaltDest) :
    (s.enterHalting b d).MovesOk := by
  have state := h.sizing (by rw [hz]; rfl)
  obtain ⟨-, active⟩ := h.idle (by rw [state]; rfl)
  exact enterHalting_moves active (h.unsought active) b d

theorem passTarget_moves (h : s.MovesOk) (hl : s.motion.locate.isSome = true) (l : LocateCtx) : (s.passTarget l).MovesOk := by
  refine moves_ite (fun _ => withLocate_moves (countPass_moves h) (by rw [countPass_locate]; exact hl) _) fun _ => ?_
  unfold State.overshoot
  split
  · exact report_moves (sizing_halts h ‹_› _ _) ..
  · exact failMove_moves h _

/-- In SIZING no fault is latched and no halt pends. -/
theorem State.MovesOk.sizes (h : s.MovesOk) (hs : s.motion.state = .sizing) :
    s.faults.set = [] ∧ s.motion.haltPending = none := by
  constructor
  · by_contra latched
    rcases h.latched latched with e | e | e <;> rw [hs] at e <;> cases e
  · by_contra pending
    rcases h.pending (Option.isSome_iff_ne_none.2 pending) with e | e <;> rw [hs] at e <;> cases e

/-- SIZING left for UNTHREADED or STOPPED (R106, R107). -/
theorem leaveSizing_moves (h : s.MovesOk) (hs : s.motion.state = .sizing) (hx : x = .unthreaded ∨ x = .stopped) :
    (s.enter x).MovesOk := by
  obtain ⟨queue, -⟩ := h.idle (by rw [hs]; rfl)
  obtain ⟨set, pending⟩ := h.sizes hs
  refine enter_moves (h.mayPark queue set (hx.imp id .inl) (fun _ => pending) ?_)
  rcases hx with rfl | rfl <;> nofun

/-- Parked in a seek, the locate is over (R135). -/
theorem park_moves (h : s.MovesOk) {k : SeekCtx} (hk : s.chase.seek = some k) : State.MovesOk { s with
    chase := { s.chase with seek := some { k with parked := true } }, motion := { s.motion with locate := none } } :=
  { h with locate := nofun, seek := fun _ => h.seek (by rw [hk]; rfl) }

theorem settleEnd_moves (h : s.MovesOk) {l : LocateCtx} (hl : s.motion.locate = some l) : (s.settleEnd l).MovesOk := by
  have located : s.motion.locate.isSome = true := by rw [hl]; rfl
  refine moves_ite (fun _ => ?_) fun _ => moves_ite (fun _ => passTarget_moves h located l) fun _ => withLocate_moves h located _
  split
  · rename_i z hz
    exact report_moves (leaveSizing_moves h (h.sizing (by rw [hz]; rfl)) (.inr rfl)) ..
  · rename_i hz
    split
    · exact park_moves h ‹_›
    · rcases h.locate located with ⟨-, z, e, -⟩ | ⟨-, a, ha, -⟩
      · rw [hz] at e
        cases e
      · exact finishMove_moves h ha _

end Sys2Proof.Machine
end
section
/-! The move queue and the contexts (O9): faults and reactions keep the invariant. -/

namespace Sys2Proof.Machine
variable {s t : State} {w : List Group} {x : Transport} {a : ActiveMove}

/-! ### Faults (R173, R174) -/

theorem faulted_sameMotion (k : FaultKind) :
    (s.faulted k).chase = s.chase ∧ (s.faulted k).watch = s.watch := by
  have triggered : ∀ u : State, u.faultTrigger.chase = u.chase ∧ u.faultTrigger.watch = u.watch := fun u => by
    unfold State.faultTrigger
    split
    · unfold State.captureTrigger
      split
      · exact ⟨State.freeComp_chase .., State.freeComp_watch ..⟩
      · exact ⟨rfl, rfl⟩
    · exact ⟨rfl, rfl⟩
  obtain ⟨chase, watch⟩ := triggered (State.report { s with faults := { s.faults with
    set := faultJoin k s.faults.set
    primary := if s.faults.set = [] then some ⟨k, s.position.pos, s.motion.state⟩ else s.faults.primary } } .fault k.num)
  exact ⟨chase.trans (State.reportTo_chase ..), watch.trans (State.reportTo_watch ..)⟩

theorem faultJoin_ne_nil (k : FaultKind) (l : List FaultKind) : faultJoin k l ≠ [] :=
  List.ne_nil_of_mem (mem_faultJoin.2 (.inl rfl))

/-- What the request of a fresh fault finds once the moves have ended: an empty queue, no seek, a fault latched. -/
theorem faultEnded_ended (h : s.MovesOk) (k : FaultKind) :
    (s.faulted k).faultEnded.motion.queue = [] ∧ (s.faulted k).faultEnded.motion.active = none ∧
      (s.faulted k).faultEnded.chase.seek = none ∧ (s.faulted k).faultEnded.faults.set ≠ [] := by
  obtain ⟨chase, -⟩ := faulted_sameMotion (s := s) k
  have motion := faulted_motion (s := s) k
  have queued : ∀ m, (s.faulted k).motion.active = some m → (s.faulted k).motion.queue ≠ [] := by
    rw [motion]
    exact h.queued
  have seek : (s.faulted k).chase.seek.isSome = true → ∃ a, (s.faulted k).motion.active = some a ∧ a.kind = .chase := by
    rw [motion, chase]
    exact h.seek
  obtain ⟨queue, active⟩ := endAll_emptied (res := .faulted) rfl queued
  refine ⟨by rw [faultEnded_motion]; exact queue, by rw [faultEnded_motion]; exact active, ?_, ?_⟩
  · have ended := (endAll_leaves .faulted queued seek).2
    unfold State.faultEnded
    split
    · exact (congrArg Chase.seek (State.reportTo_chase ..)).trans ended
    · exact ended
  · rw [faultEnded_faults, faulted_faults]
    exact faultJoin_ne_nil k _

/-- BRAKING or FAULT entered behind a fresh fault, the moves ended. -/
theorem enterFault_moves (queue : s.motion.queue = []) (active : s.motion.active = none) (seek : s.chase.seek = none)
    (set : s.faults.set ≠ []) (hx : x = .braking ∨ x = .fault) : (s.enter x).MovesOk := by
  refine enter_moves ⟨by rw [active]; nofun, by rw [seek]; nofun, ?_, fun filled => absurd queue filled, fun _ => .inl ?_,
    fun _ => hx, fun _ => set, fun keeps => ?_⟩
  all_goals rcases hx with rfl | rfl
  · nofun
  · nofun
  · rfl
  · rfl
  · cases keeps
  · cases keeps

/-- A fault that joins the set in HALTING, BRAKING or FAULT finds the invariant kept. -/
theorem faulted_moves (h : s.MovesOk) (k : FaultKind)
    (hs : s.motion.state = .halting ∨ s.motion.state = .braking ∨ s.motion.state = .fault) : (s.faulted k).MovesOk := by
  have joined : State.MovesOk { s with faults := { s.faults with set := faultJoin k s.faults.set } } :=
    { h with latched := fun _ => hs, stopped := fun _ => faultJoin_ne_nil k _ }
  obtain ⟨chase, watch⟩ := faulted_sameMotion (s := s) k
  have motion := faulted_motion (s := s) k
  exact moves_congr joined {
    queue := by rw [motion]
    active := by rw [motion]
    state := by rw [motion]
    sizing := by rw [motion]
    halt := by rw [motion]
    pending := by rw [motion]
    braking := by rw [motion]
    pinch := by rw [motion]
    locate := by rw [motion]
    watch
    set := by rw [faulted_faults]
    seek := by rw [chase] }

theorem faultEnded_moves (h : s.MovesOk) : s.faultEnded.MovesOk :=
  moves_ite (fun _ => report_moves (endAll_moves h _) ..) fun _ => endAll_moves h _

theorem latchFault_moves (h : s.MovesOk) (k : FaultKind) : (s.latchFault k).MovesOk := by
  by_cases latched : k ∈ s.faults.set
  · rwa [State.latchFault, if_pos latched]
  · rw [latchFault_fresh latched]
    obtain ⟨queue, active, seek, set⟩ := faultEnded_ended h k
    have state : (s.faulted k).motion.state = s.motion.state := congrArg Motion.state (faulted_motion k)
    have held := fun hs => faultEnded_moves (faulted_moves h k hs)
    have halts := enterHalting_moves active seek
    have ended : (if (s.faulted k).motion.state = .sizing then ((s.faulted k).endAll .faulted).sizingDone 3
      else (s.faulted k).endAll .faulted) = (s.faulted k).faultEnded := rfl
    unfold State.faultRequest
    dsimp only
    rw [ended, state]
    split
    · split
      case h_1 e => exact held (.inr (.inl e))
      case h_2 e => exact held (.inr (.inr e))
      all_goals exact enterFault_moves queue active seek set (.inl rfl)
    · split
      case h_9 e => exact held (.inl e)
      case h_10 e => exact held (.inr (.inl e))
      case h_11 e => exact held (.inr (.inr e))
      case h_7 | h_8 => exact enterFault_moves queue active seek set (.inr rfl)
      all_goals exact halts ..

theorem latchIf_moves (h : s.MovesOk) (b : Bool) (k : FaultKind) : (s.latchIf b k).MovesOk :=
  moves_ite (fun _ => latchFault_moves h k) fun _ => h

theorem readInputs_moves (h : s.MovesOk) : s.readInputs.MovesOk :=
  latchIf_moves (latchIf_moves (latchIf_moves (latchIf_moves h ..) ..) ..) ..

/-! ### Reactions -/

theorem reactTension_moves (h : s.MovesOk) (ht : s.reactTension = some t) : t.MovesOk := by
  unfold State.reactTension at ht
  dsimp only at ht
  split at ht
  · cases ht; exact latchFault_moves h _
  · split at ht
    · cases ht; exact latchFault_moves h _
    · split at ht
      · cases ht; exact latchFault_moves h _
      · split at ht <;> cases ht
        rename_i slack
        have state : s.motion.state = .stopped := slack.2
        have ended := endAll_moves h .halted
        obtain ⟨queue, -⟩ := endAll_emptied (res := .halted) rfl h.queued
        refine enter_moves (ended.mayPark queue ?_ (.inl rfl) ?_ ?_)
        · rw [endAll_faults]
          exact h.unlatched (by rw [state]; rfl)
        · rintro (e | e) <;> cases e
        · nofun

theorem beginMeasure_moves (h : s.MovesOk) (hs : s.motion.state = .sizing) (hl : s.motion.locate = none) (z : SizingCtx) :
    (s.beginMeasure z).MovesOk :=
  have unlocated : (s.beginMeasure z).motion.locate.isSome ≠ true := by
    change s.motion.locate.isSome ≠ true
    rw [hl]
    nofun
  { h with sizing := fun _ => hs, locate := fun located => absurd located unlocated }

theorem beginReturn_moves (h : s.MovesOk) (hs : s.motion.state = .sizing) (z : SizingCtx) : (s.beginReturn z).MovesOk :=
  { h with sizing := fun _ => hs, locate := fun _ => .inl ⟨hs, _, rfl, rfl⟩ }

theorem reactSizing_moves (h : s.MovesOk) (ht : s.reactSizing = some t) : t.MovesOk := by
  unfold State.reactSizing at ht
  split at ht
  · rename_i z hs hz
    have noTape : ((s.enterHalting false .unthreaded).sizingDone 1).MovesOk := report_moves (sizing_halts h hz _ _) ..
    have unlocated (other : z.phase ≠ .returning) : s.motion.locate = none := by
      by_contra located
      rcases h.locate (Option.isSome_iff_ne_none.2 located) with ⟨-, y, hy, phase⟩ | ⟨state, -⟩
      · cases hz.symm.trans hy
        exact other phase
      · rcases state with e | e | e <;> rw [hs] at e <;> cases e
    split at ht
    · rename_i phase
      split at ht
      · split at ht <;> cases ht
        · exact beginMeasure_moves h hs (unlocated (by rw [phase]; nofun)) z
        · exact leaveSizing_moves h hs (.inr rfl)
      · cases ht
    · split at ht
      · cases ht; exact noTape
      · split at ht <;> cases ht
        exact beginReturn_moves h hs z
    · split at ht <;> cases ht
      exact noTape
  · cases ht

/-- An engaged pinch leads to PLAYING only under a move that has no locate (R95). -/
theorem engaged_moves (h : s.MovesOk) (hs : s.motion.state = .engaging) : s.engaged.MovesOk := by
  have holds : s.motion.state.holdsMoves = true := by rw [hs]; rfl
  have releases : (s.enter .releasing).MovesOk := enter_moves (h.mayEnter holds rfl (fun _ => rfl) nofun)
  have plays (pending : s.motion.haltPending = none) (other : ¬s.Located) : (s.enter .playing).MovesOk := by
    refine enter_moves (h.mayEnter holds rfl (by rw [pending]; nofun) fun _ => ?_)
    by_contra located
    exact other (h.located holds (Option.isSome_iff_ne_none.2 located)).2
  unfold State.engaged
  split
  · rename_i a pending ha
    have kinds (k : a.kind = .locate ∨ a.kind = .chase ∧ s.seeking = true → False) : ¬s.Located := by
      rintro ⟨b, hb, kind⟩
      cases ha.symm.trans hb
      refine k (kind.imp id fun ⟨chase, y, seek, _⟩ => ⟨chase, ?_⟩)
      rw [State.seeking, seek]
      rfl
    split
    case h_1 e | h_2 e => exact plays pending (kinds (by rw [e]; rintro (k | ⟨k, -⟩) <;> cases k))
    case h_3 e =>
      refine moves_ite (fun _ => releases) fun free => plays pending (kinds ?_)
      rw [e]
      rintro (k | ⟨-, k⟩)
      · cases k
      · exact free k
    all_goals exact releases
  · exact releases

theorem released_moves (h : s.MovesOk) : s.released.MovesOk := { h with pinch := nofun }

theorem leaveReleasing_moves (h : s.MovesOk) (hs : s.motion.state = .releasing) : s.leaveReleasing.MovesOk := by
  have free := released_moves h
  have holds : s.released.motion.state.holdsMoves = true := by
    change s.motion.state.holdsMoves = true
    rw [hs]
    rfl
  unfold State.leaveReleasing
  dsimp only
  split
  · rename_i pending _
    have enters {x : Transport} (hx : x.holdsMoves = true) (other : x ≠ .playing) : (s.released.enter x).MovesOk :=
      enter_moves (free.mayEnter holds hx (by rw [pending]; nofun) fun e => absurd e other)
    exact moves_ite (fun _ => enters rfl nofun) fun _ => enters rfl nofun
  · rename_i other
    have active : s.released.motion.active = none := by
      by_contra some
      obtain ⟨a, ha⟩ := Option.ne_none_iff_exists'.1 some
      exact other a (free.unhalted ha) ha
    refine moves_ite (fun _ => ?_) fun _ => enterHalting_moves active (free.unsought active) ..
    have dropped : State.MovesOk { s.released with motion := { s.released.motion with haltPending := none } } :=
      { free with pending := nofun, dropped := nofun }
    exact enter_moves (dropped.mayEnter holds rfl nofun nofun)

theorem reactPinch_moves (h : s.MovesOk) (ht : s.reactPinch = some t) : t.MovesOk := by
  unfold State.reactPinch at ht
  split at ht
  · cases ht
  · split at ht
    case h_1 e => split at ht <;> cases ht; exact engaged_moves h e
    case h_2 e => split at ht <;> cases ht; exact leaveReleasing_moves h e
    case h_3 =>
      split at ht <;> cases ht
      exact { released_moves h with halting := by simpa [State.released] using h.halting }
    all_goals cases ht

/-- HALTING left with the set of faults as it stands (R104). -/
theorem endHalting_moves (h : s.MovesOk) (hs : s.motion.state = .halting) (c : HaltCtx) : (s.endHalting c).MovesOk := by
  obtain ⟨queue, active⟩ := h.idle (by rw [hs]; rfl)
  have pending : s.motion.haltPending = none := by
    by_contra some
    rcases h.pending (Option.isSome_iff_ne_none.2 some) with e | e <;> rw [hs] at e <;> cases e
  refine moves_ite (fun set => enterFault_moves queue active (h.unsought active) set (.inr rfl)) fun set => ?_
  have clear : s.faults.set = [] := not_not.1 set
  split
  · exact enter_moves (h.mayPark queue clear (.inr (.inl rfl)) (fun _ => pending) nofun)
  · exact enter_moves (h.mayPark queue clear (.inl rfl) (fun _ => pending) nofun)

theorem reactHalting_moves (h : s.MovesOk) (ht : s.reactHalting = some t) : t.MovesOk := by
  unfold State.reactHalting at ht
  split at ht
  · rename_i hs _
    split at ht
    · split at ht
      · cases ht
        exact endHalting_moves h hs _
      · split at ht <;> cases ht
        exact { h with pinch := fun _ => .inr (.inr hs) }
    · cases ht
  · cases ht

theorem reactBraking_moves (h : s.MovesOk) (ht : s.reactBraking = some t) : t.MovesOk := by
  unfold State.reactBraking at ht
  split at ht <;> cases ht
  rename_i due
  have hs : s.motion.state = .braking := due.1
  obtain ⟨queue, active⟩ := h.idle (by rw [hs]; rfl)
  exact enterFault_moves queue active (h.unsought active) (h.stopped (.inl hs)) (.inr rfl)

theorem reactHold_moves (h : s.MovesOk) (ht : s.reactHold = some t) : t.MovesOk := by
  unfold State.reactHold at ht
  split at ht
  · rename_i a ha
    have enters {x : Transport} (hx : x.holdsMoves = true) (other : x ≠ .playing) : (s.enter x).MovesOk :=
      enter_moves (h.mayEnter (h.holds ha) hx (by rw [h.unhalted ha]; nofun) fun e => absurd e other)
    split at ht
    · split at ht
      · cases ht; exact enters rfl nofun
      · split at ht <;> cases ht; exact enters rfl nofun
    · cases ht
  · cases ht

theorem reactSettled_moves (h : s.MovesOk) (ht : s.reactSettled = some t) : t.MovesOk := by
  unfold State.reactSettled at ht
  split at ht
  · split at ht <;> cases ht; exact settleEnd_moves h ‹_›
  · cases ht

theorem reactQueue_moves (h : s.MovesOk) (ht : s.reactQueue = some t) : t.MovesOk := by
  unfold State.reactQueue at ht
  split at ht <;> cases ht
  rename_i due
  exact activate_moves (activates_of_stopped h due.1 due.2.1)

theorem react_moves (h : s.MovesOk) (ht : s.react = some t) : t.MovesOk := by
  rcases react_cases ht with ht | ht | ht | ht | ht | ht | ht | ht
  · exact reactTension_moves h ht
  · exact reactSizing_moves h ht
  · exact reactPinch_moves h ht
  · exact reactHalting_moves h ht
  · exact reactBraking_moves h ht
  · exact reactHold_moves h ht
  · exact reactSettled_moves h ht
  · exact reactQueue_moves h ht

theorem syncLoop_moves (h : s.MovesOk) : s.syncLoop.MovesOk := moves_ite (fun _ => { h with }) fun _ => { h with }

theorem settle_moves (h : s.MovesOk) : s.settle.MovesOk :=
  syncLoop_moves (reactions_keep (P := State.MovesOk) (fun _ _ => react_moves) 64 s h)

end Sys2Proof.Machine
end
section
/-! The move queue and the contexts (O9): every command keeps the invariant. -/

namespace Sys2Proof.Machine
variable {s t u : State} {w : List Group} {x : Transport} {a : ActiveMove} {o q : Host.Outcome State Fault Refusal} {kind : Byte}
  {r : Request}

/-! ### Outcomes -/

/-- Every next state that an outcome gives keeps the move queue and the contexts. -/
def LeadsToMoves (o : Host.Outcome State Fault Refusal) : Prop := ∀ t, o = .next t → t.MovesOk

theorem movesLead_next (h : t.MovesOk) : LeadsToMoves (.next t) := fun _ e => by cases e; exact h

theorem movesLead_refused (y : Refusal) : LeadsToMoves (.refused y) := fun _ e => by simp at e

theorem movesLead_ite {p : Prop} [Decidable p] (ho : p → LeadsToMoves o) (hq : ¬p → LeadsToMoves q) :
    LeadsToMoves (if p then o else q) := by
  split
  · exact ho ‹_›
  · exact hq ‹_›

/-- What an idle transmitter takes is a completion record at most. -/
theorem handOver_moves (h : s.MovesOk) : s.handOver.MovesOk :=
  moves_congr h {
    queue := handOver_motion_queue
    active := handOver_motion_active
    state := handOver_motion_state
    sizing := handOver_motion_sizing
    halt := handOver_motion_halt
    pending := handOver_motion_haltPending
    braking := handOver_motion_brakingTimer
    pinch := handOver_motion_pinchTimer
    locate := handOver_motion_locate
    watch := handOver_watch
    set := by rw [handOver_faults]
    seek := by rw [handOver_chase] }

theorem movesLead_handOver (h : t.MovesOk) : LeadsToMoves (.next t.handOver) := movesLead_next (handOver_moves h)

/-- The end of most steps: the reactions due, then the transmitters. -/
theorem movesLead_settled (h : t.MovesOk) : LeadsToMoves (.next t.settle.handOver) := movesLead_handOver (settle_moves h)

theorem moves_of_writes (h : s.MovesOk) (e : WritesOnly w s o) (m : ∀ g ∈ movesGroups, g ∉ w) : LeadsToMoves o := by
  intro t e'
  obtain ⟨u, rfl | rfl, same⟩ := e t e'
  · exact moves_of_sameBut h same m
  · exact handOver_moves (moves_of_sameBut h same m)

theorem reach_moves (h : s.MovesOk) (n : Nat) : (s.reach n).MovesOk := { h with }

/-! ### Reset and start-up -/

theorem afterReset_moves (k : ResetKind) (phase : StartPhase) : (s.afterReset k phase).MovesOk := { reset_moves with }

theorem linkReset_moves (k : ResetKind) : (s.linkReset k).MovesOk :=
  settle_moves (readInputs_moves (moves_of_sameBut (afterReset_moves k .running) handNotices_sameBut (by decide)))

theorem execSettlePeriodEnd_moves (h : s.MovesOk) : LeadsToMoves (execSettlePeriodEnd s) := by
  unfold execSettlePeriodEnd
  split
  · exact movesLead_next (settle_moves (readInputs_moves { h with }))
  all_goals exact movesLead_next h

theorem execProfileLoadDone_moves (h : s.MovesOk) : LeadsToMoves (execProfileLoadDone s) := by
  have seek : s.loadProfile.chase.seek = s.chase.seek := by
    dsimp only [State.loadProfile, State.reformGuards, Chase.reprofiled]
    split <;> rfl
  have loaded : s.loadProfile.MovesOk := moves_congr h ⟨rfl, rfl, rfl, rfl, rfl, rfl, rfl, rfl, rfl, rfl, rfl, seek⟩
  unfold execProfileLoadDone
  split
  · exact movesLead_next (moves_of_sameBut (by exact { loaded with }) handNotices_sameBut (by decide))
  all_goals exact movesLead_next h

theorem execDeferredReset_moves (h : s.MovesOk) : LeadsToMoves (execDeferredReset s) := by
  unfold execDeferredReset
  split
  · exact movesLead_ite (fun _ => movesLead_next (linkReset_moves _)) fun _ => movesLead_next h
  · exact movesLead_next h

theorem chooseNext_moves (h : s.MovesOk) (l : Link) : ((s.idleTransmitter l).chooseNext l).MovesOk := by
  have idle : ((s.idleTransmitter l).port l).sending = none := by cases l <;> rfl
  have fed : (s.idleTransmitter l).feed l = (s.idleTransmitter l).chooseNext l := by rw [State.feed, idle]
  have quiet : (s.idleTransmitter l).MovesOk := moves_of_sameBut h (transmitter_sameBut l (s.port l).notice none) (by decide)
  have field {α : Type} (f : State → α) (h1 : ∀ (t : State) (p : LinkPort), f (t.withPort l p) = f t)
    (h2 : ∀ (t : State) (c : List Completion), f { t with motion := { t.motion with completions := c } } = f t) :=
    feed_field (s := s.idleTransmitter l) f h1 h2
  rw [← fed]
  refine moves_congr quiet {
    queue := field (·.motion.queue) ?_ fun _ _ => rfl
    active := field (·.motion.active) ?_ fun _ _ => rfl
    state := field (·.motion.state) ?_ fun _ _ => rfl
    sizing := field (·.motion.sizing) ?_ fun _ _ => rfl
    halt := field (·.motion.halt) ?_ fun _ _ => rfl
    pending := field (·.motion.haltPending) ?_ fun _ _ => rfl
    braking := field (·.motion.brakingTimer) ?_ fun _ _ => rfl
    pinch := field (·.motion.pinchTimer) ?_ fun _ _ => rfl
    locate := field (·.motion.locate) ?_ fun _ _ => rfl
    watch := field (·.watch) ?_ fun _ _ => rfl
    set := field (·.faults.set) ?_ fun _ _ => rfl
    seek := field (·.chase.seek) ?_ fun _ _ => rfl }
  all_goals
    intro t p
    cases l <;> rfl

theorem execTransmitDone_moves (h : s.MovesOk) (l : Link) : LeadsToMoves (execTransmitDone l s) := by
  unfold execTransmitDone
  dsimp only
  split
  · exact movesLead_ite (fun _ => movesLead_next (linkReset_moves _)) fun _ => movesLead_next (chooseNext_moves h l)
  · exact movesLead_next (chooseNext_moves h l)

/-! ### Counts and rest -/

theorem deliverHit_moves (h : s.MovesOk) (i : Nat) (c : Comparator) : (s.deliverHit i c).MovesOk := by
  unfold State.deliverHit
  split
  · split
    · exact moves_ite (fun _ => finishMove_moves h ‹_› _) fun _ => h
    · exact h
  · exact moves_ite (fun _ => moves_of_sameBut h captureRun_sameBut (by decide)) fun _ => h
  · split
    · exact moves_of_sameBut h (captureDone_sameBut _) (by decide)
    · exact moves_of_sameBut h captureTrigger_sameBut (by decide)
    · exact h
  · exact moves_of_sameBut h tryCueWrite_sameBut (by decide)
  · split
    · exact moves_of_sameBut h (endCueWrite_sameBut _) (by decide)
    · exact moves_of_sameBut h (endCueWrite_sameBut _) (by decide)
    · exact h
  · exact moves_of_sameBut h (reportTo_sameBut ..) (by decide)

theorem deliverHits_moves (l : List (Nat × Comparator)) :
    ∀ {s : State}, s.MovesOk → (l.foldl (fun t y => t.deliverHit y.1 y.2) s).MovesOk := by
  induction l with
  | nil => exact id
  | cons y l ih => exact fun h => ih (deliverHit_moves h ..)

theorem reports_moves (l : List Int) (src : Source) (n : Int) :
    ∀ {s : State}, s.MovesOk → (l.foldl (fun t v => t.reportAt src v n) s).MovesOk := by
  induction l with
  | nil => exact id
  | cons v l ih => exact fun h => ih (moves_of_sameBut h (reportTo_sameBut ..) (by decide))

theorem stepZones_moves (h : s.MovesOk) (d : Direction) : (s.stepZones d).MovesOk := reports_moves _ _ _ (by exact { h with })

theorem stepComps_moves (h : s.MovesOk) (d : Direction) : (s.stepComps d).MovesOk := deliverHits_moves _ (by exact { h with })

theorem stepPosition_moves (h : s.MovesOk) (d : Direction) : (s.stepPosition d).MovesOk :=
  settle_moves (stepComps_moves (stepZones_moves (by exact { h with }) d) d)

theorem execRollerCount_moves (h : s.MovesOk) (d : Direction) : LeadsToMoves (execRollerCount d s) := by
  have counted : (s.rollerSums d).MovesOk := moves_of_sameBut h (rollerSums_sameBut d) (by decide)
  exact movesLead_ite (fun _ => movesLead_ite (fun _ => movesLead_next counted) fun _ =>
    movesLead_handOver (stepPosition_moves counted d)) fun _ => movesLead_next h

theorem execReelCount_moves (h : s.MovesOk) (y : Side) (d : Direction) : LeadsToMoves (execReelCount y d s) := by
  refine movesLead_ite (fun _ => movesLead_ite (fun _ => movesLead_next { h with }) fun _ => ?_) fun _ => movesLead_next h
  have measured := moves_of_sameBut h (((tach_sameBut (s := s) y d).trans (withReel_sameBut y
    (counted_drive (State.reel { s with position := s.position.tach y d } y) s.profile d s.now))).trans reformGuards_sameBut)
    (by decide)
  exact movesLead_settled (moves_ite (fun _ => latchFault_moves measured _) fun _ => measured)

theorem execRestTimerExpiry_moves (h : s.MovesOk) : LeadsToMoves (execRestTimerExpiry s) := by
  refine movesLead_ite (fun _ => movesLead_next h) fun _ => movesLead_settled ?_
  have rested : State.MovesOk { s.reach (s.position.restStart + Config.msec 100) with
      position := { (s.reach (s.position.restStart + Config.msec 100)).position with atRest := true } } := { h with }
  unfold State.restSettled
  split
  · exact moves_ite (fun _ => settleEnd_moves rested ‹_›) fun _ => rested
  · exact rested

/-! ### Samples and input lines -/

theorem armMoved_moves (h : s.MovesOk) (d : Side) : (s.armMoved d).MovesOk := by
  have unwatched : State.MovesOk { s with watch := none } := { h with watch := nofun }
  have reported := report_moves unwatched .armMoved (sideNum d)
  refine moves_ite (fun parked => ?_) fun _ => reported
  obtain ⟨queue, -⟩ := reported.idle (by rw [parked]; rfl)
  have clear : (State.report { s with watch := none } .armMoved (sideNum d)).faults.set = [] := by
    by_contra latched
    rcases reported.latched latched with e | e | e <;> rw [parked] at e <;> cases e
  exact moves_of_sameBut (enter_moves (reported.mayPark queue clear (.inl rfl) (by rintro (e | e) <;> cases e) nofun))
    restartReels_sameBut (by decide)

theorem watchArm_moves (h : s.MovesOk) (d : Side) (raw : Nat) : (s.watchArm d raw).MovesOk := by
  unfold State.watchArm
  split
  · exact h
  · rename_i watched
    exact moves_ite (fun _ => armMoved_moves h d) fun _ => { h with watch := fun _ => h.watch (by rw [watched]; rfl) }

theorem currentSample_moves (h : s.MovesOk) (m : Motor) (raw : Nat) : (s.currentSample m raw).MovesOk := by
  cases m
  all_goals exact latchIf_moves (by exact { h with }) ..

theorem handSample_moves (h : s.MovesOk) (y : Slot) (raw : Nat) : (s.handSample y raw).MovesOk := by
  have judged (d : Side) (f : Nat) : (s.judgeArm d f).MovesOk := moves_of_sameBut h (judgeArm_sameBut d f) (by decide)
  cases y
  case armL => exact watchArm_moves (judged ..) .left raw
  case armR => exact watchArm_moves (judged ..) .right raw
  case curL => exact currentSample_moves h .left raw
  case curR => exact currentSample_moves h .right raw
  case curC => exact currentSample_moves h .capstan raw
  case supply => exact moves_ite (fun _ => latchIf_moves (by exact { h with }) ..) fun _ => h
  case idle => exact h

theorem execConversionComplete_moves (h : s.MovesOk) (raw : BitVec 12) : LeadsToMoves (execConversionComplete raw s) :=
  movesLead_ite (fun _ => movesLead_next h) fun _ => movesLead_settled (handSample_moves (by exact { h with }) ..)

theorem execDriveFaultInput_moves (h : s.MovesOk) (m : Motor) (b : Bool) : LeadsToMoves (execDriveFaultInput m b s) :=
  movesLead_ite (fun _ => movesLead_settled (latchFault_moves (by exact { h with }) _)) fun _ => movesLead_next { h with }

theorem execSupplyWarningInput_moves (h : s.MovesOk) (b : Bool) : LeadsToMoves (execSupplyWarningInput b s) :=
  movesLead_ite (fun _ => movesLead_settled (latchFault_moves (by exact { h with }) _)) fun _ => movesLead_next { h with }

/-! ### The servos and the ends of timers -/

theorem derate_moves (h : s.MovesOk) : s.derate.MovesOk := by
  unfold State.derate
  split
  · exact h
  · refine moves_ite (fun _ => ?_) fun _ => onActive_moves h fun _ => ⟨rfl, rfl⟩
    rename_i a _ _
    have derated : (s.onActive fun y => { y with accel := deratedAccel a.accel, derated := true }).MovesOk :=
      onActive_moves h fun _ => ⟨rfl, rfl⟩
    exact report_moves (by exact { derated with }) ..

theorem driveReels_moves (h : s.MovesOk) : s.driveReels.MovesOk := by
  have derated : ∀ (b : Bool) (u : State), u.MovesOk → (if b then u.derate else u).MovesOk :=
    fun _ u hu => moves_ite (fun _ => derate_moves hu) fun _ => hu
  exact derated _ _ (derated _ _ { h with })

theorem execReelServoUpdate_moves (h : s.MovesOk) : LeadsToMoves (execReelServoUpdate s) := by
  have measured : ∀ y : SpeedMeter, State.MovesOk { s.reach (s.speed.lastUpdate + Config.updateTime) with speed := y } :=
    fun _ => { h with }
  exact movesLead_ite (fun _ => movesLead_next { measured _ with }) fun _ =>
    movesLead_handOver { driveReels_moves (measured _) with }

theorem execRollerSlipTimeout_moves (h : s.MovesOk) : LeadsToMoves (execRollerSlipTimeout s) := by
  unfold execRollerSlipTimeout
  split
  · exact movesLead_settled (latchFault_moves (by exact { h with }) _)
  · exact movesLead_next h

theorem execPinchTimeout_moves (h : s.MovesOk) : LeadsToMoves (execPinchTimeout s) := by
  unfold execPinchTimeout
  split
  · exact movesLead_settled (latchFault_moves (by exact { h with
      halting := by simpa [State.reach] using h.halting, pinch := nofun }) _)
  · exact movesLead_next h

theorem execDurationExpiry_moves (h : s.MovesOk) : LeadsToMoves (execDurationExpiry s) := by
  unfold execDurationExpiry
  split
  · exact movesLead_settled (finishMove_moves (reach_moves h _) ‹_› _)
  · exact movesLead_next h

/-- A sizing context found in a phase stands in SIZING. -/
theorem sizing_of_sizingIn (h : s.MovesOk) {p : SizingPhase} {z : SizingCtx} (hz : s.sizingIn p = some z) :
    s.motion.state = .sizing := by
  rw [State.sizingIn, Option.filter_eq_some_iff] at hz
  exact h.sizing (by rw [hz.1]; rfl)

theorem execThreadCheckTimeout_moves (h : s.MovesOk) : LeadsToMoves (execThreadCheckTimeout s) := by
  unfold execThreadCheckTimeout
  split
  · rename_i hz
    have hs : s.motion.state = .sizing := sizing_of_sizingIn h hz
    exact movesLead_settled (report_moves (leaveSizing_moves (reach_moves h _) hs (.inl rfl)) ..)
  · exact movesLead_next h

theorem execMeasureTimeout_moves (h : s.MovesOk) : LeadsToMoves (execMeasureTimeout s) := by
  unfold execMeasureTimeout
  split
  · exact movesLead_settled (latchFault_moves (reach_moves h _) _)
  · exact movesLead_next h

theorem execBrakingTimeout_moves (h : s.MovesOk) : LeadsToMoves (execBrakingTimeout s) := by
  unfold execBrakingTimeout
  split
  · rename_i t timed
    have hs : s.motion.state = .braking := h.braking (by rw [timed]; rfl)
    obtain ⟨queue, active⟩ := h.idle (by rw [hs]; rfl)
    exact movesLead_settled (enterFault_moves (s := s.reach _) queue active (h.unsought active) (h.stopped (.inl hs)) (.inr rfl))
  · exact movesLead_next h

theorem execSupervisionExpiry_moves (h : s.MovesOk) : LeadsToMoves (execSupervisionExpiry s) := by
  unfold execSupervisionExpiry
  split
  · exact movesLead_settled (report_moves (stopped_moves (by exact { h with }) _) ..)
  · exact movesLead_next h

end Sys2Proof.Machine
end
section
/-! The move queue and the contexts (O9): the reference, the chase, the cue bits and the requests. -/

namespace Sys2Proof.Machine
variable {s t u : State} {w : List Group} {x : Transport} {a : ActiveMove} {o q : Host.Outcome State Fault Refusal} {kind : Byte}
  {r : Request}

/-! ### The reference -/

theorem stepLocate_moves (h : s.MovesOk) : s.stepLocate.MovesOk := by
  unfold State.stepLocate
  split
  · rename_i l hl
    have located : s.motion.locate.isSome = true := by rw [hl]; rfl
    split
    · exact moves_ite (fun _ => passTarget_moves h located _) fun _ => withLocate_moves h located _
    · exact h
  · exact h

theorem reportGuard_moves (h : s.MovesOk) (d : Direction) : (s.reportGuard d).MovesOk :=
  moves_ite (fun _ => h) fun _ => report_moves (by exact { h with }) ..

theorem settleHeld_moves (h : s.MovesOk) : s.settleHeld.MovesOk := by
  unfold State.settleHeld
  split
  · rename_i l hl
    exact moves_ite (fun _ => withLocate_moves h (by rw [hl]; rfl) _) fun _ => h
  · exact h

theorem endWinding_moves (h : s.MovesOk) (d : Demand) (v : Int) : (s.endWinding d v).MovesOk := by
  have limited : State.MovesOk (match d.dir with
      | some y => if s.guardLimits y v then s.reportGuard y else s
      | none => s) := by
    split
    · exact moves_ite (fun _ => reportGuard_moves h _) fun _ => h
    · exact h
  unfold State.endWinding
  dsimp only
  split
  · exact moves_ite (fun _ => moves_ite (fun _ => failMove_moves (moves_ite (fun _ => limited) fun _ => h) _) fun _ =>
      moves_ite (fun _ => failMove_moves limited _) fun _ => limited) fun _ => limited
  · exact settleHeld_moves limited

theorem endPinched_moves (h : s.MovesOk) : s.endPinched.MovesOk := by
  have stopped := moves_ite (p := s.barrierStops = true) (fun _ => failMove_moves h .blocked) fun _ => h
  unfold State.endPinched
  split
  · exact h
  · split
    · exact moves_ite (fun _ => failMove_moves (reportGuard_moves h _) _) fun _ => stopped
    · exact stopped

/-- The end of a run-up engages the pinch (R100). -/
theorem runUp_moves (h : s.MovesOk) (ends : s.runUpEnds = true) : (s.enter .engaging).MovesOk := by
  have runs : s.runUp = true := by
    simp only [State.runUpEnds, Bool.and_eq_true] at ends
    exact ends.1.1
  unfold State.runUp at runs
  split at runs
  · rename_i a hs ha
    exact enter_moves (h.mayEnter (h.holds ha) rfl (by rw [h.unhalted ha]; nofun) nofun)
  · cases runs

theorem endUpdate_moves (h : s.MovesOk) (d : Demand) (v : Int) : (s.endUpdate d v).MovesOk := by
  unfold State.endUpdate
  split
  case h_1 => exact moves_ite (fun ends => runUp_moves (endWinding_moves h ..) ends) fun _ => endWinding_moves h ..
  case h_2 | h_3 | h_4 => exact endPinched_moves h
  all_goals exact h

theorem referenceStep_moves (h : s.MovesOk) : s.referenceStep.MovesOk := by
  have formed : s.stepLocate.formCeilings.MovesOk := { stepLocate_moves h with }
  have ended := endUpdate_moves (s := s.stepLocate.formCeilings.stepReference
    (s.stepLocate.formCeilings.demand s.stepLocate.formCeilings.ceiling)) { formed with }
    (s.stepLocate.formCeilings.demand s.stepLocate.formCeilings.ceiling) s.stepLocate.formCeilings.motion.vRef
  exact { ended with }

theorem execReferenceUpdate_moves (h : s.MovesOk) : LeadsToMoves (execReferenceUpdate s) :=
  movesLead_ite (fun _ => movesLead_handOver { h with }) fun _ => movesLead_settled (referenceStep_moves (by exact { h with }))

/-! ### Reference words and losses -/

theorem withCounts_moves (h : s.MovesOk) (n m : Nat) : (s.withCounts n m).MovesOk := { h with }

theorem correct_moves (h : s.MovesOk) (e : Int) : (s.correct e).MovesOk := { h with }

theorem dropSeek_moves (h : s.MovesOk) : s.dropSeek.MovesOk := { h with locate := nofun, seek := nofun }

theorem seekWord_moves (h : s.MovesOk) (ha : s.motion.active = some a) (kind : a.kind = .chase) (f : Nat) :
    (s.seekWord f).MovesOk := by
  unfold State.seekWord
  split
  · exact moves_ite (fun _ => beginSeek_moves h ha kind f) fun _ => moves_ite (fun _ => dropSeek_moves h) fun _ => h
  · exact h

theorem approachWord_moves (h : s.MovesOk) (e : Int) : (s.approachWord e).MovesOk :=
  moves_ite (fun _ => correct_moves (withCounts_moves (setChase_moves h _) ..) e) fun _ => correct_moves (withCounts_moves h ..) e

theorem lockedWord_moves (h : s.MovesOk) (e : Int) : (s.lockedWord e).MovesOk :=
  moves_ite (fun _ => correct_moves (withCounts_moves (setChase_moves h _) ..) e) fun _ => correct_moves (withCounts_moves h ..) e

theorem setChase_active (ha : s.motion.active = some a) (c : ChaseState) : (s.setChase c).motion.active = some a := by
  rw [setChase_motion]
  exact ha

theorem followWord_moves (h : s.MovesOk) (ha : s.motion.active = some a) (kind : a.kind = .chase) (f : Nat) :
    (s.followWord f).MovesOk := by
  unfold State.followWord
  split
  · exact failMove_moves h _
  · refine moves_ite (fun _ => ?_) fun _ => moves_ite (fun _ => h) fun _ => moves_ite (fun _ => lockedWord_moves h _) fun _ =>
      approachWord_moves h _
    exact beginSeek_moves (withCounts_moves (setChase_moves h .seek) 0 0) (setChase_active ha .seek) kind f

theorem returnWord_moves (h : s.MovesOk) (ha : s.motion.active = some a) (kind : a.kind = .chase) (f : Nat) :
    (s.returnWord f).MovesOk := by
  have back : State.MovesOk { s with chase := { s.chase with freewheel := none, origin := none } } := { h with }
  unfold State.returnWord
  dsimp only
  split
  · exact failMove_moves back _
  · exact moves_ite (fun _ => beginSeek_moves (setChase_moves back _) (by rw [setChase_motion]; exact ha) kind f) fun _ =>
      withCounts_moves (setChase_moves (moves_ite (fun _ => dropSeek_moves back) fun _ => back) _) ..

theorem chaseWord_moves (h : s.MovesOk) (ha : s.motion.active = some a) (kind : a.kind = .chase) (f : Nat) :
    (s.chaseWord f).MovesOk := by
  unfold State.chaseWord
  split
  case h_1 => exact seekWord_moves h ha kind f
  case h_2 | h_3 => exact followWord_moves h ha kind f
  case h_4 | h_5 => exact moves_ite (fun _ => returnWord_moves h ha kind f) fun _ => h
  case h_6 => exact h

theorem becomeLost_moves (h : s.MovesOk) : s.becomeLost.MovesOk := by
  have dropped := moves_ite (p := s.seeking = true) (fun _ => dropSeek_moves h) fun _ => h
  exact setChase_moves (by exact { dropped with }) _

theorem freewheel_moves (h : s.MovesOk) (c : ChaseOrigin) : (s.freewheel c).MovesOk :=
  moves_ite (fun _ => becomeLost_moves (withCounts_moves h 0 0)) fun _ => setChase_moves (by exact { h with }) _

theorem loseReference_moves (h : s.MovesOk) : s.loseReference.MovesOk := by
  unfold State.loseReference
  split
  case h_1 | h_2 | h_3 => exact freewheel_moves h _
  all_goals exact h

theorem active_of_chasing (h : s.chasing = true) : ∃ a, s.motion.active = some a ∧ a.kind = .chase := by
  unfold State.chasing at h
  split at h
  · exact ⟨_, ‹_›, of_decide_eq_true h⟩
  · cases h

theorem execReferenceWord_moves (h : s.MovesOk) (y : BcdTime) (rev : Bool) : LeadsToMoves (execReferenceWord y rev s) := by
  refine movesLead_ite (fun _ => movesLead_next h) fun _ => ?_
  have read : ∀ f, (s.readWord f).MovesOk := fun _ => { h with }
  split
  · refine movesLead_settled (moves_ite (fun chasing => ?_) fun _ => read _)
    obtain ⟨a, ha, kind⟩ := active_of_chasing chasing
    exact chaseWord_moves (read _) ha kind _
  · exact movesLead_next { h with }

theorem execLossTimerExpiry_moves (h : s.MovesOk) : LeadsToMoves (execLossTimerExpiry s) := by
  unfold execLossTimerExpiry
  split
  · exact movesLead_settled (moves_ite (fun _ => loseReference_moves (by exact { h with })) fun _ => { h with })
  · exact movesLead_next h

theorem execFreewheelExpiry_moves (h : s.MovesOk) : LeadsToMoves (execFreewheelExpiry s) := by
  unfold execFreewheelExpiry
  split
  · exact movesLead_settled (becomeLost_moves (reach_moves h _))
  · exact movesLead_next h

/-! ### Cue bits -/

theorem storeCue_moves (h : s.MovesOk) : s.storeCue.1.MovesOk := by
  unfold State.storeCue
  dsimp only
  split
  · exact h
  · split
    · exact h
    · exact { h with }

theorem reportMark_moves (h : s.MovesOk) : s.reportMark.MovesOk := by
  have taken : (if s.waitsForCue then s.finishMove .done else s).MovesOk := by
    refine moves_ite (fun waits => ?_) fun _ => h
    unfold State.waitsForCue at waits
    split at waits
    · exact finishMove_moves h ‹_› _
    · cases waits
  exact moves_ite (fun _ => moves_of_sameBut (storeCue_moves taken) (reportTo_sameBut ..) (by decide)) fun _ =>
    moves_of_sameBut taken (reportTo_sameBut ..) (by decide)

theorem judgeBit_moves (h : s.MovesOk) (d : Direction) : (s.judgeBit d).MovesOk := by
  have marked : ∀ (b : Bool) (u : State), u.MovesOk → (if b then u.reportMark else u).MovesOk :=
    fun _ u hu => moves_ite (fun _ => reportMark_moves hu) fun _ => hu
  have cleared : ∀ (b : Bool) (u : State), u.MovesOk → (if b then u.reportClear else u).MovesOk :=
    fun _ u hu => moves_ite (fun _ => report_moves hu ..) fun _ => hu
  exact cleared _ _ (marked _ _ { h with })

theorem execCueBit_moves (h : s.MovesOk) (b : Bool) : LeadsToMoves (execCueBit b s) := by
  refine movesLead_ite (fun _ => movesLead_next h) fun _ => movesLead_ite (fun _ => movesLead_next ?_)
    fun _ => movesLead_settled ?_
  · exact moves_of_sameBut h writeBit_sameBut (by decide)
  · exact moves_ite (fun _ => judgeBit_moves (by exact { h with }) _) fun _ => { h with }

/-! ### Requests -/

/-- A request keeps the moves when its answer does. -/
theorem request_moves (h : s.MovesOk) {answer : State → Answer} (ha : ∀ u : State, u.MovesOk → (answer u).state.MovesOk) :
    LeadsToMoves (s.request kind r answer) := by
  have taken : (s.takeFrame kind r).1.MovesOk := moves_of_sameBut h (takeFrame_sameBut kind r) (by decide)
  exact movesLead_ite (fun _ => movesLead_refused _) fun _ => movesLead_ite
    (fun _ => movesLead_handOver (moves_of_sameBut (ha _ taken) (replies_sameBut ..) (by decide))) fun _ => movesLead_next taken

/-- What a checked request leaves keeps the moves when the request it grants does, all its checks having passed. -/
theorem checked_moves (h : s.MovesOk) {checks : List Check} {act : Answer}
    (ha : (∀ c ∈ checks, c = none) → act.state.MovesOk) : (s.checked checks act).state.MovesOk := by
  unfold State.checked
  split
  · exact h
  · rename_i e
    exact ha fun c hc => List.findSome?_eq_none_iff.1 e c hc

theorem submits_holds {y : Transport} (h : y.submits = true) : y.holdsMoves = true := by
  revert h
  cases y <;> decide

/-- A record joins the tail of the queue in a state that may hold moves (R67, R70). -/
theorem join_moves (h : s.MovesOk) (holds : s.motion.state.holdsMoves = true) (y : MoveRecord) : (s.join y).MovesOk := by
  have joined (q : List MoveRecord) : State.MovesOk { s with motion := { s.motion with queue := s.motion.queue ++ q } } :=
    { h with
      queue := fun _ => holds
      active := fun a ha => by
        obtain ⟨r, rest, e, id, kind⟩ := h.active a ha
        exact ⟨r, rest ++ q, by dsimp only; rw [e, List.cons_append], id, kind⟩ }
  unfold State.join
  dsimp only
  split
  · exact { joined _ with }
  · exact joined _

theorem afterJoin_moves (h : s.MovesOk) : s.afterJoin.MovesOk :=
  moves_ite (fun due => activate_moves (activates_of_stopped (supersede_moves h) due.1 due.2)) fun _ => supersede_moves h

theorem execSubmitMove_moves (h : s.MovesOk) (r : Request) : LeadsToMoves (execSubmitMove r s) := by
  refine request_moves h fun u hu => checked_moves hu fun passed => settle_moves (afterJoin_moves (join_moves hu ?_ _))
  exact submits_holds (of_check (passed (check u.motion.state.submits .wrongState) (by simp)))

theorem flushAll_moves (h : s.MovesOk) : s.flushAll.MovesOk := by
  unfold State.flushAll
  split
  · exact h
  · exact stopped_moves h _

/-- The records behind the active move leave (R83). -/
theorem flushWaiting_moves (h : s.MovesOk) : s.flushWaiting.MovesOk := by
  obtain ⟨motion, chase, watch⟩ := dropRecords_leaves s.waiting s
  have dropped : (s.waiting.foldl State.dropRecord s).MovesOk := moves_congr h {
    queue := by rw [motion]
    active := by rw [motion]
    state := by rw [motion]
    sizing := by rw [motion]
    halt := by rw [motion]
    pending := by rw [motion]
    braking := by rw [motion]
    pinch := by rw [motion]
    locate := by rw [motion]
    watch
    set := by rw [dropRecords_faults]
    seek := by rw [chase] }
  unfold State.flushWaiting
  generalize s.waiting.foldl State.dropRecord s = u at dropped
  dsimp only
  split
  · rename_i ha
    refine { dropped with queue := fun _ => dropped.holds ha, active := fun b hb => ?_ }
    obtain ⟨r, rest, e, same⟩ := dropped.active b hb
    exact ⟨r, [], by dsimp only; rw [e]; rfl, same⟩
  · rename_i ha
    refine { dropped with queue := fun filled => absurd rfl filled, active := fun b hb => ?_ }
    cases ha.symm.trans hb

theorem execFlushMoves_moves (h : s.MovesOk) (r : Request) : LeadsToMoves (execFlushMoves r s) := by
  refine request_moves h fun u hu => checked_moves hu fun _ => ?_
  split
  · exact settle_moves (flushAll_moves hu)
  · exact flushWaiting_moves hu

theorem execStop_moves (h : s.MovesOk) (r : Request) : LeadsToMoves (execStop r s) :=
  request_moves h fun _ hu => checked_moves hu fun _ => settle_moves (stopped_moves hu _)

/-- SIZING entered from UNTHREADED, STANDBY or an empty STOPPED, in the thread check (R106, R110). -/
theorem enterSizing_moves (h : s.MovesOk)
    (hs : s.motion.state = .unthreaded ∨ s.motion.state = .stopped ∨ s.motion.state = .standby)
    (queue : s.motion.queue = []) (v : SizingVariant) : (s.enterSizing v).MovesOk := by
  have clear : s.faults.set = [] := by
    by_contra latched
    rcases h.latched latched with e | e | e <;> rw [e] at hs <;> rcases hs with k | k | k <;> cases k
  have pending : s.motion.haltPending = none := by
    by_contra waits
    rcases h.pending (Option.isSome_iff_ne_none.2 waits) with e | e <;> rw [e] at hs <;> rcases hs with k | k | k <;> cases k
  have active : s.motion.active = none := by
    by_contra some
    obtain ⟨a, ha⟩ := Option.ne_none_iff_exists'.1 some
    exact h.queued a ha queue
  have unlocated : s.motion.locate = none := h.unlocated active fun e => by rw [e] at hs; rcases hs with k | k | k <;> cases k
  refine enter_moves ⟨h.active, h.seek, nofun, fun filled => absurd queue filled, fun waits => ?_,
    fun latched => absurd clear latched, nofun, fun _ located => ?_⟩
  · change s.motion.haltPending.isSome = true at waits
    rw [pending] at waits
    cases waits
  · change s.motion.locate.isSome = true at located
    rw [unlocated] at located
    cases located

theorem execSizeReels_moves (h : s.MovesOk) (r : Request) : LeadsToMoves (execSizeReels r s) := by
  refine request_moves h fun u hu => checked_moves hu fun passed => settle_moves ?_
  have may : u.maySize = true := of_check (passed (check u.maySize .wrongState) (by simp))
  have restarted : u.restartReels.MovesOk := moves_of_sameBut hu restartReels_sameBut (by decide)
  rw [State.maySize, Bool.or_eq_true, Bool.and_eq_true, decide_eq_true_eq, decide_eq_true_eq, List.isEmpty_iff] at may
  rcases may with state | ⟨state, queue⟩
  · exact enterSizing_moves restarted (.inl state) (hu.idle (by rw [state]; rfl)).1 _
  · exact enterSizing_moves restarted (.inr (.inl state)) queue _

theorem execEnterStandby_moves (h : s.MovesOk) (r : Request) : LeadsToMoves (execEnterStandby r s) := by
  refine request_moves h fun u hu => checked_moves hu fun passed => settle_moves ?_
  have may : u.mayPark = true := of_check (passed (check u.mayPark .wrongState) (by simp))
  have parked (state : u.motion.state = .unthreaded ∨ u.motion.state = .stopped) (queue : u.motion.queue = []) :
      (u.enter .standby).MovesOk := by
    refine enter_moves (hu.mayPark queue ?_ (.inr (.inr (.inl rfl))) (by rintro (e | e) <;> cases e) nofun)
    by_contra latched
    rcases hu.latched latched with e | e | e <;> rw [e] at state <;> rcases state with k | k <;> cases k
  simp only [State.mayPark, Bool.or_eq_true, Bool.and_eq_true, decide_eq_true_eq, List.isEmpty_iff] at may
  rcases may with state | ⟨⟨state, queue⟩, -⟩
  · exact parked (.inl state) (hu.idle (by rw [state]; rfl)).1
  · exact parked (.inr state) queue

theorem execWake_moves (h : s.MovesOk) (r : Request) : LeadsToMoves (execWake r s) := by
  refine request_moves h fun u hu => checked_moves hu fun passed => settle_moves ?_
  have state : u.motion.state = .standby :=
    of_decide_eq_true (of_check (passed (check (decide (u.motion.state = .standby)) .wrongState) (by simp)))
  exact enterSizing_moves hu (.inr (.inr state)) (hu.idle (by rw [state]; rfl)).1 _

/-- A Clear Fault that leaves a kind keeps FAULT; one that leaves none enters UNTHREADED (R176). -/
theorem clearFault_moves (h : s.MovesOk) (hs : s.motion.state = .fault) : s.clearFault.state.MovesOk := by
  have restarted := moves_ite (p := .tapeBreak ∈ s.faults.set ∨ .radiusLost ∈ s.faults.set)
    (fun _ => moves_of_sameBut h restartReels_sameBut (by decide)) fun _ => h
  have same : s.clearKinds.motion = s.motion ∧ s.clearKinds.chase = s.chase := by
    unfold State.clearKinds
    dsimp only
    split <;> exact ⟨rfl, rfl⟩
  obtain ⟨motion, chase⟩ := same
  obtain ⟨queue, active⟩ := h.idle (by rw [hs]; rfl)
  unfold State.clearFault
  split
  · rename_i none
    refine settle_moves (enter_moves ⟨?_, ?_, nofun, fun filled => absurd ?_ filled, fun _ => .inl rfl,
      fun latched => absurd none latched, (by rintro (e | e) <;> cases e), nofun⟩)
    · dsimp only; rw [motion]; exact h.active
    · dsimp only; rw [motion, chase]; exact h.seek
    · dsimp only; rw [motion]; exact queue
  · rename_i k l some
    have remains : s.clearKinds.faults.set ≠ [] := by
      change s.remaining ≠ []
      rw [some]
      exact List.cons_ne_nil k l
    exact { restarted with
      latched := fun _ => .inr (.inr (by rw [motion]; exact hs))
      stopped := fun _ => remains }

theorem execClearFault_moves (h : s.MovesOk) (r : Request) : LeadsToMoves (execClearFault r s) := by
  refine request_moves h fun u hu => checked_moves hu fun passed => clearFault_moves hu ?_
  exact of_decide_eq_true (of_check (passed (check (decide (u.motion.state = .fault)) .wrongState) (by simp)))

theorem withOwner_moves (h : s.MovesOk) (p : Owner) : (s.withOwner p).MovesOk :=
  moves_of_sameBut h (withOwner_sameBut p) (by decide)

theorem claim_moves (h : s.MovesOk) (l : Link) : (s.claim l).MovesOk := by
  unfold State.claim
  split
  · exact withOwner_moves h _
  · exact withOwner_moves h _
  · exact settle_moves (moves_of_sameBut (stopped_moves (withOwner_moves h _) _) (reportTo_sameBut ..) (by decide))
  · exact h
  · exact h

theorem execClaimTransport_moves (h : s.MovesOk) (r : Request) : LeadsToMoves (execClaimTransport r s) :=
  request_moves h fun _ hu => checked_moves hu fun _ => claim_moves hu _

theorem execResetPart_moves (h : s.MovesOk) (r : Request) : LeadsToMoves (execResetPart r s) := by
  refine request_moves h fun u hu => checked_moves hu fun _ => ?_
  unfold State.resetPart
  split
  · exact hu
  · exact settle_moves (stopped_moves (by exact { hu with }) _)

/-! ### Every command -/

theorem exec_moves (h : s.MovesOk) (c : Instr) : LeadsToMoves (exec c s) := by
  have quiet : ∀ {c w}, writable c = some w → (∀ g ∈ movesGroups, g ∉ w) → LeadsToMoves (exec c s) :=
    fun e m => moves_of_writes h (exec_writes e) m
  cases c with
  | powerOn | resetLine => exact movesLead_next (afterReset_moves ..)
  | settlePeriodEnd => exact execSettlePeriodEnd_moves h
  | profileLoadDone => exact execProfileLoadDone_moves h
  | rollerCount d => exact execRollerCount_moves h d
  | reelCount r d => exact execReelCount_moves h r d
  | restTimerExpiry => exact execRestTimerExpiry_moves h
  | conversionComplete raw => exact execConversionComplete_moves h raw
  | driveFaultInput m b => exact execDriveFaultInput_moves h m b
  | supplyWarningInput b => exact execSupplyWarningInput_moves h b
  | reelServoUpdate => exact execReelServoUpdate_moves h
  | rollerSlipTimeout => exact execRollerSlipTimeout_moves h
  | referenceUpdate => exact execReferenceUpdate_moves h
  | pinchEngagedSense b => exact movesLead_settled { h with }
  | pinchTimeout => exact execPinchTimeout_moves h
  | durationExpiry => exact execDurationExpiry_moves h
  | threadCheckTimeout => exact execThreadCheckTimeout_moves h
  | measureTimeout => exact execMeasureTimeout_moves h
  | brakingTimeout => exact execBrakingTimeout_moves h
  | supervisionExpiry => exact execSupervisionExpiry_moves h
  | referenceWord w rev => exact execReferenceWord_moves h w rev
  | lossTimerExpiry => exact execLossTimerExpiry_moves h
  | freewheelExpiry => exact execFreewheelExpiry_moves h
  | cueBit b => exact execCueBit_moves h b
  | transmitDone l => exact execTransmitDone_moves h l
  | deferredReset => exact execDeferredReset_moves h
  | claimTransport r => exact execClaimTransport_moves h r
  | submitMove r => exact execSubmitMove_moves h r
  | flushMoves r => exact execFlushMoves_moves h r
  | stop r => exact execStop_moves h r
  | sizeReels r => exact execSizeReels_moves h r
  | enterStandby r => exact execEnterStandby_moves h r
  | wake r => exact execWake_moves h r
  | clearFault r => exact execClearFault_moves h r
  | resetPart r => exact execResetPart_moves h r
  | resetInputRelease | capstanCount | windowTimeout | tapeTimecodeWord | capstanUpdate | captureSampleEvent
  | positionReportPeriod | frameReceived | byteReceived | frameGapTimeout | profileWriteDone | unknownKind | readStatus
  | readPosition | readReelModel | readMoves | readLocateTable | readZones | readCapture | readProfile | readEvents
  | releaseTransport | setZone | clearZone | setLocateEntry | clearLocateEntry | setAnchor | setSchedule | setEventMask
  | acknowledgeEvents | setReportRate | watchPosition | cancelWatch | armCapture | triggerCapture | abortCapture
  | releaseCapture | setCueCodes | setAutoCue | writeCue | cancelCueWrite | writeProfile => exact quiet rfl (by decide)

/-- Settles O9: the clock's tick touches no move, and a command runs on the state with the queue's rest, which has the
same moves. -/
theorem stepKeepsMoves : Obligations.StepKeepsMoves := by
  intro s t h e
  unfold step at e
  split at e
  · exact exec_moves (moves_of_sameBut h (withPending_sameBut _) (by simp)) _ t e
  · cases e
    exact moves_of_sameBut h tick_sameBut (by simp)

end Sys2Proof.Machine
end

section
/-! The completion records that leave the queue together, and the class A faults that the input lines latch (O37). -/

namespace Sys2Proof.Machine
variable {s t u : State} {a : ActiveMove} {r : MoveRecord} {rest : List MoveRecord} {res : MoveResult} {k : FaultKind}

/-! ### Records that leave unactivated (R80, R81, R83) -/

/-- The record of a move that leaves the queue without having activated. -/
def State.droppedFor (s : State) (x : MoveRecord) : Completion :=
  ⟨x.id, .aborted, s.position.pos, s.timeAt s.position.pos, 0, false, 0, false⟩

/-- Its end position and time follow the position and the working copy. -/
theorem droppedFor_of_backdrop (h : t.backdrop = s.backdrop) : t.droppedFor = s.droppedFor := by
  have position : t.position = s.position := field_of_backdrop h (·.position) fun _ => rfl
  have profile : t.profile = s.profile := field_of_backdrop h (·.profile) fun _ => rfl
  funext x
  simp only [State.droppedFor, State.timeAt, State.frameAt, position, profile]

theorem dropRecord_motion (room : s.motion.completions.length < 16) (x : MoveRecord) :
    (s.dropRecord x).motion = { s.motion with completions := s.motion.completions ++ [s.droppedFor x] } := by
  unfold State.dropRecord State.pushCompletion
  rw [State.freeComp_motion]
  simp only [room, if_true]
  rfl

/-- With room in the completion list every record that leaves stands in it, oldest first. -/
theorem dropRecords_motion (l : List MoveRecord) : ∀ {s : State}, s.motion.completions.length + l.length ≤ 16 →
    (l.foldl State.dropRecord s).motion = { s.motion with
      completions := s.motion.completions ++ l.map s.droppedFor } := by
  induction l with
  | nil => exact fun _ => by simp
  | cons x l ih =>
    intro s room
    rw [List.length_cons] at room
    have dropped := dropRecord_motion (s := s) (by omega) x
    have same : (s.dropRecord x).droppedFor = s.droppedFor := droppedFor_of_backdrop (dropRecord_backdrop x)
    rw [List.foldl_cons, ih (by rw [dropped]; simp; omega), same, dropped]
    simp

theorem discardQueue_motion (room : s.motion.completions.length + s.motion.queue.length ≤ 16) : s.discardQueue.motion =
    { s.motion with queue := [], completions := s.motion.completions ++ s.motion.queue.map s.droppedFor } := by
  dsimp only [State.discardQueue]
  rw [dropRecords_motion _ room]

/-- The end of the active move with a result that discards the records behind it, at the sequencer (R80, R81). -/
theorem endActive_motion_of_discards (discards : res.discards = true) (ha : s.motion.active = some a)
    (hq : s.motion.queue = r :: rest) (room : s.motion.completions.length + rest.length < 16) :
    (s.endActive res).motion = { s.motion with
      queue := [], active := none, locate := none
      completions := s.motion.completions ++ s.recordFor r a res rest.length :: rest.map s.droppedFor } := by
  have chase : (if a.kind = .chase then s.endChase else s).motion = s.motion ∧
      (if a.kind = .chase then s.endChase else s).backdrop = s.backdrop := by
    split
    · exact ⟨setChase_motion _, endChase_backdrop⟩
    · exact ⟨rfl, rfl⟩
  unfold State.endActive
  rw [ha, hq]
  simp only [discards, if_true]
  generalize (if a.kind = .chase then s.endChase else s) = v at chase ⊢
  obtain ⟨motion, back⟩ := chase
  have freed := (State.freeComp_motion v r.comp).trans motion
  have dropped : ((v.freeComp r.comp).pushCompletion (s.recordFor r a res rest.length)).droppedFor = s.droppedFor :=
    droppedFor_of_backdrop (by rw [pushCompletion_backdrop, freeComp_backdrop, back])
  have pushed : ((v.freeComp r.comp).pushCompletion (s.recordFor r a res rest.length)).motion = { s.motion with
      completions := s.motion.completions ++ [s.recordFor r a res rest.length] } := by
    have fits : s.motion.completions.length < 16 := by omega
    simp only [State.pushCompletion, freed, fits, if_true]
  have record : (⟨r.id, res, s.position.pos, s.timeAt s.position.pos, s.elapsedSince a.start, a.derated, rest.length, false⟩ :
      Completion) = s.recordFor r a res rest.length := rfl
  rw [record]
  generalize (v.freeComp r.comp).pushCompletion (s.recordFor r a res rest.length) = p at dropped pushed
  have ended := discardQueue_motion (s := { p with
    motion := { p.motion with queue := rest, active := none, locate := none }
    zones := { p.zones with descent := false } }) (by simp [pushed]; omega)
  refine ended.trans ?_
  change { p.motion with
    queue := [], active := none, locate := none, completions := p.motion.completions ++ rest.map p.droppedFor } = _
  rw [dropped, pushed]
  simp

theorem recordFor_of_backdrop (h : t.backdrop = s.backdrop) : t.recordFor = s.recordFor := by
  have position : t.position = s.position := field_of_backdrop h (·.position) fun _ => rfl
  have profile : t.profile = s.profile := field_of_backdrop h (·.profile) fun _ => rfl
  have now : t.now = s.now := field_of_backdrop h (·.now) fun _ => rfl
  funext x y z n
  simp only [State.recordFor, State.timeAt, State.frameAt, position, profile, now]

/-! ### Class A faults (R173 to R175) -/

/-- BRAKING at the end of a step: kept with the tape moving, left for FAULT at rest (R175). -/
theorem settle_of_braking_state (h : s.motion.state = .braking) :
    s.settle = (if s.position.atRest = true then s.enter .fault else s).syncLoop := by
  split
  · exact settle_of_braking h ‹_›
  · rename_i moving
    exact settle_of_none (react_none_of_braking h (by simpa using moving))

/-- What BRAKING, entered from a state and settled, comes to. -/
structure State.BrakedFrom (t s : State) : Prop where
  braked      : t.Braked
  state       : t.motion.state = if s.position.atRest = true then .fault else .braking
  brakes      : t.motion.brakeRelease = false
  pinch       : t.motion.pinchCmd = false
  queue       : t.motion.queue = s.motion.queue
  active      : t.motion.active = s.motion.active
  completions : t.motion.completions = s.motion.completions
  faults      : Group.faults.Same s t
  ports       : s.motion.state ≠ .playing → ∀ l, t.port l = s.port l

theorem settle_enter_braking (s : State) : (s.enter .braking).settle.BrakedFrom s := by
  have entered : (s.enter .braking).motion.state = .braking := by rw [enter_motion]
  have position : (s.enter .braking).position = s.position := field_of_backdrop (enter_backdrop _) (·.position) fun _ => rfl
  have braked : (if s.position.atRest = true then (s.enter .braking).enter .fault else s.enter .braking).syncLoop.Braked := by
    split
    · exact enter_syncLoop_braked rfl
    · exact enter_syncLoop_braked rfl
  have latched : Group.faults.Same s (s.enter .braking) := enter_latched (by decide)
  have faults : Group.faults.Same s
      (if s.position.atRest = true then (s.enter .braking).enter .fault else s.enter .braking).syncLoop := by
    rw [Group.Same, syncLoop_faults]
    split
    · exact Group.same_trans (g := .faults) latched (enter_latched (by decide))
    · exact latched
  have ports (driven : s.motion.state ≠ .playing) (l : Link) :
      (if s.position.atRest = true then (s.enter .braking).enter .fault else s.enter .braking).syncLoop.port l = s.port l := by
    rw [syncLoop_port]
    have first := (enter_keeps (x := .braking) driven (by decide)).2 l
    split
    · exact ((enter_keeps (x := .fault) (by rw [entered]; decide) (by decide)).2 l).trans first
    · exact first
  rw [settle_of_braking_state entered, position]
  refine ⟨braked, ?_, ?_, ?_, ?_, ?_, ?_, faults, ports⟩
  all_goals
    rw [syncLoop_motion]
    split <;> simp [enter_motion, Transport.braked]

theorem latchFault_classA (hk : k.class = .a) (fresh : k ∉ s.faults.set) (moves : s.motion.state ≠ .braking)
    (free : s.motion.state ≠ .fault) : s.latchFault k = (s.faulted k).faultEnded.enter .braking := by
  have state : (s.faulted k).motion.state = s.motion.state := by rw [faulted_motion]
  rw [latchFault_fresh fresh, hk, faultRequest_a (state.trans_ne moves) (state.trans_ne free)]

theorem faulted_backdrop (k : FaultKind) : (s.faulted k).backdrop = s.backdrop := by
  have triggered (v : State) : v.faultTrigger.backdrop = v.backdrop := by
    unfold State.faultTrigger
    split
    · exact captureTrigger_backdrop
    · rfl
  exact (triggered _).trans (report_backdrop ..)

theorem freeComp_port (i : Option Nat) (l : Link) : (s.freeComp i).port l = s.port l := by
  cases i <;> cases l <;> rfl

/-- The FAULT event in the notice link's table; the other link's table has nothing of it (R173). -/
theorem faulted_reported (k : FaultKind) :
    (s.faulted k).port s.noticeLink = (s.port s.noticeLink).offer .fault k.ctorIdx s.position.pos := by
  have triggered (v : State) (l : Link) : v.faultTrigger.port l = v.port l := by
    unfold State.faultTrigger State.captureTrigger
    split
    · split
      · exact (freeComp_port ..).trans (by cases l <;> rfl)
      · rfl
    · rfl
  unfold State.faulted
  rw [triggered]
  exact report_reported (s := { s with faults := _ }) .fault k.num

theorem faultEnded_backdrop : s.faultEnded.backdrop = s.backdrop := by
  unfold State.faultEnded
  split
  · exact (sizingDone_backdrop _).trans (endAll_backdrop _)
  · exact endAll_backdrop _

/-- The records of the moves that a fault ends (R81, R174). -/
theorem faultEnded_completions (ha : s.motion.active = some a) (hq : s.motion.queue = r :: rest)
    (room : s.motion.completions.length + rest.length < 16) : (s.faulted k).faultEnded.motion.completions =
      s.motion.completions ++ s.recordFor r a .faulted rest.length :: rest.map s.droppedFor := by
  have motion := faulted_motion (s := s) k
  have active : (s.faulted k).motion.active = some a := by rw [motion, ha]
  have ended : (s.faulted k).endAll .faulted = (s.faulted k).endActive .faulted := by rw [State.endAll, active]
  rw [faultEnded_motion, ended, endActive_motion_of_discards rfl active (by rw [motion, hq]) (by rw [motion]; exact room), motion,
    recordFor_of_backdrop (faulted_backdrop k), droppedFor_of_backdrop (faulted_backdrop k)]

/-- In SIZING, its queue empty, a fault also reports SIZING_DONE FAULTED (R106, R174). -/
theorem faultEnded_reported (sizing : s.motion.state = .sizing) (hq : s.motion.queue = []) (ha : s.motion.active = none) :
    (s.faulted k).faultEnded.port s.noticeLink =
      ((s.port s.noticeLink).offer .fault k.ctorIdx s.position.pos).offer .sizingDone 3 s.position.pos := by
  have motion := faulted_motion (s := s) k
  have back := faulted_backdrop (s := s) k
  have position : (s.faulted k).position = s.position := field_of_backdrop back (·.position) fun _ => rfl
  have notice : (s.faulted k).noticeLink = s.noticeLink := by
    rw [State.noticeLink, State.noticeLink, field_of_backdrop back (·.ctl) fun _ => rfl]
  have ended : (s.faulted k).endAll .faulted = (s.faulted k).discardQueue := by rw [State.endAll, motion, ha]
  have ports (l : Link) : (s.faulted k).discardQueue.port l = (s.faulted k).port l := by
    unfold State.discardQueue
    rw [motion, hq]
    cases l <;> rfl
  have reported := sizingDone_reported (s := s.faulted k) (t := (s.faulted k).discardQueue) (v := 3) discardQueue_backdrop ports
  rw [State.Reported, notice, position, faulted_reported] at reported
  unfold State.faultEnded
  rw [motion, sizing, if_pos rfl, ended]
  exact reported

/-! ### The input lines (R168 to R170) -/

/-- The commands of the input lines, with the level before, the kind each latches and the lines after it. -/
def inputLines (s : State) (b : Bool) : List (Instr × Bool × FaultKind × Pins) := [
  (.driveFaultInput .left b, s.pins.faultL, .driveL, { s.pins with faultL := b }),
  (.driveFaultInput .right b, s.pins.faultR, .driveR, { s.pins with faultR := b }),
  (.driveFaultInput .capstan b, s.pins.faultC, .driveC, { s.pins with faultC := b }),
  (.supplyWarningInput b, s.pins.supplyWarning, .supplyLow, { s.pins with supplyWarning := b })]

/-- A line that becomes asserted while the lines are judged latches its kind; else only the level follows it. -/
theorem inputLine_eq {c : Instr} {b was : Bool} {pins : Pins} (h : (c, was, k, pins) ∈ inputLines s b) :
    k.class = .a ∧ exec c s = if b && !was && s.judging then
      .next (State.latchFault { s with pins := pins } k).settle.handOver else .next { s with pins := pins } := by
  simp only [inputLines, List.mem_cons, Prod.mk.injEq, List.not_mem_nil, or_false] at h
  rcases h with ⟨rfl, rfl, rfl, rfl⟩ | ⟨rfl, rfl, rfl, rfl⟩ | ⟨rfl, rfl, rfl, rfl⟩ | ⟨rfl, rfl, rfl, rfl⟩ <;> exact ⟨rfl, rfl⟩

theorem judging_of_run (h : s.startup.phase = .load ∨ s.startup.phase = .running) : s.judging = true := by
  unfold State.judging
  rcases h with h | h <;> rw [h]

theorem judging_of_settle (h : s.startup.phase = .held ∨ s.startup.phase = .settle) : s.judging = false := by
  unfold State.judging
  rcases h with h | h <;> rw [h]

/-- Settles O37: the four lines by `inputLine_eq`, a fresh class A kind by `latchFault_classA` and `settle_enter_braking`. -/
theorem classAInputs : Obligations.ClassAInputs := by
  intro s u c b was k pins mem hu
  subst hu
  obtain ⟨hk, e⟩ := inputLine_eq (s := s) mem
  rw [e]
  refine ⟨fun quiet => if_neg ?_, fun asserted before run => ?_⟩
  · rcases quiet with rfl | rfl | phase
    · simp
    · simp
    · simp [judging_of_settle phase]
  rw [if_pos (by simp [asserted, before, judging_of_run run])]
  refine ⟨fun latched settled => ?_, fun fresh moves free ok => ?_⟩
  · have kept : State.latchFault { s with pins := pins } k = { s with pins := pins } := if_pos latched
    rw [kept, settle_of_settled settled]
  rw [latchFault_classA (s := { s with pins := pins }) hk fresh moves free]
  have back := (settle_backdrop (s := ((State.faulted { s with pins := pins } k).faultEnded.enter .braking))).trans
    ((enter_backdrop _).trans (faultEnded_backdrop.trans (faulted_backdrop (s := { s with pins := pins }) k)))
  have position : ((State.faulted { s with pins := pins } k).faultEnded).position = s.position :=
    field_of_backdrop (faultEnded_backdrop.trans (faulted_backdrop (s := { s with pins := pins }) k)) (·.position) fun _ => rfl
  obtain ⟨queue, active⟩ := faulted_emptied (s := { s with pins := pins }) k ok.queued
  have t := settle_enter_braking (State.faulted { s with pins := pins } k).faultEnded
  obtain ⟨set, primary⟩ := t.faults
  rw [faultEnded_faults, faulted_faults] at set primary
  refine ⟨_, rfl, field_of_backdrop back (·.pins) fun _ => rfl, field_of_backdrop back (·.position) fun _ => rfl,
    fun x => by rw [set]; exact mem_faultJoin, primary, t.queue.trans queue, t.active.trans active, t.braked, t.brakes, t.pinch,
    by rw [t.state, position], fun m r ha => ⟨fun hq room => ?_, fun x hq room => ?_⟩, fun sizing => ?_⟩
  · rw [t.completions, faultEnded_completions (s := { s with pins := pins }) ha hq (by simpa using room)]
    rfl
  · rw [t.completions, faultEnded_completions (s := { s with pins := pins }) ha hq (by simp; omega)]
    rfl
  · have state : (State.faulted { s with pins := pins } k).faultEnded.motion.state ≠ .playing := by
      rw [faultEnded_state, faulted_motion]
      exact sizing.trans_ne (by decide)
    obtain ⟨noQueue, idle⟩ := ok.idle (by rw [sizing]; rfl)
    rw [t.ports state]
    exact faultEnded_reported (s := { s with pins := pins }) sizing noQueue idle

end Sys2Proof.Machine
end

section
/-! The class B faults that the timers of the slip, the pinch and MEASURE latch (O38). -/

namespace Sys2Proof.Machine
variable {s t u : State} {a : ActiveMove} {r : MoveRecord} {res : MoveResult} {k : FaultKind} {x : Transport}

/-! ### Halts (R96, R104, R174) -/

/-- The sequencer after the entry into HALTING with no record left. -/
theorem enterHalting_motion (b : Bool) (d : HaltDest) (hq : s.motion.queue = []) : (s.enterHalting b d).motion = { s.motion with
    state := .halting, haltPending := none, halt := some ⟨b, d, !b⟩, locate := none, sizing := none, pinchTimer := none
    brakingTimer := none, brakeRelease := true, pinchCmd := b, accel := s.profile.aStop } := by
  rw [enterHalting_eq b d hq, enter_motion, ← hq]
  rfl

/-- The end of all moves touches the queue, the active move with its locate, and the completion list. -/
theorem endAll_motion (res : MoveResult) (queued : ∀ m, s.motion.active = some m → s.motion.queue ≠ []) :
    (s.endAll res).motion = { s.motion with
      queue := (s.endAll res).motion.queue, active := (s.endAll res).motion.active
      locate := (s.endAll res).motion.locate, completions := (s.endAll res).motion.completions } := by
  unfold State.endAll
  split
  · rename_i m ha
    cases hq : s.motion.queue with
    | nil => exact absurd hq (queued m ha)
    | cons r rest => rw [(endActive_leaves res ha hq).1]
  · rw [discardQueue_leaves.1]

theorem latchFault_classB (hk : k.class = .b) (driven : s.motion.state.braked = false) (outside : s.motion.state ≠ .halting)
    (fresh : k ∉ s.faults.set) :
    s.latchFault k = (s.faulted k).faultEnded.enterHalting (decide (s.motion.state = .playing)) .stopped := by
  have state : (s.faulted k).motion.state = s.motion.state := by rw [faulted_motion]
  rw [latchFault_fresh fresh, hk, faultRequest_b (by rw [state]; exact driven) (state.trans_ne outside), state]

/-- In HALTING with both arms NORMAL and the tape moving, no pinch timed, nothing is due. -/
theorem react_none_of_halt (h : s.motion.state = .halting) (hl : s.armL.state = .normal) (hr : s.armR.state = .normal)
    (moving : s.position.atRest = false) (pinch : s.motion.pinchTimer = none) : s.react = none :=
  (react_of_halting_moving h (reactTension_none hl hr) moving).trans (reactPinch_none pinch)

/-- A halt that begins with the tape moving, both arms NORMAL and no record left goes on at the end of its step. -/
theorem settle_enterHalting (b : Bool) (d : HaltDest) (hq : s.motion.queue = []) (hl : s.armL.state = .normal)
    (hr : s.armR.state = .normal) (moving : s.position.atRest = false) :
    (s.enterHalting b d).settle = (s.enterHalting b d).syncLoop := by
  have back := enterHalting_backdrop (s := s) b d
  have motion := enterHalting_motion b d hq
  exact settle_of_none (react_none_of_halt (by rw [motion])
    ((congrArg Arm.state (field_of_backdrop back (·.armL) fun _ => rfl)).trans hl)
    ((congrArg Arm.state (field_of_backdrop back (·.armR) fun _ => rfl)).trans hr)
    (by rw [atRest_of_backdrop back, moving]) (by rw [motion]))

/-- What a class B fault, the first to be latched, and the end of its step come to in a driven state outside HALTING, with both arms
NORMAL and the tape moving. -/
structure State.FaultHalts (t s : State) (k : FaultKind) : Prop where
  back        : t.backdrop = s.backdrop
  set         : t.faults.set = [k]
  primary     : t.faults.primary = some ⟨k, s.position.pos, s.motion.state⟩
  slip        : s.faults.slip = none → t.faults.slip = none
  state       : t.motion.state = .halting
  halt        : t.motion.halt = some ⟨decide (s.motion.state = .playing), .stopped, !decide (s.motion.state = .playing)⟩
  pinch       : t.motion.pinchCmd = decide (s.motion.state = .playing)
  timer       : t.motion.pinchTimer = none
  pending     : t.motion.haltPending = none
  sizing      : t.motion.sizing = none
  queue       : t.motion.queue = []
  active      : t.motion.active = none
  accel       : t.motion.accel = s.profile.aStop
  vRef        : t.motion.vRef = s.motion.vRef
  completions : ∀ m r, s.motion.active = some m → s.motion.queue = [r] → s.motion.completions.length < 16 →
    t.motion.completions = s.motion.completions ++ [s.recordFor r m .faulted 0]
  ports       : s.motion.state ≠ .playing → ∀ l, t.port l = (s.faulted k).faultEnded.port l

/-- An entry into a state starts no slip timer (R172). -/
theorem enter_slip (h : s.faults.slip = none) (other : x ≠ .playing) : (s.enter x).faults.slip = none := by
  have left : s.leavePlaying.faults.slip = none := by
    unfold State.leavePlaying
    dsimp only
    split
    · rw [endCueWrite_faults]
    · rfl
  have stopped : (if s.motion.state = .playing ∧ x ≠ .playing then s.leavePlaying else s).faults.slip = none := by
    split
    · exact left
    · exact h
  unfold State.enter
  dsimp only
  rw [if_neg other]
  split <;> exact stopped

theorem enterHalting_slip (h : s.faults.slip = none) (b : Bool) (d : HaltDest) : (s.enterHalting b d).faults.slip = none :=
  (congrArg Faults.slip (discardQueue_faults (s := s.enter .halting))).trans (enter_slip h (by decide))

theorem settle_latchFault_halts (hk : k.class = .b) (driven : s.motion.state.braked = false) (outside : s.motion.state ≠ .halting)
    (calm : s.Calm) (moving : s.position.atRest = false) (queued : ∀ m, s.motion.active = some m → s.motion.queue ≠ []) :
    (s.latchFault k).settle.FaultHalts s k := by
  obtain ⟨hl, hr, clear⟩ := calm
  obtain ⟨queue, active⟩ := faulted_emptied k queued
  obtain ⟨set, primary⟩ := faulted_alone k clear
  have back := latchFault_backdrop (s := s) k
  have e := latchFault_classB hk driven outside (by simp [clear])
  have ended : (s.faulted k).faultEnded.motion = _ := faultEnded_motion.trans
    (endAll_motion .faulted (by rw [faulted_motion]; exact queued))
  have profile : (s.faulted k).faultEnded.profile = s.profile :=
    field_of_backdrop (faultEnded_backdrop.trans (faulted_backdrop k)) (·.profile) fun _ => rfl
  have motion := enterHalting_motion (decide (s.motion.state = .playing)) .stopped queue
  have latched := enterHalting_latched (s := (s.faulted k).faultEnded) (decide (s.motion.state = .playing)) .stopped
  have ports (other : s.motion.state ≠ .playing) := (enterHalting_keeps (s := (s.faulted k).faultEnded)
    (decide (s.motion.state = .playing)) .stopped queue (by rw [faultEnded_state, faulted_motion]; exact other)).2
  have slip (stops : s.faults.slip = none) :=
    enterHalting_slip (s := (s.faulted k).faultEnded) (by rw [faultEnded_faults, faulted_faults]; exact stops)
      (decide (s.motion.state = .playing)) .stopped
  have endedBack := faultEnded_backdrop.trans (faulted_backdrop (s := s) k)
  have halts := settle_enterHalting (decide (s.motion.state = .playing)) .stopped queue
    ((congrArg Arm.state (field_of_backdrop endedBack (·.armL) fun _ => rfl)).trans hl)
    ((congrArg Arm.state (field_of_backdrop endedBack (·.armR) fun _ => rfl)).trans hr)
    (by rw [atRest_of_backdrop endedBack, moving])
  rw [← e] at motion latched ports slip halts
  rw [halts]
  refine {
    back := syncLoop_backdrop.trans back
    set := by rw [syncLoop_faults]; exact latched.1.trans set
    primary := by rw [syncLoop_faults]; exact latched.2.trans primary
    slip := fun stops => by rw [syncLoop_faults]; exact slip stops
    state := by rw [syncLoop_motion, motion]
    halt := by rw [syncLoop_motion, motion]
    pinch := by rw [syncLoop_motion, motion]
    timer := by rw [syncLoop_motion, motion]
    pending := by rw [syncLoop_motion, motion]
    sizing := by rw [syncLoop_motion, motion]
    queue := by rw [syncLoop_motion, motion]; exact queue
    active := by rw [syncLoop_motion, motion]; exact active
    accel := by rw [syncLoop_motion, motion, ← profile]
    vRef := by rw [syncLoop_motion, motion, ended, faulted_motion]
    completions := fun m r ha hq room => ?_
    ports := fun other l => (syncLoop_port l).trans (ports other l) }
  rw [syncLoop_motion, motion]
  exact faultEnded_completions ha hq (by simpa using room)

/-! ### The timers -/

/-- Settles O38: each timer's kind by `settle_latchFault_halts`, on the state that its moment finds. -/
theorem classBTimeouts : Obligations.ClassBTimeouts := by
  intro s
  refine ⟨fun stopped => ?_, fun stopped => ?_, fun stopped => ?_, fun ok clear hl hr moving => ⟨fun x timed playing => ?_,
    fun x timed pinched => ?_, fun z hz measure => ?_⟩⟩
  · show execRollerSlipTimeout s = _
    rw [execRollerSlipTimeout, stopped]
  · show execPinchTimeout s = _
    rw [execPinchTimeout, stopped]
  · have idle : s.sizingIn .measure = none := by
      rw [State.sizingIn, Option.filter_eq_none_iff]
      exact fun z hz => by simpa using stopped z hz
    show execMeasureTimeout s = _
    rw [execMeasureTimeout, idle]
  · have e : exec .rollerSlipTimeout s = .next (State.latchFault { s.reach (x + Config.msec 500) with
        faults := { s.faults with slip := none } } .rollerSlip).settle.handOver := by
      show execRollerSlipTimeout s = _
      rw [execRollerSlipTimeout, timed]
      rfl
    have h := settle_latchFault_halts (s := { s.reach (x + Config.msec 500) with faults := { s.faults with slip := none } })
      (k := .rollerSlip) rfl (by change s.motion.state.braked = false; rw [playing]; rfl) (playing.trans_ne (by decide))
      ⟨hl, hr, clear⟩ moving ok.queued
    have now : _ = max s.now (x + Config.msec 500) := field_of_backdrop h.back (·.now) fun _ => rfl
    have played : decide (s.motion.state = .playing) = true := decide_eq_true playing
    refine ⟨_, e, now, h.slip rfl, h.set, h.primary.trans (by rw [← playing]; rfl), h.state, h.halt.trans ?_, h.pinch.trans played,
      h.queue, h.active, h.accel, h.vRef, fun m r ha hq room => (h.completions m r ha hq room).trans ?_⟩
    · change some (⟨decide (s.motion.state = .playing), .stopped, !decide (s.motion.state = .playing)⟩ : HaltCtx) = _
      rw [played]
      rfl
    · rw [now]
      rfl
  · have e : exec .pinchTimeout s = .next (State.latchFault { s.reach (x + Config.msec 150) with motion := { s.motion with
        pinchTimer := none
        halt := s.motion.halt.map (fun h => { h with pinchDone := true }) } } .pinchTimeout).settle.handOver := by
      show execPinchTimeout s = _
      rw [execPinchTimeout, timed]
      rfl
    have driven : s.motion.state.braked = false ∧ s.motion.state ≠ .halting ∧ s.motion.state ≠ .playing := by
      rcases pinched with h | h <;> rw [h] <;> decide
    obtain ⟨driven, outside, other⟩ := driven
    have h := settle_latchFault_halts (s := { s.reach (x + Config.msec 150) with motion := { s.motion with
      pinchTimer := none, halt := s.motion.halt.map (fun h => { h with pinchDone := true }) } })
      (k := .pinchTimeout) rfl driven outside ⟨hl, hr, clear⟩ moving ok.queued
    have now : _ = max s.now (x + Config.msec 150) := field_of_backdrop h.back (·.now) fun _ => rfl
    have played : decide (s.motion.state = .playing) = false := decide_eq_false other
    refine ⟨_, e, now, h.timer, h.set, h.state, h.halt.trans ?_, h.pinch.trans played, h.pending, h.queue,
      fun m r ha hq room => (h.completions m r ha hq room).trans ?_⟩
    · change some (⟨decide (s.motion.state = .playing), .stopped, !decide (s.motion.state = .playing)⟩ : HaltCtx) = _
      rw [played]
      rfl
    · rw [now]
      rfl
  · have sizing : s.motion.state = .sizing := ok.sizing (by rw [hz]; rfl)
    have measures : s.sizingIn .measure = some z := by
      rw [State.sizingIn, hz]
      simp [measure]
    have e : exec .measureTimeout s =
        .next ((s.reach (z.timer + Config.msec 10000)).latchFault .radiusLost).settle.handOver := by
      show execMeasureTimeout s = _
      rw [execMeasureTimeout, measures]
    have h := settle_latchFault_halts (s := s.reach (z.timer + Config.msec 10000)) (k := .radiusLost) rfl
      (by change s.motion.state.braked = false; rw [sizing]; rfl) (sizing.trans_ne (by decide)) ⟨hl, hr, clear⟩ moving ok.queued
    obtain ⟨queue, active⟩ := ok.idle (by rw [sizing]; rfl)
    exact ⟨_, e, field_of_backdrop h.back (·.now) fun _ => rfl, h.set, h.state, h.sizing,
      (h.ports (sizing.trans_ne (by decide)) _).trans
        (faultEnded_reported (s := s.reach (z.timer + Config.msec 10000)) sizing queue active)⟩

end Sys2Proof.Machine
end

section
/-! FLUSH_MOVES and STOP (O53): the records that leave, and the halt behind the active move. -/

namespace Sys2Proof.Machine
variable {s t u : State} {m : ActiveMove} {q x : MoveRecord} {rest : List MoveRecord} {res : MoveResult} {r : Request}

/-! ### The moves ended and the transport stopped (R82, R96, R105) -/

theorem endAll_of_active (res : MoveResult) (ha : s.motion.active = some m) : s.endAll res = s.endActive res := by
  rw [State.endAll, ha]

/-- With an empty queue and no move active there is nothing to end. -/
theorem endAll_of_empty (res : MoveResult) (ha : s.motion.active = none) (hq : s.motion.queue = []) : s.endAll res = s := by
  have emptied : ({ s.motion with queue := [] } : Motion) = s.motion := by rw [← hq]
  rw [State.endAll, ha]
  unfold State.discardQueue
  rw [hq]
  exact congrArg (fun p => ({ s with motion := p } : State)) emptied

theorem stopTransport_of_winding (h : s.motion.state = .winding) : s.stopTransport = s.enterHalting false .stopped := by
  rw [State.stopTransport, h]

theorem stopTransport_of_playing (h : s.motion.state = .playing) : s.stopTransport = s.enterHalting true .stopped := by
  rw [State.stopTransport, h]

theorem stopTransport_of_engaging (h : s.motion.state = .engaging) :
    s.stopTransport = { s with motion := { s.motion with haltPending := some .stopped } } := by
  rw [State.stopTransport, h]

theorem stopTransport_of_rest (h : s.motion.state = .stopped) (rest : s.position.atRest = true) : s.stopTransport = s := by
  rw [State.stopTransport, h]
  exact if_pos rest

/-- What a halt of the moves that end with it comes to, both arms NORMAL and the tape moving. -/
structure State.HaltsWith (t s : State) (playing : Bool) (records : List Completion) : Prop where
  state       : t.motion.state = .halting
  halt        : t.motion.halt = some ⟨playing, .stopped, !playing⟩
  pinch       : t.motion.pinchCmd = playing
  accel       : t.motion.accel = s.profile.aStop
  vRef        : t.motion.vRef = s.motion.vRef
  queue       : t.motion.queue = []
  active      : t.motion.active = none
  completions : t.motion.completions = s.motion.completions ++ records

/-- The end of the active move and of the records behind it, and the halt that follows. -/
theorem settle_ended_halts (b : Bool) (calm : s.Calm) (moving : s.position.atRest = false) {c : List Completion}
    (motion : t.motion = { s.motion with
      queue := [], active := none, locate := none, completions := s.motion.completions ++ c })
    (back : t.backdrop = s.backdrop) : (t.enterHalting b .stopped).settle.HaltsWith s b c := by
  obtain ⟨hl, hr, -⟩ := calm
  have queue : t.motion.queue = [] := by rw [motion]
  have halted := enterHalting_motion b .stopped queue
  have profile : t.profile = s.profile := field_of_backdrop back (·.profile) fun _ => rfl
  rw [settle_enterHalting b .stopped queue ((congrArg Arm.state (field_of_backdrop back (·.armL) fun _ => rfl)).trans hl)
    ((congrArg Arm.state (field_of_backdrop back (·.armR) fun _ => rfl)).trans hr) (by rw [atRest_of_backdrop back, moving])]
  constructor <;> rw [syncLoop_motion, halted]
  · rw [profile]
  all_goals rw [motion]

/-- An engagement under way with no move left goes on (R96). -/
theorem react_none_of_engaging (h : s.motion.state = .engaging) (hl : s.armL.state = .normal) (hr : s.armR.state = .normal)
    (sense : s.pins.pinchSense = false) (ha : s.motion.active = none) (hlo : s.motion.locate = none) : s.react = none := by
  have pinch : s.reactPinch = none := by
    unfold State.reactPinch
    split
    · rfl
    · rw [h, sense]
      rfl
  exact react_none (reactTension_none hl hr) (reactSizing_none (by simp [h])) pinch (reactHalting_none (by simp [h]))
    (reactBraking_none (.inl (by simp [h]))) (by rw [State.reactHold, ha]) (reactSettled_none hlo)
    (reactQueue_none (.inl (by simp [h])))

/-! ### The requests -/

theorem flushMoves_eq (h : s.Takes 0x13 r t) (g : t.Grants r.link) {flag : Byte} (hb : r.body = [flag])
    (bit : flag = 0 ∨ flag = 1) : exec (.flushMoves r) s = .next (Answer.replied
      (if flag = 1 then t.flushAll.settle.ok (enc1 t.motion.queue.length) else t.flushWaiting.ok (enc1 t.waiting.length))
      0x13 r).handOver := by
  have e : exec (.flushMoves r) s = .next (((t.checked [checkFields [flagField r.body 0]]
      (if bodyU8 r.body 0 = 1 then t.flushAll.settle.ok (enc1 t.motion.queue.length)
        else t.flushWaiting.ok (enc1 t.waiting.length))).replied 0x13 r).handOver) :=
    owned_request (n := 1) (checks := fun y => [checkFields [flagField r.body 0]])
      (act := fun y => if bodyU8 r.body 0 = 1 then y.flushAll.settle.ok (enc1 y.motion.queue.length)
        else y.flushWaiting.ok (enc1 y.waiting.length)) h g (by rw [hb]; rfl)
  rw [e, hb]
  rcases bit with rfl | rfl <;> rfl

theorem stop_eq (h : s.Takes 0x14 r t) (empty : r.body = []) :
    exec (.stop r) s = .next (((t.endAll .aborted).stopTransport.settle).answered 0x14 r .ok []) := by
  show s.request 0x14 r (fun y => y.checked [sized r 0] (((y.endAll .aborted).stopTransport).settle.ok [])) = _
  rw [request_of_takes h, sized_of (by rw [empty]; rfl)]
  rfl

/-- The waiting records leave and the active move goes on (R83). -/
theorem flushWaiting_of_two (ha : s.motion.active = some m) (hq : s.motion.queue = [q, x]) (none : x.comp = none)
    (room : s.motion.completions.length < 16) : s.flushWaiting = { s with motion := { s.motion with
      queue := [q], completions := s.motion.completions ++ [s.droppedFor x] } } := by
  have waiting : s.waiting = [x] := by rw [State.waiting, ha, hq]; rfl
  have dropped : s.dropRecord x = { s with motion := { s.motion with
      completions := s.motion.completions ++ [s.droppedFor x] } } := by
    unfold State.dropRecord State.pushCompletion
    rw [none]
    simp only [State.freeComp, room, if_true]
    rfl
  unfold State.flushWaiting
  rw [waiting, List.foldl_cons, List.foldl_nil, dropped]
  simp only [ha, hq]
  rfl

theorem flushWaiting_of_nothing (hw : s.waiting = []) (ha : s.motion.active = none → s.motion.queue = [])
    (hq : ∀ m, s.motion.active = some m → ∃ q, s.motion.queue = [q]) : s.flushWaiting = s := by
  have left : (match s.motion.active with | some _ => s.motion.queue.take 1 | none => []) = s.motion.queue := by
    cases active : s.motion.active with
    | none => exact (ha active).symm
    | some m =>
      obtain ⟨q, queue⟩ := hq m active
      rw [queue]
      rfl
  unfold State.flushWaiting
  rw [hw, List.foldl_nil]
  exact (congrArg (fun q => ({ s with motion := { s.motion with queue := q } } : State)) left).trans rfl

/-- Settles O53: the flush of what waits by `flushWaiting_of_two`, the flush of all and the Stop by `settle_ended_halts`. -/
theorem flushAndStop : Obligations.FlushAndStop := by
  intro s t r
  refine ⟨fun flag takes grants hb => ⟨?_, ?_, ?_, ?_⟩, fun takes hb => ⟨?_, ?_⟩⟩
  · rintro rfl m q ha hq
    have waiting : t.waiting = [] := by rw [State.waiting, ha, hq]; rfl
    rw [flushMoves_eq takes grants hb (.inl rfl), if_neg (by decide), waiting,
      flushWaiting_of_nothing waiting (by rw [ha]; nofun) fun _ _ => ⟨q, hq⟩]
    rfl
  · rintro rfl m q x u ha hq comp room rfl
    have waiting : t.waiting = [x] := by rw [State.waiting, ha, hq]; rfl
    rw [flushMoves_eq takes grants hb (.inl rfl), if_neg (by decide), waiting, flushWaiting_of_two ha hq comp room]
    rfl
  · intro ha hq settled bit
    have waiting : t.waiting = [] := by rw [State.waiting, ha]; exact hq
    rw [flushMoves_eq takes grants hb bit]
    split
    · have all : t.flushAll = t := by rw [State.flushAll, hq]
      rw [all, settle_of_settled settled, hq]
      rfl
    · rw [waiting, flushWaiting_of_nothing waiting (fun _ => hq) (by rw [ha]; nofun)]
      rfl
  · rintro rfl m q ha kind hq playing room moving calm
    have ended := endActive_motion_of_discards (res := .aborted) rfl ha hq (by simpa using room)
    have all : t.flushAll = (t.endActive .aborted).enterHalting true .stopped := by
      rw [State.flushAll, hq]
      dsimp only
      rw [endAll_of_active .aborted ha, stopTransport_of_playing ((endActive_state _).trans playing)]
    have h := settle_ended_halts true calm moving ended (endActive_backdrop _)
    rw [← all] at h
    rw [flushMoves_eq takes grants hb (.inr rfl), if_pos rfl, hq]
    exact ⟨_, rfl, h.state, h.halt, h.queue, h.active, h.completions⟩
  · intro state rest ha hq settled
    rw [stop_eq takes hb, endAll_of_empty .aborted ha hq, stopTransport_of_rest state rest, settle_of_settled settled]
  · intro m q x ha hq room moving calm
    have ended := endActive_motion_of_discards (res := .aborted) rfl ha hq (by simp; omega)
    have back := endActive_backdrop (s := t) .aborted
    rw [stop_eq takes hb, endAll_of_active .aborted ha]
    refine ⟨fun winding => ?_, fun engaging timed sense => ?_⟩
    · have h := settle_ended_halts false calm moving ended back
      rw [stopTransport_of_winding ((endActive_state _).trans winding)]
      exact ⟨_, rfl, h.state, h.halt, h.accel, h.vRef, h.queue, h.active, h.completions⟩
    · obtain ⟨hl, hr, -⟩ := calm
      rw [stopTransport_of_engaging ((endActive_state _).trans engaging)]
      have quiet : State.react { t.endActive .aborted with
          motion := { (t.endActive .aborted).motion with haltPending := some .stopped } } = none :=
        react_none_of_engaging ((endActive_state _).trans engaging)
          ((congrArg Arm.state (field_of_backdrop back (·.armL) fun _ => rfl)).trans hl)
          ((congrArg Arm.state (field_of_backdrop back (·.armR) fun _ => rfl)).trans hr)
          ((congrArg Pins.pinchSense (field_of_backdrop back (·.pins) fun _ => rfl)).trans sense) (by rw [ended]) (by rw [ended])
      refine ⟨_, rfl, ?_⟩
      rw [settle_of_none quiet, syncLoop_motion, ended]
      exact ⟨engaging, rfl, rfl, rfl, rfl⟩

end Sys2Proof.Machine
end

section
/-! The events of the sequencer and of the supervisor (O45): the pinch sense and the timers. -/

namespace Sys2Proof.Machine
variable {s t u : State} {a m : ActiveMove} {r : MoveRecord} {z : SizingCtx} {x : Transport}

/-- The state with the pinch sense read at a level. -/
def State.sensed (s : State) (b : Bool) : State := { s with pins := { s.pins with pinchSense := b } }

theorem pinchEngagedSense_eq (b : Bool) : exec (.pinchEngagedSense b) s = .next (s.sensed b).settle.handOver := rfl

/-! ### The engagement (R95, R96) -/

/-- The pinch transition timed in ENGAGING ends when the sense shows it engaged. -/
theorem react_engaged (h : s.motion.state = .engaging) (timed : s.motion.pinchTimer.isSome = true)
    (sense : s.pins.pinchSense = true) (hl : s.armL.state = .normal) (hr : s.armR.state = .normal) :
    s.react = some s.engaged := by
  obtain ⟨n, timer⟩ := Option.isSome_iff_exists.1 timed
  have pinch : s.reactPinch = some s.engaged := by
    unfold State.reactPinch
    rw [timer, h]
    exact if_pos sense
  rw [State.react, reactTension_none hl hr, reactSizing_none (by simp [h]), pinch]
  rfl

theorem engaged_of_play (pending : s.motion.haltPending = none) (ha : s.motion.active = some a) (hk : a.kind = .play) :
    s.engaged = s.enter .playing := by
  rw [State.engaged, pending, ha]
  simp only [hk]

theorem engaged_of_released
    (h : s.motion.active = none ∨ ∃ m, s.motion.haltPending = none ∧ s.motion.active = some m ∧ m.kind = .wind) :
    s.engaged = s.enter .releasing := by
  unfold State.engaged
  rcases h with ha | ⟨m, pending, ha, hk⟩
  · rw [ha]
    split
    · rename_i active
      cases active
    · rfl
  · rw [pending, ha]
    simp only [hk]

/-- In a moving state, no HOLD active, no locate in hand and no pinch transition over, nothing is due. -/
theorem react_none_of_moving (h : s.motion.state.moving = true) (hl : s.armL.state = .normal) (hr : s.armR.state = .normal)
    (pinch : s.reactPinch = none) (ha : ∀ a, s.motion.active = some a → a.kind ≠ .hold) (hlo : s.motion.locate = none) :
    s.react = none := by
  have other (x : Transport) (k : x.moving = false) : s.motion.state ≠ x := by
    rintro rfl
    rw [h] at k
    cases k
  exact react_none (reactTension_none hl hr) (reactSizing_none (other _ rfl)) pinch (reactHalting_none (other _ rfl))
    (reactBraking_none (.inl (other _ rfl))) (reactHold_none ha) (reactSettled_none hlo) (reactQueue_none (.inl (other _ rfl)))

/-- A moving state entered by a pinch transition that is over is where the step ends, unless the next transition is over too. -/
theorem settle_enter_moving (due : s.react = some (u.enter x)) (hx : x.moving = true) (back : u.backdrop = s.backdrop)
    (hl : s.armL.state = .normal) (hr : s.armR.state = .normal)
    (sense : x = .engaging ∨ x = .releasing → s.pins.pinchSense = true)
    (release : x ≠ .engaging) (ha : ∀ a, u.motion.active = some a → a.kind ≠ .hold) (hlo : u.motion.locate = none) :
    s.settle = (u.enter x).syncLoop := by
  have back := (enter_backdrop (s := u) x).trans back
  have pinch : (u.enter x).reactPinch = none := by
    have pins : (u.enter x).pins = s.pins := field_of_backdrop back (·.pins) fun _ => rfl
    unfold State.reactPinch
    rw [enter_motion]
    cases x with
    | releasing => simp [pins, sense]
    | engaging => exact absurd rfl release
    | winding | playing => rfl
    | unthreaded | sizing | stopped | halting | braking | fault | standby => cases hx
  refine settle_of_some due
    (react_none_of_moving (by rw [enter_motion]; exact hx) ?_ ?_ pinch (by rw [enter_motion]; exact ha) ?_)
  · exact (congrArg Arm.state (field_of_backdrop back (·.armL) fun _ => rfl)).trans hl
  · exact (congrArg Arm.state (field_of_backdrop back (·.armR) fun _ => rfl)).trans hr
  · rw [enter_motion]
    exact (congrArg (fun l => if x.keepsLocate then l else none) hlo).trans (ite_self none)

theorem syncLoop_running (h : s.loopRuns = true) : s.syncLoop.capstan.running = true := by
  rw [State.syncLoop, if_pos h]

theorem syncLoop_stopped (h : s.loopRuns = false) :
    s.syncLoop.capstan = { s.capstan with running := false, integral := 0, code := 0 } := by
  rw [State.syncLoop, h]
  rfl

/-- An engagement over under a PLAY (R95). -/
theorem settle_engaged_play (calm : s.Calm) (timed : s.motion.pinchTimer.isSome = true) (hlo : s.motion.locate = none)
    (h : s.motion.state = .engaging) (pending : s.motion.haltPending = none) (ha : s.motion.active = some m)
    (hk : m.kind = .play) :
    (s.sensed true).settle = ((s.sensed true).enter .playing).syncLoop := by
  obtain ⟨hl, hr, -⟩ := calm
  have due := react_engaged (s := s.sensed true) h timed rfl hl hr
  rw [engaged_of_play (s := s.sensed true) pending ha hk] at due
  refine settle_enter_moving due rfl rfl hl hr (fun _ => rfl) (by decide) (fun b hb => ?_) hlo
  cases ha.symm.trans hb
  simp [hk]

/-- An engagement over with nothing left to play (R96). -/
theorem settle_engaged_release (calm : s.Calm) (timed : s.motion.pinchTimer.isSome = true) (hlo : s.motion.locate = none)
    (h : s.motion.state = .engaging)
    (gone : s.motion.active = none ∨ ∃ m, s.motion.haltPending = none ∧ s.motion.active = some m ∧ m.kind = .wind) :
    (s.sensed true).settle = ((s.sensed true).enter .releasing).syncLoop := by
  obtain ⟨hl, hr, -⟩ := calm
  have due := react_engaged (s := s.sensed true) h timed rfl hl hr
  rw [engaged_of_released (s := s.sensed true) gone] at due
  refine settle_enter_moving due rfl rfl hl hr (fun _ => rfl) (by decide) (fun b hb => ?_) hlo
  rcases gone with none | ⟨m, -, ha, hk⟩
  · cases none.symm.trans hb
  · cases ha.symm.trans hb
    simp [hk]

/-! ### The release (R96, R100, R102) -/

/-- The pinch transition timed in RELEASING ends when the sense shows it released. -/
theorem react_released (h : s.motion.state = .releasing) (timed : s.motion.pinchTimer.isSome = true)
    (sense : s.pins.pinchSense = false) (hl : s.armL.state = .normal) (hr : s.armR.state = .normal) :
    s.react = some s.leaveReleasing := by
  obtain ⟨n, timer⟩ := Option.isSome_iff_exists.1 timed
  have pinch : s.reactPinch = some s.leaveReleasing := by
    unfold State.reactPinch
    rw [timer, h]
    dsimp only
    rw [sense]
    rfl
  rw [State.react, reactTension_none hl hr, reactSizing_none (by simp [h]), pinch]
  rfl

theorem leaveReleasing_of_wind (pending : s.motion.haltPending = none) (ha : s.motion.active = some a) (hk : a.kind = .wind) :
    s.leaveReleasing = s.released.enter .winding := by
  have pending : s.released.motion.haltPending = none := pending
  have ha : s.released.motion.active = some a := ha
  unfold State.leaveReleasing
  dsimp only
  rw [pending, ha]
  simp [hk]

theorem leaveReleasing_of_none (ha : s.motion.active = none) : s.leaveReleasing = if s.position.atRest then
    State.enter { s.released with motion := { s.released.motion with haltPending := none } } .stopped
    else s.released.enterHalting false .stopped := by
  have ha : s.released.motion.active = none := ha
  unfold State.leaveReleasing
  dsimp only
  rw [ha]
  split
  · rename_i active
    cases active
  · rfl

/-- The capstan loop after a pinch transition that leaves it idle (R102). -/
theorem syncLoop_idle (h : s.loopRuns = false) : s.syncLoop.capstan.running = false ∧ s.syncLoop.capstan.code = 0 ∧
    s.syncLoop.capstan.integral = 0 := by
  rw [syncLoop_stopped h]
  exact ⟨rfl, rfl, rfl⟩

theorem pinchSense_releases (calm : s.Calm) (timed : s.motion.pinchTimer.isSome = true) (hlo : s.motion.locate = none)
    (h : s.motion.state = .releasing) (pending : s.motion.haltPending = none) (ha : s.motion.active = some m)
    (hk : m.kind = .wind) :
    ∃ t : State, exec (.pinchEngagedSense false) s = .next t.handOver ∧ t.motion.state = .winding ∧ t.motion.pinchTimer = none ∧
      t.capstan.running = false ∧ t.capstan.code = 0 ∧ t.capstan.integral = 0 ∧ t.motion.vRef = s.motion.vRef := by
  obtain ⟨hl, hr, -⟩ := calm
  have due := react_released (s := s.sensed false) h timed rfl hl hr
  rw [leaveReleasing_of_wind (s := s.sensed false) pending ha hk] at due
  have settled := settle_enter_moving (s := s.sensed false) due rfl rfl hl hr (by simp) (by decide)
    (fun b hb => by cases ha.symm.trans hb; simp [hk]) hlo
  have idle : ((s.sensed false).released.enter .winding).loopRuns = false := by
    have active : (s.sensed false).released.motion.active = some m := ha
    rw [State.loopRuns, enter_motion]
    dsimp only
    rw [State.runUp, enter_motion]
    dsimp only
    rw [active]
    dsimp only
    rw [hk]
  obtain ⟨running, code, integral⟩ := syncLoop_idle idle
  rw [pinchEngagedSense_eq, settled]
  refine ⟨_, rfl, ?_, ?_, running, code, integral, ?_⟩
  · rw [syncLoop_motion, enter_motion]
  · rw [syncLoop_motion, enter_motion]
    rfl
  · rw [syncLoop_motion, enter_motion]
    rfl

theorem pinchSense_stops (calm : s.Calm) (timed : s.motion.pinchTimer.isSome = true) (h : s.motion.state = .releasing)
    (ha : s.motion.active = none) (hq : s.motion.queue = []) :
    ∃ t : State, exec (.pinchEngagedSense false) s = .next t.handOver ∧ t.motion.haltPending = none ∧ t.motion.pinchTimer = none ∧
      t.capstan.code = 0 ∧ t.capstan.integral = 0 ∧ t.motion.state = (if s.position.atRest = true then .stopped else .halting) ∧
      (s.position.atRest = false → t.motion.halt = some ⟨false, .stopped, true⟩ ∧ t.motion.accel = s.profile.aStop) := by
  obtain ⟨hl, hr, -⟩ := calm
  have left := leaveReleasing_of_none (s := s.sensed false) ha
  have due := react_released (s := s.sensed false) h timed rfl hl hr
  rw [left] at due
  split at due
  · rename_i rest
    have rest : s.position.atRest = true := rest
    generalize hv : ({ (s.sensed false).released with motion :=
      { (s.sensed false).released.motion with haltPending := none } } : State) = v at due
    have back := enter_backdrop (s := v) .stopped
    have settled := settle_of_some due (react_none_of_rest (.inl (by rw [enter_motion]))
      ((congrArg Arm.state (field_of_backdrop back (·.armL) fun _ => rfl)).trans (by rw [← hv]; exact hl))
      ((congrArg Arm.state (field_of_backdrop back (·.armR) fun _ => rfl)).trans (by rw [← hv]; exact hr))
      (by rw [enter_motion, ← hv]; exact hq))
    obtain ⟨-, code, integral⟩ := syncLoop_idle (s := v.enter .stopped) (by rw [State.loopRuns, enter_motion])
    rw [pinchEngagedSense_eq, settled]
    refine ⟨_, rfl, ?_, ?_, code, integral, ?_, fun moving => ?_⟩
    · rw [syncLoop_motion, enter_motion, ← hv]
      rfl
    · rw [syncLoop_motion, enter_motion]
      rfl
    · rw [syncLoop_motion, enter_motion, if_pos rest]
    · rw [rest] at moving
      cases moving
  · rename_i moving
    have moving : s.position.atRest = false := Bool.eq_false_of_not_eq_true moving
    generalize hv : (s.sensed false).released = v at due
    have halted := enterHalting_motion (s := v) false .stopped (by rw [← hv]; exact hq)
    have back := enterHalting_backdrop (s := v) false .stopped
    have settled := settle_of_some due (react_none_of_halt (by rw [halted])
      ((congrArg Arm.state (field_of_backdrop back (·.armL) fun _ => rfl)).trans (by rw [← hv]; exact hl))
      ((congrArg Arm.state (field_of_backdrop back (·.armR) fun _ => rfl)).trans (by rw [← hv]; exact hr))
      (by rw [atRest_of_backdrop back, ← hv]; exact moving) (by rw [halted]))
    obtain ⟨-, code, integral⟩ := syncLoop_idle (s := v.enterHalting false .stopped) (by rw [State.loopRuns, halted]; rfl)
    rw [pinchEngagedSense_eq, settled]
    refine ⟨_, rfl, ?_, ?_, code, integral, ?_, fun _ => ⟨?_, ?_⟩⟩
    · rw [syncLoop_motion, halted]
    · rw [syncLoop_motion, halted]
    · rw [syncLoop_motion, halted, moving]
      rfl
    · rw [syncLoop_motion, halted]
      rfl
    · rw [syncLoop_motion, halted, ← hv]
      rfl

/-! ### The timers (R76, R106, R175, R177) -/

theorem durationExpiry_ends {n : Nat} (calm : s.Calm) (moving : s.position.atRest = false) (h : s.motion.state = .playing)
    (ha : s.motion.active = some m) (hq : s.motion.queue = [r]) (hd : r.duration = some n)
    (room : s.motion.completions.length < 16) :
    ∃ t : State, exec .durationExpiry s = .next t.handOver ∧ t.now = max s.now (m.start + Config.msec n) ∧
      t.HaltsWith s true [({ s with now := t.now }).recordFor r m .done 0] := by
  have ended := endActive_motion_of_single (s := s.reach (m.start + Config.msec n)) .done ha hq room
  have halt : (s.reach (m.start + Config.msec n)).finishMove .done =
      ((s.reach (m.start + Config.msec n)).endActive .done).enterHalting true .stopped := by
    rw [State.finishMove, activate_of_empty (by rw [ended])]
    unfold State.queueEmptied
    rw [ended, show (s.reach (m.start + Config.msec n)).motion.state = .playing from h]
  have back := endActive_backdrop (s := s.reach (m.start + Config.msec n)) .done
  have halts := settle_ended_halts (s := s.reach (m.start + Config.msec n)) true calm moving ended back
  rw [← halt] at halts
  have now : ((s.reach (m.start + Config.msec n)).finishMove .done).settle.now = max s.now (m.start + Config.msec n) :=
    field_of_backdrop
      (settle_backdrop.trans ((congrArg State.backdrop halt).trans ((enterHalting_backdrop ..).trans back))) (·.now) fun _ => rfl
  have e : exec .durationExpiry s = .next ((s.reach (m.start + Config.msec n)).finishMove .done).settle.handOver := by
    have duration : s.activeDuration = some n := by rw [State.activeDuration, hq]; exact hd
    show execDurationExpiry s = _
    rw [execDurationExpiry, ha, duration]
  exact ⟨_, e, now, { halts with completions := by rw [now]; exact halts.completions }⟩

theorem threadCheckTimeout_ends (hz : s.motion.sizing = some z) (phase : z.phase = .threadCheck) :
    ∃ t : State, exec .threadCheckTimeout s = .next t.handOver ∧ t.now = max s.now (z.timer + Config.msec 500) ∧
      t.motion.state = .unthreaded ∧ t.motion.sizing = none ∧ t.Braked ∧ t.motion.brakeRelease = false ∧
      (s.motion.state = .sizing → t.Reported s .sizingDone 1) := by
  have e : exec .threadCheckTimeout s = .next (State.settle
      (((s.reach (z.timer + Config.msec 500)).enter .unthreaded).sizingDone 1)).handOver := by
    have sizing : s.sizingIn .threadCheck = some z := by simp [State.sizingIn, hz, phase]
    show execThreadCheckTimeout s = _
    rw [execThreadCheckTimeout, sizing]
  generalize hv : s.reach (z.timer + Config.msec 500) = v at e
  have motion : ((v.enter .unthreaded).sizingDone 1).motion = (v.enter .unthreaded).motion := report_motion ..
  have state : ((v.enter .unthreaded).sizingDone 1).motion.state = .unthreaded := by rw [motion, enter_motion]
  rw [settle_of_none (react_none_of_parked (.inr state))] at e
  have entered : (v.enter .unthreaded).Braked := enter_braked rfl
  have braked : ((v.enter .unthreaded).sizingDone 1).Braked := by
    unfold State.sizingDone State.report State.reportAt State.reportTo
    cases (v.enter .unthreaded).noticeLink <;> exact { entered with }
  refine ⟨_, e, ?_, ?_, ?_, syncLoop_braked braked (by rw [state]; rfl), ?_, fun sizing => ?_⟩
  · rw [syncLoop_now, field_of_backdrop ((sizingDone_backdrop _).trans (enter_backdrop _)) (·.now) fun _ => rfl, ← hv]
    rfl
  · rw [syncLoop_motion, state]
  · rw [syncLoop_motion, motion, enter_motion]
    rfl
  · rw [syncLoop_motion, motion, enter_motion]
    rfl
  · have outside : v.motion.state ≠ .playing := by rw [← hv]; exact sizing.trans_ne (by decide)
    have ports (c : Link) : v.port c = s.port c := by rw [← hv]; cases c <;> rfl
    have back : (v.enter .unthreaded).backdrop = v.backdrop := enter_backdrop _
    have reported := sizingDone_reported (v := 1) back (enter_keeps (x := .unthreaded) outside (by decide)).2
    subst hv
    rw [State.Reported, syncLoop_port]
    exact reported.trans (by rw [ports]; rfl)

theorem brakingTimeout_ends {n : Nat} (hb : s.motion.brakingTimer = some n) :
    ∃ t : State, exec .brakingTimeout s = .next t.handOver ∧ t.now = max s.now (n + Config.msec 5000) ∧ t.motion.state = .fault ∧
      t.motion.brakingTimer = none ∧ t.Braked ∧ t.faults.set = s.faults.set ∧ t.faults.primary = s.faults.primary := by
  have e : exec .brakingTimeout s = .next (State.settle ((s.reach (n + Config.msec 5000)).enter .fault)).handOver := by
    show execBrakingTimeout s = _
    rw [execBrakingTimeout, hb]
  have state : ((s.reach (n + Config.msec 5000)).enter .fault).motion.state = .fault := by rw [enter_motion]
  rw [settle_of_none (react_none_of_fault state)] at e
  obtain ⟨set, primary⟩ : Group.faults.Same (s.reach (n + Config.msec 5000)) ((s.reach (n + Config.msec 5000)).enter .fault) :=
    enter_latched (by decide)
  refine ⟨_, e, ?_, ?_, ?_, enter_syncLoop_braked rfl, ?_, ?_⟩
  · rw [syncLoop_now, field_of_backdrop (enter_backdrop _) (·.now) fun _ => rfl]
    rfl
  · rw [syncLoop_motion, state]
  · rw [syncLoop_motion, enter_motion]
    rfl
  · rw [syncLoop_faults]
    exact set
  · rw [syncLoop_faults]
    exact primary

/-- A state entered from outside the moving ones that is none itself runs no supervision (R177). -/
theorem enter_supervision (h : x.moving = false) : (s.enter x).faults.supervision = none := by
  have other : x ≠ .playing := by rintro rfl; cases h
  have after : s.supervisionAfter x = none := by rw [State.supervisionAfter, h]; rfl
  unfold State.enter
  dsimp only
  rw [if_neg other, after]
  split <;> rfl

/-- The last move, a CHASE apart, leaves without a report. -/
theorem endActive_port_of_single (res : MoveResult) (ha : s.motion.active = some m) (hk : m.kind ≠ .chase)
    (hq : s.motion.queue = [r]) (room : s.motion.completions.length < 16) (l : Link) : (s.endActive res).port l = s.port l := by
  rw [endActive_of_single res ha hk hq room]
  exact Eq.trans (by cases l <;> rfl) (freeComp_port r.comp l)

/-- A halt that begins outside PLAYING with the tape moving, no record left and no fault, and an event reported with it. -/
theorem settle_report_halts (src : Source) (v : Int) (calm : s.Calm) (moving : s.position.atRest = false)
    (outside : s.motion.state ≠ .playing) (hq : s.motion.queue = []) (ha : s.motion.active = none) :
    let t := ((s.enterHalting false .stopped).report src v).settle
    t.now = s.now ∧ t.faults.supervision = none ∧ t.faults.set = [] ∧ t.Reported s src v ∧ t.HaltsWith s false [] := by
  obtain ⟨hl, hr, hf⟩ := calm
  obtain ⟨set, ports⟩ := enterHalting_keeps false .stopped hq outside
  have halted := enterHalting_motion false .stopped hq
  have back : (s.enterHalting false .stopped).backdrop = s.backdrop := enterHalting_backdrop ..
  have timer : (s.enterHalting false .stopped).faults.supervision = none := by
    rw [enterHalting_eq false .stopped hq]
    exact enter_supervision rfl
  have noticed : (s.enterHalting false .stopped).noticeLink = s.noticeLink := by
    rw [State.noticeLink, State.noticeLink, field_of_backdrop back (·.ctl) fun _ => rfl]
  have position : (s.enterHalting false .stopped).position = s.position := field_of_backdrop back (·.position) fun _ => rfl
  have reported := report_reported (s := s.enterHalting false .stopped) src v
  have motion := (report_motion (s := s.enterHalting false .stopped) src v).trans halted
  have back := (report_backdrop (s := s.enterHalting false .stopped) src v).trans back
  rw [settle_of_none (react_none_of_halt (by rw [motion])
    ((congrArg Arm.state (field_of_backdrop back (·.armL) fun _ => rfl)).trans hl)
    ((congrArg Arm.state (field_of_backdrop back (·.armR) fun _ => rfl)).trans hr)
    (by rw [atRest_of_backdrop back, moving]) (by rw [motion]))]
  refine ⟨?_, ?_, ?_, ?_, ?_⟩
  · rw [syncLoop_now, field_of_backdrop back (·.now) fun _ => rfl]
  · rw [syncLoop_faults, report_faults, timer]
  · rw [syncLoop_faults, report_faults, set, hf]
  · rw [State.Reported, syncLoop_port, ← noticed, reported, ports, position]
  · constructor <;> rw [syncLoop_motion, motion]
    · exact hq
    · exact ha
    · exact (List.append_nil _).symm

theorem supervisionExpiry_ends {n : Nat} (hs : s.faults.supervision = some n) (calm : s.Calm) (moving : s.position.atRest = false)
    (h : s.motion.state = .winding) (ha : s.motion.active = some m) (hk : m.kind ≠ .chase) (hq : s.motion.queue = [r])
    (room : s.motion.completions.length < 16) :
    ∃ t : State, exec .supervisionExpiry s = .next t.handOver ∧ t.now = max s.now (n + Config.msec s.profile.supervision) ∧
      t.faults.supervision = none ∧ t.faults.set = [] ∧ t.Reported s .supervisionStop 3 ∧
      t.HaltsWith s false [({ s with now := t.now }).recordFor r m .halted 0] := by
  have e : exec .supervisionExpiry s = .next (State.settle (State.report (State.stopTransport (State.endAll
      { s.reach (n + Config.msec s.profile.supervision) with faults := { s.faults with supervision := none } } .halted))
      .supervisionStop 3)).handOver := by
    show execSupervisionExpiry s = _
    rw [execSupervisionExpiry, hs]
    dsimp only
    rw [h]
    rfl
  generalize hv : ({ s.reach (n + Config.msec s.profile.supervision) with
    faults := { s.faults with supervision := none } } : State) = v at e
  have hm : v.motion = s.motion := by rw [← hv]; rfl
  have hp : v.position = s.position := by rw [← hv]; rfl
  have active : v.motion.active = some m := by rw [hm, ha]
  have hq : v.motion.queue = [r] := by rw [hm, hq]
  have room : v.motion.completions.length < 16 := by rw [hm]; exact room
  have ended := endActive_motion_of_single .halted active hq room
  have ports := endActive_port_of_single .halted active hk hq room
  have back := endActive_backdrop (s := v) .halted
  have faults : (v.endActive .halted).faults = { s.faults with supervision := none } := by rw [endActive_faults, ← hv]
  have winding : (v.endActive .halted).motion.state = .winding := by rw [ended, hm, h]
  rw [endAll_of_active .halted active, stopTransport_of_winding winding] at e
  obtain ⟨hl, hr, hf⟩ := calm
  generalize v.endActive .halted = u at *
  have position : u.position = s.position := (field_of_backdrop back (·.position) fun _ => rfl).trans hp
  have now : u.now = max s.now (n + Config.msec s.profile.supervision) :=
    (field_of_backdrop back (·.now) fun _ => rfl).trans (by rw [← hv]; rfl)
  have noticed : u.noticeLink = s.noticeLink := by
    rw [State.noticeLink, State.noticeLink, field_of_backdrop back (·.ctl) fun _ => rfl, ← hv]
    rfl
  have profile : u.profile = s.profile := (field_of_backdrop back (·.profile) fun _ => rfl).trans (by rw [← hv]; rfl)
  have calm : u.Calm := ⟨(congrArg Arm.state (field_of_backdrop back (·.armL) fun _ => rfl)).trans (by rw [← hv]; exact hl),
    (congrArg Arm.state (field_of_backdrop back (·.armR) fun _ => rfl)).trans (by rw [← hv]; exact hr), by rw [faults]; exact hf⟩
  obtain ⟨clock, timer, set, reported, halts⟩ := settle_report_halts .supervisionStop 3 calm (by rw [position, moving])
    (winding.trans_ne (by decide)) (by rw [ended]) (by rw [ended])
  have same (l : Link) : v.port l = s.port l := by rw [← hv]; cases l <;> rfl
  refine ⟨_, e, clock.trans now, timer, set, ?_, { halts with accel := ?_, vRef := ?_, completions := ?_ }⟩
  · rw [State.Reported, ← noticed, reported, ports, same, position]
  · rw [halts.accel, profile]
  · rw [halts.vRef, ended, hm]
  · rw [halts.completions, List.append_nil, ended, hm, clock, now, ← hv]
    rfl

/-- Settles O45: the sense by `react_engaged` and `react_released`, each timer by what its expiry comes to. -/
theorem sequencerEvents : Obligations.SequencerEvents := by
  refine ⟨fun s b => ⟨?_, fun calm timed hlo => ⟨?_, ?_⟩⟩, fun s => ⟨?_, ?_, ?_, ?_, ?_, ?_, ?_, ?_⟩⟩
  · rintro - u rfl settled
    show Host.Outcome.next (State.settle _).handOver = _
    rw [settle_of_settled settled]
  · rintro rfl h
    refine ⟨fun m pending ha hk => ?_, fun gone => ?_⟩
    · rw [pinchEngagedSense_eq, settle_engaged_play calm timed hlo h pending ha hk]
      have motion : ((s.sensed true).enter .playing).syncLoop.motion = ((s.sensed true).enter .playing).motion :=
        syncLoop_motion
      rw [enter_motion] at motion
      exact ⟨_, rfl, by rw [motion], by rw [motion]; rfl, by rw [motion]; rfl, by rw [motion]; rfl, by rw [motion]; exact ha,
        syncLoop_running (by rw [State.loopRuns, enter_motion])⟩
    · rw [pinchEngagedSense_eq, settle_engaged_release calm timed hlo h gone]
      have motion : ((s.sensed true).enter .releasing).syncLoop.motion = ((s.sensed true).enter .releasing).motion :=
        syncLoop_motion
      rw [enter_motion] at motion
      exact ⟨_, rfl, by rw [motion], by rw [motion]; rfl, by rw [motion]; rfl, by rw [motion]; rfl, by rw [motion]; rfl⟩
  · rintro rfl h
    exact ⟨fun m pending ha hk => pinchSense_releases calm timed hlo h pending ha hk, pinchSense_stops calm timed h⟩
  · intro none
    show execDurationExpiry s = _
    rw [execDurationExpiry, State.activeDuration]
    rcases none with ha | ⟨r, rest, hq, hd⟩
    · rw [ha]
    · rw [hq]
      dsimp only
      rw [hd]
      cases s.motion.active <;> rfl
  · intro m r n calm moving h ha _ hq hd room _
    obtain ⟨t, e, now, halts⟩ := durationExpiry_ends calm moving h ha hq hd room
    exact ⟨t, e, now, halts.queue, halts.active, halts.state, halts.halt, halts.pinch, halts.accel, halts.vRef, halts.completions⟩
  · intro other
    have none : s.sizingIn .threadCheck = none := Option.filter_eq_none_iff.2 fun z hz => by simpa using other z hz
    show execThreadCheckTimeout s = _
    rw [execThreadCheckTimeout, none]
  · exact fun z hz phase => threadCheckTimeout_ends hz phase
  · intro none
    show execBrakingTimeout s = _
    rw [execBrakingTimeout, none]
  · exact fun n hb _ => brakingTimeout_ends hb
  · intro none
    show execSupervisionExpiry s = _
    rw [execSupervisionExpiry, none]
  · intro n m r hs calm moving h ha hk hq room
    obtain ⟨t, e, now, timer, set, reported, halts⟩ := supervisionExpiry_ends hs calm moving h ha hk hq room
    exact ⟨t, e, now, timer, set, halts.queue, halts.state, halts.halt, reported, halts.completions⟩

end Sys2Proof.Machine
end

section
/-! Comparator hits (O28): the one hit of a count, a watch's report, the end of a WIND at its target. -/

namespace Sys2Proof.Machine
variable {s t : State} {d : Direction} {i : Nat} {c : Comparator} {a : ActiveMove} {r : MoveRecord} {x : Transport}

/-! ### One comparator that hits (R157, R158) -/

/-- A filter over a numbered list that keeps one of its entries alone. -/
theorem filterMap_zipIdx_single {α β : Type} {f : α × Nat → Option β} {b : β} {y : α} {l : List α} :
    ∀ {i n : Nat}, l[i]? = some y → f (y, n + i) = some b → (∀ j z, j ≠ i → l[j]? = some z → f (z, n + j) = none) →
      (l.zipIdx n).filterMap f = [b] := by
  induction l with
  | nil => exact fun h => by simp at h
  | cons w l ih =>
    intro i n hi hb others
    rw [List.zipIdx_cons]
    cases i with
    | zero =>
      cases Option.some.inj hi
      rw [List.filterMap_cons_some (by simpa using hb), List.filterMap_eq_nil_iff.2]
      rintro ⟨z, k⟩ mem
      obtain ⟨low, high⟩ := List.mem_zipIdx_iff_le_and_getElem?_sub.1 mem
      have other := others (k - (n + 1) + 1) z (by omega) high
      rwa [show n + (k - (n + 1) + 1) = k by omega] at other
    | succ i =>
      rw [List.filterMap_cons_none (by simpa using others 0 w (by omega) rfl)]
      refine ih (i := i) hi ?_ fun j z ne hj => ?_
      · rwa [show n + 1 + i = n + (i + 1) by omega]
      · rw [show n + 1 + j = n + (j + 1) by omega]
        exact others (j + 1) z (by omega) hj

/-- The state whose comparator is the only one that hits at a count in a direction. -/
def State.HitsOnly (s : State) (d : Direction) (i : Nat) (c : Comparator) : Prop :=
  s.comps[i]? = some (some c) ∧ c.hits s.position.pos d = true ∧
    ∀ j e, j ≠ i → s.comps[j]? = some (some e) → e.hits s.position.pos d = false

theorem hitList_of_hitsOnly (h : s.HitsOnly d i c) : s.hitList d = [(i, c)] := by
  obtain ⟨hi, hits, others⟩ := h
  refine filterMap_zipIdx_single (y := some c) hi ?_ fun j z ne hj => ?_
  · simp [hits]
  · cases z with
    | none => rfl
    | some e => simp [others j e ne hj]

/-- A comparator that its hit frees is the only one changed. -/
theorem comps_of_hitsOnly (h : s.HitsOnly d i c) (frees : c.afterHit = none) :
    s.comps.map (fun y => y.bind fun e => if e.hits s.position.pos d then e.afterHit else some e) = s.comps.set i none := by
  obtain ⟨hi, hits, others⟩ := h
  refine List.ext_getElem? fun j => ?_
  rw [List.getElem?_map, List.getElem?_set]
  split
  · rename_i same
    subst same
    have inside := (List.getElem?_eq_some_iff.1 hi).1
    rw [hi, Option.map_some, Option.bind_some, if_pos hits, frees, if_pos inside]
  · rename_i ne
    cases hj : s.comps[j]? with
    | none => rfl
    | some y =>
      cases y with
      | none => rfl
      | some e => simp [others j e (Ne.symm ne) hj]

theorem stepComps_of_hitsOnly (h : s.HitsOnly d i c) (frees : c.afterHit = none) :
    s.stepComps d = State.deliverHit { s with comps := s.comps.set i none } i c := by
  unfold State.stepComps
  rw [hitList_of_hitsOnly h, comps_of_hitsOnly h frees]
  rfl

theorem deliverHit_watch (user : c.user = .watch) : s.deliverHit i c = s.reportAt .watchHit i c.target := by
  rw [State.deliverHit, user]

theorem deliverHit_move {rest : List MoveRecord} (user : c.user = .move) (ha : s.motion.active = some a)
    (hq : s.motion.queue = r :: rest) (slot : c.slot = some r.slot) : s.deliverHit i c = s.finishMove .done := by
  rw [State.deliverHit, user, ha, hq]
  exact if_pos slot

/-! ### The hit of the active WIND (R77, R96) -/

theorem enter_comps (h : s.motion.state ≠ .playing) (k : x ≠ .playing) : (s.enter x).comps = s.comps := by
  simp only [State.enter, h, k, false_and, if_false]
  split <;> rfl

/-- A WIND, the last of the queue, ends in WINDING and the transport halts. -/
theorem settle_wind_done (calm : s.armL.state = .normal ∧ s.armR.state = .normal ∧ s.faults.set = [])
    (moving : s.position.atRest = false) (h : s.motion.state = .winding) (ha : s.motion.active = some a) (hk : a.kind = .wind)
    (hq : s.motion.queue = [r]) (room : s.motion.completions.length < 16) :
    (s.finishMove .done).settle.HaltsWith s false [s.recordFor r a .done 0] ∧
      (s.finishMove .done).settle.comps = (s.freeComp r.comp).comps ∧
      (s.finishMove .done).settle.position = s.position := by
  have ended := endActive_of_single .done ha (by simp [hk]) hq room
  have motion := congrArg State.motion ended
  have winding : (s.endActive .done).motion.state = .winding := by rw [motion, h]
  have queue : (s.endActive .done).motion.queue = [] := by rw [motion]
  have halts : s.finishMove .done = (s.endActive .done).enterHalting false .stopped := by
    rw [State.finishMove, activate_of_empty queue, queueEmptied_of_winding winding]
  have back := endActive_backdrop (s := s) .done
  have halted := settle_ended_halts false calm moving motion back
  have comps : ((s.endActive .done).enterHalting false .stopped).comps = (s.endActive .done).comps := by
    rw [enterHalting_eq false .stopped queue]
    exact enter_comps (winding.trans_ne (by decide)) (by decide)
  obtain ⟨hl, hr, -⟩ := calm
  rw [halts]
  refine ⟨halted, ?_, ?_⟩
  · rw [settle_enterHalting false .stopped queue ((congrArg Arm.state (field_of_backdrop back (·.armL) fun _ => rfl)).trans hl)
      ((congrArg Arm.state (field_of_backdrop back (·.armR) fun _ => rfl)).trans hr) (by rw [atRest_of_backdrop back, moving]),
      syncLoop_comps, comps, ended]
  · exact field_of_backdrop (settle_backdrop.trans ((enterHalting_backdrop ..).trans back)) (·.position) fun _ => rfl

/-! ### A count that hits -/

/-- A roller count within the limit is the step of the position. -/
theorem rollerCount_steps (counted : s.startup.phase ≠ .held) (lo : -2000000000 ≤ s.position.pos + dirSign d)
    (hi : s.position.pos + dirSign d ≤ 2000000000) :
    exec (.rollerCount d) s = .next ((s.rollerSums d).stepPosition d).handOver := by
  have free : ¬ absorbed s.position.pos d = true := fun k => by
    have := (absorbed_iff _).1 k
    omega
  exact (if_pos (counting_of counted)).trans (if_neg free)

/-- The state that a count reaches before the tables follow it. -/
def State.stepped (s : State) (d : Direction) : State :=
  { s.rollerSums d with position := { (s.rollerSums d).position with pos := s.position.pos + dirSign d } }

theorem stepPosition_eq : (s.rollerSums d).stepPosition d = (((s.stepped d).stepZones d).stepComps d).settle := rfl

theorem holds_iff (z : Zone) (n : Int) : z.holds n = true ↔ z.base ≤ n ∧ n ≤ z.limit := by
  rw [Zone.holds, Bool.and_eq_true, decide_eq_true_iff, decide_eq_true_iff]

/-- What neither the zones nor the links hold is as before when the zones have followed a step. -/
theorem stepZones_field {α : Type} (f : State → α) (hl : ∀ (l : Link) (t : State) (p : LinkPort), f (t.withPort l p) = f t)
    (hz : ∀ (t : State) (z : ZoneTable), f { t with zones := z } = f t) (d : Direction) : f (s.stepZones d) = f s := by
  have reports (values : List Int) (n : Int) : ∀ t : State, f (values.foldl (fun t v => t.reportAt .zone v n) t) = f t := by
    induction values with
    | nil => exact fun t => rfl
    | cons v values ih => exact fun t => (ih _).trans (hl ..)
  exact (reports ..).trans (hz ..)

theorem stepZones_keeps (d : Direction) : (s.stepZones d).now = s.now ∧ (s.stepZones d).comps = s.comps ∧
    (s.stepZones d).motion = s.motion ∧ (s.stepZones d).armL = s.armL ∧ (s.stepZones d).armR = s.armR ∧
    (s.stepZones d).faults = s.faults ∧ (s.stepZones d).profile = s.profile := by
  have kept := stepZones_field (s := s) (fun t => (t.now, t.comps, t.motion, t.armL, t.armR, t.faults, t.profile))
    (fun l _ _ => by cases l <;> rfl) (fun _ _ => rfl) d
  simpa only [Prod.mk.injEq] using kept

/-- Settles O28: the one hit is delivered by `stepComps_of_hitsOnly`, and a WIND's ends it by `settle_wind_done`. -/
theorem comparatorHits : Obligations.ComparatorHits := by
  refine ⟨fun s u d x i c hx counted lo hi zones hc user armed target sense others hu settled => ?_,
    fun s d x i c a r hx counted lo hi alone hc user slot armed target sense winding ha hk hq comp room hl hr hf => ?_⟩
  · subst hx
    have zones : (s.stepped d).stepZones d = s.stepped d := stepZones_of_holds fun z mem =>
      Bool.eq_iff_iff.2 ((zones z mem).trans (holds_iff ..).symm)
    have only : (s.stepped d).HitsOnly d i c :=
      ⟨hc, (hits_iff c _).2 ⟨armed, target, sense⟩, fun j e ne hj => no_hit_of (others j e ne hj)⟩
    have reported : (s.stepped d).stepComps d = u := by
      rw [stepComps_of_hitsOnly only (by rw [Comparator.afterHit, user]), deliverHit_watch user, target, hu]
      rfl
    rw [rollerCount_steps counted lo hi, stepPosition_eq, zones, reported, settle_of_settled settled]
  · subst hx
    obtain ⟨now, comps, motion, armL, armR, faults, profile⟩ := stepZones_keeps (s := s.stepped d) d
    have position := stepZones_position (s := s.stepped d) d
    rw [rollerCount_steps counted lo hi, stepPosition_eq]
    generalize (s.stepped d).stepZones d = u at *
    have only : u.HitsOnly d i c := by
      refine ⟨comps ▸ hc, (hits_iff c _).2 ⟨armed, by rw [position, target]; rfl, ?_⟩, fun j e ne hj => ?_⟩
      · rw [sense]
        cases d <;> simp
      · exact absurd (comps ▸ hj) (alone j e ne)
    have delivered : u.stepComps d = ({ u with comps := u.comps.set i none } : State).finishMove .done := by
      rw [stepComps_of_hitsOnly only (by rw [Comparator.afterHit, user])]
      exact deliverHit_move user (by rw [motion]; exact ha) (by rw [motion]; exact hq) slot
    obtain ⟨halts, freed, kept⟩ := settle_wind_done (s := { u with comps := u.comps.set i none }) (a := a) (r := r)
      ⟨by rw [armL]; exact hl, by rw [armR]; exact hr, by rw [faults]; exact hf⟩ (by rw [position]; rfl)
      (by rw [motion]; exact winding)
      (by rw [motion]; exact ha) hk (by rw [motion]; exact hq) (by rw [motion]; exact room)
    have record : State.recordFor { u with comps := u.comps.set i none } r a .done 0 = ⟨r.id, .done, s.position.pos + dirSign d,
        s.timeAt (s.position.pos + dirSign d), min 4294967295 ((s.now - a.start) / Config.msec 1), a.derated, 0, false⟩ := by
      simp only [State.recordFor, State.timeAt, State.frameAt, position, profile, now]
      rfl
    rw [delivered]
    refine ⟨_, rfl, ?_, halts.queue, halts.active, ?_, halts.state, halts.halt, ?_, ?_, ?_⟩
    · rw [kept]
      exact congrArg PositionUnit.pos position
    · rw [halts.completions, record, motion]
      rfl
    · rw [halts.accel, profile]
      rfl
    · rw [halts.vRef, motion]
      rfl
    · rw [freed, comp, comps]
      exact List.set_set ..

end Sys2Proof.Machine
end

section
/-! The transmitters (O25): what an idle one takes, and the reset that follows the reply of an at-rest Reset Part. -/

namespace Sys2Proof.Machine
variable {s t : State} {k : FaultKind} {l : Link} {p : LinkPort}

/-! ### What an idle transmitter takes (R182) -/

theorem feed_of_idle (running : s.startup.phase = .running) (idle : (s.port l).sending = none) : s.feed l = s.chooseFrame l := by
  rw [State.feed, idle]
  exact if_pos (decide_eq_true running)

theorem chooseFrame_notice {f : Frame} (h : (s.port l).notice = some f) :
    s.chooseFrame l = s.withPort l { s.port l with notice := none, sending := some ⟨f, false⟩ } := by
  rw [State.chooseFrame, h]
  rfl

theorem chooseFrame_reply {o : Outgoing} {rest : List Outgoing} (none : (s.port l).notice = none)
    (h : (s.port l).replies = o :: rest) :
    s.chooseFrame l = s.withPort l { s.port l with replies := rest, sending := some o } := by
  unfold State.chooseFrame
  dsimp only
  split
  · rename_i e
    cases none.symm.trans e
  · split
    · rename_i e
      cases h.symm.trans e
      rfl
    · rename_i e
      cases h.symm.trans e

/-- With no notice and no reply waiting the choice is between the completion list and the rest. -/
theorem chooseFrame_unanswered (none : (s.port l).notice = none) (replies : (s.port l).replies = []) :
    s.chooseFrame l = if s.noticeLink = l then
      (match s.motion.completions with
        | c :: rest => { s with motion := { s.motion with completions := rest } }.withPort l ((s.port l).send ⟨0x41, 0, c.bytes⟩)
        | [] => s.withPort l (s.port l).chooseNotice)
      else s.withPort l (s.port l).chooseNotice := by
  unfold State.chooseFrame
  dsimp only
  split
  · rename_i e
    cases none.symm.trans e
  · split
    · rename_i e
      cases replies.symm.trans e
    · rfl

theorem chooseFrame_completion {c : Completion} {rest : List Completion} (none : (s.port l).notice = none)
    (replies : (s.port l).replies = []) (notice : s.noticeLink = l) (h : s.motion.completions = c :: rest) :
    s.chooseFrame l = ({ s with motion := { s.motion with completions := rest } }).withPort l
      { s.port l with sending := some ⟨⟨0x41, 0, c.bytes⟩, false⟩ } := by
  rw [chooseFrame_unanswered none replies, if_pos notice]
  split
  · rename_i e
    cases h.symm.trans e
    rfl
  · rename_i e
    cases h.symm.trans e

theorem chooseFrame_other (none : (s.port l).notice = none) (replies : (s.port l).replies = [])
    (h : s.motion.completions = [] ∨ s.noticeLink ≠ l) : s.chooseFrame l = s.withPort l (s.port l).chooseNotice := by
  rw [chooseFrame_unanswered none replies]
  split
  · rw [h.resolve_right (not_not_intro ‹_›)]
  · rfl

/-- The lowest-numbered pending event leaves, its flag clear. -/
theorem chooseNotice_event {i : Nat} {x : Latch} (h : p.latches[i]? = some (some x)) (pending : x.notice = true)
    (lowest : ∀ j y, j < i → p.latches[j]? = some (some y) → y.notice = false) : p.chooseNotice = { p with
      latches := p.latches.set i (some { x with notice := false })
      sending := some ⟨⟨0x42, 0, enc1 i ++ enc1 x.count ++ enc4 x.value ++ enc4 x.pos⟩, false⟩ } := by
  obtain ⟨inside, at_i⟩ := List.getElem?_eq_some_iff.1 h
  have found : pendingSource p.latches = some i := by
    refine List.findIdx?_eq_some_iff_getElem.2 ⟨inside, by rw [at_i]; exact pending, fun j before => ?_⟩
    cases y : p.latches[j] with
    | none => simp
    | some y' => simp [lowest j y' before (List.getElem?_eq_some_iff.2 ⟨by omega, y⟩)]
  rw [LinkPort.chooseNotice, found]
  dsimp only
  rw [LinkPort.sendEvent, List.getD_eq_getElem?_getD, h]
  rfl

theorem pendingSource_none {table : List (Option Latch)} (h : ∀ y, some y ∈ table → y.notice = false) :
    pendingSource table = none := by
  refine List.findIdx?_eq_none_iff.2 fun y mem => ?_
  cases y with
  | none => rfl
  | some y => exact h y mem

theorem chooseNotice_report {b : Bytes} (quiet : ∀ y, some y ∈ p.latches → y.notice = false) (h : p.report = some b) :
    p.chooseNotice = { p with report := none, sending := some ⟨⟨0x43, 0, b⟩, false⟩ } := by
  rw [LinkPort.chooseNotice, pendingSource_none quiet, h]
  rfl

theorem chooseNotice_nothing (quiet : ∀ y, some y ∈ p.latches → y.notice = false) (h : p.report = none) : p.chooseNotice = p := by
  rw [LinkPort.chooseNotice, pendingSource_none quiet, h]

/-! ### What the end of a step leaves (R182) -/

/-- A latch but for its notice-pending flag. -/
def Latch.silent (x : Latch) : Latch := { x with notice := false }

/-- What a link's transmitter takes leaves of the link: the receiver, the mask, and the events but for a pending flag. -/
structure LinkPort.Taken (new old : LinkPort) : Prop where
  rx       : new.rx = old.rx
  part     : new.part = old.part
  lastByte : new.lastByte = old.lastByte
  mask     : new.mask = old.mask
  latches  : new.latches.map (Option.map Latch.silent) = old.latches.map (Option.map Latch.silent)

theorem taken_refl (p : LinkPort) : p.Taken p := ⟨rfl, rfl, rfl, rfl, rfl⟩

theorem sendEvent_taken (i : Nat) : (p.sendEvent i).Taken p := by
  unfold LinkPort.sendEvent
  split
  · rename_i x found
    refine ⟨rfl, rfl, rfl, rfl, List.ext_getElem? fun j => ?_⟩
    rw [List.getD_eq_getElem?_getD] at found
    have inside : p.latches[i]? = some (some x) := by
      cases at_i : p.latches[i]? with
      | none => rw [at_i] at found; cases found
      | some y => rw [at_i] at found; exact congrArg some found
    simp only [LinkPort.send, List.getElem?_map, List.getElem?_set]
    split
    · rename_i same
      subst same
      rw [inside, if_pos (List.getElem?_eq_some_iff.1 inside).1]
      rfl
    · rfl
  · exact taken_refl p

theorem chooseNotice_taken (p : LinkPort) : p.chooseNotice.Taken p := by
  unfold LinkPort.chooseNotice
  split
  · exact sendEvent_taken _
  · split
    · exact ⟨rfl, rfl, rfl, rfl, rfl⟩
    · exact taken_refl p

theorem chooseFrame_taken (s : State) (l : Link) : ((s.chooseFrame l).port l).Taken (s.port l) := by
  unfold State.chooseFrame
  dsimp only
  split
  · rw [State.withPort_port]
    exact ⟨rfl, rfl, rfl, rfl, rfl⟩
  · split
    · rw [State.withPort_port]
      exact ⟨rfl, rfl, rfl, rfl, rfl⟩
    · split
      · split
        · rw [State.withPort_port]
          exact ⟨rfl, rfl, rfl, rfl, rfl⟩
        · rw [State.withPort_port]
          exact chooseNotice_taken _
      · rw [State.withPort_port]
        exact chooseNotice_taken _

theorem feed_taken (s : State) (l : Link) : ((s.feed l).port l).Taken (s.port l) := by
  unfold State.feed
  split
  · exact taken_refl _
  · unfold State.chooseNext
    split
    · exact chooseFrame_taken s l
    · exact taken_refl _

/-- What a link takes changes that link and, on the notice link, the completion list, which loses at most its oldest record. -/
theorem feed_leaves (s : State) (l : Link) : ∃ left : List Completion,
    s.feed l = ({ s with motion := { s.motion with completions := left } }).withPort l ((s.feed l).port l) ∧
      (left = s.motion.completions ∨ s.noticeLink = l ∧ left = s.motion.completions.drop 1) := by
  obtain ⟨p, -, h | ⟨c, rest, completions, notice, h⟩⟩ := feed_cases s l
  · refine ⟨s.motion.completions, ?_, .inl rfl⟩
    rw [h, State.withPort_port]
  · refine ⟨rest, ?_, .inr ⟨notice, by rw [completions]; rfl⟩⟩
    rw [h, State.withPort_port]

theorem handOver_leaves (s : State) : ∃ (deck service : LinkPort) (left : List Completion),
    s.handOver = { s with deck := deck, service := service, motion := { s.motion with completions := left } } ∧
    (left = s.motion.completions ∨ left = s.motion.completions.drop 1) ∧ deck.Taken s.deck ∧ service.Taken s.service := by
  obtain ⟨first, deckFed, deckLeft⟩ := feed_leaves s .deck
  obtain ⟨second, serviceFed, serviceLeft⟩ := feed_leaves (s.feed .deck) .service
  have notice : (s.feed .deck).noticeLink = s.noticeLink := feed_field (·.noticeLink) (fun _ _ => rfl) fun _ _ => rfl
  have completions : (s.feed .deck).motion.completions = first := by rw [deckFed]; rfl
  have other : (s.feed .deck).service = s.service := by rw [deckFed]; rfl
  refine ⟨(s.feed .deck).deck, ((s.feed .deck).feed .service).service, second, ?_, ?_, feed_taken s .deck, ?_⟩
  · have shape : s.handOver = _ := serviceFed
    rw [shape, deckFed]
    rfl
  · rw [notice, completions] at serviceLeft
    rcases serviceLeft with same | ⟨service, drop⟩
    · rw [same]
      exact deckLeft.imp id And.right
    · rcases deckLeft with same | ⟨deck, -⟩
      · exact .inr (by rw [drop, same])
      · rw [deck] at service
        cases service
  · have taken := feed_taken (s.feed .deck) .service
    rw [show (s.feed .deck).port .service = s.service from other] at taken
    exact taken

/-! ### TRANSMIT_DONE -/

theorem transmitDone_feeds (h : ∀ f, (s.port l).sending ≠ some ⟨f, true⟩) :
    exec (.transmitDone l) s = .next ((s.withPort l { s.port l with sending := none }).feed l) := by
  have idle : ((s.withPort l { s.port l with sending := none }).port l).sending = none := by rw [State.withPort_port]
  have chosen : (s.withPort l { s.port l with sending := none }).feed l = (s.idleTransmitter l).chooseNext l := by
    rw [State.feed, idle]
    rfl
  rw [chosen]
  show execTransmitDone l s = _
  unfold execTransmitDone
  split
  · rename_i o sending
    have kept : o.resets = false := by
      obtain ⟨f, b⟩ := o
      cases b with
      | false => rfl
      | true => exact absurd sending (h f)
    dsimp only
    rw [kept]
    rfl
  · rfl

theorem transmitDone_resets {f : Frame} (h : (s.port l).sending = some ⟨f, true⟩) : exec (.transmitDone l) s =
    .next ((s.withPort l { s.port l with sending := none }).linkReset (Link.resetKind l)) := by
  show execTransmitDone l s = _
  rw [execTransmitDone, h]
  rfl

/-! ### The reset a link asked for (R188 to R190) -/

theorem startUpNotice_eq : s.startUpNotice = ⟨0x40, 0, [BitVec.ofNat 8 s.startup.kind.ctorIdx,
    BitVec.ofNat 8 s.startup.prior.ctorIdx, if s.store.invalid then 0 else 1, BitVec.ofNat 8 s.capture.state.ctorIdx,
    match s.capture.state, s.capture.reason with
      | .done, some x => BitVec.ofNat 8 x.ctorIdx
      | _, _ => 0xFF,
    match s.capture.holder with
      | none => 0
      | some .deck => 1
      | some .service => 2]⟩ := by
  have valid : encFlag (!s.store.invalid) = [if s.store.invalid then 0 else 1] := by cases s.store.invalid <;> rfl
  have reason : s.capture.reasonByte = [match s.capture.state, s.capture.reason with
      | .done, some x => BitVec.ofNat 8 x.ctorIdx
      | _, _ => 0xFF] := by
    unfold Capture.reasonByte
    generalize s.capture.state = x, s.capture.reason = y
    cases x <;> cases y <;> rfl
  have holder : enc1 (holderNum s.capture.holder) = [match s.capture.holder with
      | none => 0
      | some .deck => 1
      | some .service => 2] := by
    rcases s.capture.holder with _ | (_ | _) <;> rfl
  rw [State.startUpNotice, enc1_natCast, enc1_natCast, enc1_natCast, valid, reason, holder]
  rfl

/-- With no input asserted the reset is over when the notices have left. -/
theorem linkReset_of_clear (r : ResetKind) (left : s.pins.faultL = false) (right : s.pins.faultR = false)
    (capstan : s.pins.faultC = false) (supply : s.pins.supplyWarning = false) :
    s.linkReset r = (s.afterReset r .running).handNotices := by
  rw [State.linkReset, readInputs_of_clear (s := (s.afterReset r .running).handNotices) left right capstan supply]
  exact settle_of_settled ⟨react_none_of_parked (.inr rfl), rfl⟩

theorem restarted_of_afterReset (f : Frame) : p.afterReset.handNotice f = p.restarted f := by
  unfold LinkPort.handNotice LinkPort.restarted LinkPort.afterReset
  cases p.sending <;> rfl

theorem linkReset_restarts {r : ResetKind} (asked : r = .deckRequest ∨ r = .serviceRequest) (left : s.pins.faultL = false)
    (right : s.pins.faultR = false) (capstan : s.pins.faultC = false) (supply : s.pins.supplyWarning = false) :
    (s.linkReset r).RestartedFrom s r := by
  have soft : r.hard = false := by rcases asked with rfl | rfl <;> rfl
  have profile : (s.afterReset r .running).profile = s.profile := by simp [State.afterReset, soft]
  have prior : r ≠ .powerOn := by rcases asked with rfl | rfl <;> decide
  have cut : s.store.afterReset r =
      if s.store.busy then { s.store with check := none, busy := false, invalid := true } else s.store := by
    simp [Store.afterReset, soft]
  have owner : s.ctl.owner.afterReset r = if r = .deckRequest ∧ s.ctl.owner = .service then .service else .free := by
    rcases asked with rfl | rfl <;> cases s.ctl.owner <;> rfl
  rw [linkReset_of_clear r left right capstan supply]
  have notice : (s.afterReset r .running).startUpNotice = noticeAfter s (s.afterReset r .running).handNotices r := by
    rw [startUpNotice_eq, State.afterReset]
    simp only [if_neg prior]
    rfl
  constructor
  case deck => exact (restarted_of_afterReset _).trans (congrArg s.deck.restarted notice)
  case service => exact (restarted_of_afterReset _).trans (congrArg s.service.restarted notice)
  case capture =>
    intro idle
    show s.capture.afterReset r = _
    rcases asked with rfl | rfl
    · have away := idle.resolve_left (by decide)
      rw [Capture.afterReset.eq_def]
      split
      · exact absurd ‹_› away
      · rfl
    · rfl
  case startup => exact congrArg (fun c => (⟨.running, s.now, r, c⟩ : Startup)) (if_neg prior)
  case profile => exact profile
  case reelL => exact congrArg Reel.fresh profile
  case reelR => exact congrArg Reel.fresh profile
  case motion => exact congrArg (Motion.fresh · s.motion.lastUpdate) profile
  case store => exact cut
  case ctl => exact congrArg (fun o => (⟨o, 0, s.ctl.lastReport, none⟩ : LinkControl)) owner
  all_goals rfl

/-- The inputs being read after a reset: a braked state without moves, the tape not known to be at rest. -/
structure State.Reading (s : State) : Prop where
  state  : s.motion.state = .unthreaded ∨ s.motion.state = .braking
  braked : s.Braked
  queue  : s.motion.queue = []
  active : s.motion.active = none

theorem report_braked (h : s.Braked) (src : Source) (v : Int) : (s.report src v).Braked := by
  unfold State.report State.reportAt State.reportTo
  cases s.noticeLink <;> exact { h with }

theorem faultTrigger_braked (h : s.Braked) : s.faultTrigger.Braked := by
  unfold State.faultTrigger State.captureTrigger
  split
  · split
    · cases s.capture.endComp <;> exact { h with }
    · exact h
  · exact h

theorem faulted_braked (h : s.Braked) (k : FaultKind) : (s.faulted k).Braked :=
  faultTrigger_braked (report_braked (by exact { h with }) ..)

theorem State.Reading.latch (h : s.Reading) (hk : k.class = .a) : (s.latchFault k).Reading := by
  have motion := faulted_motion (s := s) k
  have ended : (s.faulted k).faultEnded = s.faulted k := by
    have other : (s.faulted k).motion.state ≠ .sizing := by
      rw [motion]
      rcases h.state with e | e <;> simp [e]
    rw [State.faultEnded, if_neg other]
    exact endAll_of_empty .faulted (by rw [motion, h.active]) (by rw [motion, h.queue])
  by_cases latched : k ∈ s.faults.set
  · rwa [State.latchFault, if_pos latched]
  · rcases h.state with parked | braking
    · rw [latchFault_classA hk latched (by simp [parked]) (by simp [parked]), ended]
      refine ⟨.inr ?_, enter_braked rfl, ?_, ?_⟩ <;> rw [enter_motion]
      · exact (congrArg Motion.queue motion).trans h.queue
      · exact (congrArg Motion.active motion).trans h.active
    · rw [latchFault_fresh latched, hk, faultRequest_a_of_braking (by rw [motion, braking]), ended]
      exact ⟨.inr (by rw [motion, braking]), faulted_braked h.braked k, by rw [motion, h.queue], by rw [motion, h.active]⟩

theorem State.Reading.latchIf (h : s.Reading) (b : Bool) (hk : k.class = .a) : (s.latchIf b k).Reading := by
  cases b
  · exact h
  · exact h.latch hk

theorem readInputs_reading (h : s.Reading) : s.readInputs.Reading :=
  (((h.latchIf _ rfl).latchIf _ rfl).latchIf _ rfl).latchIf _ rfl

theorem linkReset_faults {r : ResetKind} (asked : r = .deckRequest ∨ r = .serviceRequest) (some : s.pins.faultL = true ∨
    s.pins.faultR = true ∨ s.pins.faultC = true ∨ s.pins.supplyWarning = true) : (s.linkReset r).RestartedInFault s r := by
  have soft : r.hard = false := by rcases asked with rfl | rfl <;> rfl
  have profile : (s.afterReset r .running).profile = s.profile := by simp [State.afterReset, soft]
  have prior : r ≠ .powerOn := by rcases asked with rfl | rfl <;> decide
  have startup : (s.afterReset r .running).startup = ⟨.running, s.now, r, s.motion.state.class⟩ :=
    congrArg (fun c => (⟨.running, s.now, r, c⟩ : Startup)) (if_neg prior)
  have begun : (s.afterReset r .running).handNotices.Reading := ⟨.inl rfl, { reset_braked with }, rfl, rfl⟩
  have read := readInputs_reading begun
  have braking := readInputs_braking (s := (s.afterReset r .running).handNotices) rfl rfl some
  obtain ⟨set, -⟩ := readInputs_read (s := (s.afterReset r .running).handNotices) rfl rfl
  have back : (s.afterReset r .running).handNotices.readInputs.backdrop = (s.afterReset r .running).handNotices.backdrop :=
    readInputs_backdrop
  have moving : (s.afterReset r .running).handNotices.readInputs.position.atRest = false := atRest_of_backdrop back
  have settled : s.linkReset r = (s.afterReset r .running).handNotices.readInputs.syncLoop :=
    settle_of_none (react_none_of_braking braking moving)
  rw [settled]
  constructor
  case now => exact (syncLoop_now).trans (field_of_backdrop back (·.now) fun _ => rfl)
  case startup => exact syncLoop_startup.trans ((field_of_backdrop back (·.startup) fun _ => rfl).trans startup)
  case position => exact syncLoop_position.trans (field_of_backdrop back (·.position) fun _ => rfl)
  case state => rw [syncLoop_motion, braking]
  case braked => exact syncLoop_braked read.braked (by rw [braking]; rfl)
  case moves => exact ⟨by rw [syncLoop_motion, read.queue], by rw [syncLoop_motion, read.active]⟩
  case profile => exact syncLoop_profile.trans ((field_of_backdrop back (·.profile) fun _ => rfl).trans profile)
  case set => exact fun x => by rw [syncLoop_faults, set]; rfl

/-- Settles O25: the ranking by the cases of `chooseFrame` and `chooseNotice`, the reset by `linkReset_restarts` and
`linkReset_faults`, the end of a step by `handOver_leaves`. -/
theorem transmitDone : Obligations.TransmitDone := by
  refine ⟨fun s l p hp => ?_, fun s => ⟨rfl, ?_⟩⟩
  · subst hp
    have asked : Link.resetKind l = .deckRequest ∨ Link.resetKind l = .serviceRequest := by cases l <;> simp [Link.resetKind]
    refine ⟨fun running => ⟨fun f sending => ?_, fun idle => ?_⟩, transmitDone_feeds, ?_⟩
    · refine ⟨_, transmitDone_resets sending, fun left right capstan supply => ?_, fun some => ?_⟩
      · exact linkReset_restarts asked (by cases l <;> exact left) (by cases l <;> exact right) (by cases l <;> exact capstan)
          (by cases l <;> exact supply)
      · have restarted := linkReset_faults (s := s.withPort l { s.port l with sending := none }) asked (by cases l <;> exact some)
        cases l <;> exact { restarted with }
    · rw [feed_of_idle running idle]
      refine ⟨fun f notice => chooseFrame_notice notice, fun none => ⟨fun o rest replies => chooseFrame_reply none replies,
        fun replies => ⟨fun c rest completions notice => chooseFrame_completion none replies notice completions, fun away => ?_⟩⟩⟩
      rw [chooseFrame_other none replies away]
      refine ⟨fun i x found pending lowest => ?_, fun quiet => ⟨fun b report => ?_, fun report => ?_⟩⟩
      · rw [chooseNotice_event found pending lowest]
      · rw [chooseNotice_report quiet report]
      · rw [chooseNotice_nothing quiet report, withPort_port]
    · rintro (busy | stopped)
      · obtain ⟨o, sending⟩ := Option.ne_none_iff_exists'.1 busy
        exact feed_busy sending
      · exact feed_of_not_running stopped
  · obtain ⟨deck, service, left, shape, completions, deckTaken, serviceTaken⟩ := handOver_leaves s
    refine ⟨deck, service, left, shape, completions, fun old new mem => ?_⟩
    simp only [List.mem_cons, Prod.mk.injEq, List.not_mem_nil, or_false] at mem
    rcases mem with ⟨rfl, rfl⟩ | ⟨rfl, rfl⟩
    · exact ⟨deckTaken.rx, deckTaken.part, deckTaken.lastByte, deckTaken.mask, deckTaken.latches⟩
    · exact ⟨serviceTaken.rx, serviceTaken.part, serviceTaken.lastByte, serviceTaken.mask, serviceTaken.latches⟩

end Sys2Proof.Machine
end

section
/-! The bodies of SUBMIT_MOVE (11.4, R68, R69): the record each of them is read as. -/

namespace Sys2Proof.Machine
variable {p : Profile} {b : Bytes} {f : Byte} {x : Int} {id : Byte}

/-! ### Presence (11.4) -/

/-- The offset of a presence bit's field, for a presence byte. -/
def fieldOffset (f : Byte) (bit : Nat) : Nat :=
  3 + (((List.range bit).map (fun i => if f.getLsbD i then moveFieldSizes.getD i 0 else 0)).sum)

theorem present_of (h : b.getD 2 0 = f) (bit : Nat) : present b bit = f.getLsbD bit := by rw [present, h]

theorem moveOffset_of (h : b.getD 2 0 = f) (bit : Nat) : moveOffset b bit = fieldOffset f bit := by
  simp only [moveOffset, present_of h]
  rfl

theorem moveSized_of (h : b.getD 2 0 = f) (long : 3 ≤ b.length) (length : b.length = fieldOffset f 8) : moveSized b = true := by
  simp [moveSized, moveLength, moveOffset_of h, long, length.symm]

/-- A valid body of Submit Move with the record that it brings, by the slot. -/
structure MoveBody (p : Profile) (b : Bytes) (record : Nat → MoveRecord) : Prop where
  sized  : moveSized b = true
  fields : ∀ valid ∈ moveFields p b, valid = true
  record : ∀ slot, moveRecord p b slot = record slot

theorem moveFields_of (kind : enumField b 1 5 = true) (direction : directionOk b = true) (target : targetOk p b = true)
    (duration : durationOk b = true) (vari : variOk b = true) (offset : offsetOk p b = true) :
    ∀ valid ∈ moveFields p b, valid = true := by
  simp [moveFields, kind, direction, target, duration, vari, offset]

/-- The record of a kind with the values that the profile gives (R69). -/
def plainRecord (p : Profile) (id : Byte) (kind : MoveKind) (slot : Nat) : MoveRecord :=
  ⟨slot, id, kind, none, none, none, none, p.shuttle, p.accel, defaultTension p kind, 0, 0, none⟩

/-- A WIND in a direction toward a POSITION. -/
def windRecord (p : Profile) (id : Byte) (d : Direction) (x : Int) (slot : Nat) : MoveRecord :=
  { plainRecord p id .wind slot with dir := some d, target := some (.position x) }

/-- A move of a kind toward a target. -/
def targetRecord (p : Profile) (id : Byte) (k : MoveKind) (y : MoveTarget) (slot : Nat) : MoveRecord :=
  { plainRecord p id k slot with target := some y }

/-- A HOLD of a duration. -/
def holdRecord (p : Profile) (id : Byte) (n slot : Nat) : MoveRecord := { plainRecord p id .hold slot with duration := some n }

/-- A PLAY with its optional values as they are clamped. -/
def playRecord (p : Profile) (id : Byte) (c a f : Nat) (v : Int) (slot : Nat) : MoveRecord :=
  { plainRecord p id .play slot with
    ceiling := max p.creep (min p.shuttle c), accel := max 100 (min 8000 a) / 4 * 4, tension := max 50 (min 1500 f)
    vari := max (-1250) (min 1250 v) }

/-! ### The bodies -/

/-- A WIND toward a POSITION. -/
theorem windBody (d : Direction) (lo : -2000000000 ≤ x) (hi : x ≤ 2000000000)
    (hb : b = [id, 0, 0b00000011, if d = .forward then 0 else 1, 0] ++ wordBytes (BitVec.ofInt 32 x)) :
    MoveBody p b (windRecord p id d x) := by
  have byte : b.getD 2 0 = 3#8 := by rw [hb]; rfl
  have bits := present_of byte
  have direction : bodyU8 b 3 = if d = .forward then 0 else 1 := by rw [hb]; cases d <;> rfl
  have form : bodyU8 b 4 = 0 := by rw [hb]; rfl
  have place : bodyI32 b 5 = x := bodyI32_of_position (rest := []) (by rw [hb]; rfl) lo hi
  have kind : moveKind b = .wind := by rw [hb]; rfl
  have target : moveTarget b = some (.position x) := by
    simp [moveTarget, bits, moveOffset_of byte, fieldOffset, List.range_succ, moveFieldSizes, form, place]
  have dir : directionOf (bodyU8 b 3) = d := by rw [direction]; cases d <;> rfl
  have offset : moveOffset b 0 = 3 := moveOffset_of byte 0
  have first : b[0]?.getD 0#8 = id := by rw [hb]; rfl
  refine ⟨moveSized_of byte (by rw [hb]; exact Nat.le_add_left ..) (by rw [hb]; rfl), ?_, fun slot => ?_⟩
  · refine moveFields_of (by rw [hb]; rfl) ?_ ?_ ?_ ?_ ?_
    · simp only [directionOk, kind, bits, offset, enumField, direction]
      cases d <;> rfl
    · simp [targetOk, kind, target, posOk_of lo hi]
    · simp [durationOk, kind, bits]
    · simp [variOk, bits]
    · simp [offsetOk, bits]
  · simp [moveRecord, bits, kind, target, offset, dir, windRecord, plainRecord, first]

/-- A move of a kind without a direction toward a target. -/
theorem targetBody {k : MoveKind} {y : MoveTarget} {n : Byte} (known : n = 1 ∧ k = .locate ∨ n = 2 ∧ k = .play)
    (z w0 w1 w2 w3 : Byte) (hb : b = [id, n, 0b00000010, z, w0, w1, w2, w3]) (target : moveTarget b = some y)
    (valid : targetOk p b = true) :
    MoveBody p b (targetRecord p id k y) := by
  have byte : b.getD 2 0 = 2#8 := by rw [hb]; rfl
  have bits := present_of byte
  have kind : moveKind b = k := by rw [hb]; rcases known with ⟨rfl, rfl⟩ | ⟨rfl, rfl⟩ <;> rfl
  have first : b[0]?.getD 0#8 = id := by rw [hb]; rfl
  refine ⟨moveSized_of byte (by rw [hb]; exact Nat.le_add_left ..) (by rw [hb]; rfl), ?_, fun slot => ?_⟩
  · refine moveFields_of ?_ ?_ valid ?_ ?_ ?_
    · rw [hb]
      rcases known with ⟨rfl, -⟩ | ⟨rfl, -⟩ <;> rfl
    · rcases known with ⟨-, rfl⟩ | ⟨-, rfl⟩ <;> simp [directionOk, kind, bits]
    · rcases known with ⟨-, rfl⟩ | ⟨-, rfl⟩ <;> simp [durationOk, kind, bits]
    · simp [variOk, bits]
    · simp [offsetOk, bits]
  · simp [moveRecord, bits, kind, target, targetRecord, plainRecord, first]

/-- A LOCATE or a PLAY toward a POSITION. -/
theorem placeBody {k : MoveKind} {n : Byte} (known : n = 1 ∧ k = .locate ∨ n = 2 ∧ k = .play) (lo : -2000000000 ≤ x)
    (hi : x ≤ 2000000000) (hb : b = [id, n, 0b00000010, 0] ++ wordBytes (BitVec.ofInt 32 x)) :
    MoveBody p b (targetRecord p id k (.position x)) := by
  have byte : b.getD 2 0 = 2#8 := by rw [hb]; rfl
  have offset : moveOffset b 1 = 3 := moveOffset_of byte 1
  have place : bodyI32 b 4 = x := bodyI32_of_position (rest := []) (by rw [hb]; rfl) lo hi
  have form : bodyU8 b 3 = 0 := by rw [hb]; rfl
  have kind : moveKind b = k := by rw [hb]; rcases known with ⟨rfl, rfl⟩ | ⟨rfl, rfl⟩ <;> rfl
  have target : moveTarget b = some (.position x) := by simp [moveTarget, present_of byte, offset, form, place]
  refine targetBody known 0 _ _ _ _ hb target ?_
  rcases known with ⟨-, rfl⟩ | ⟨-, rfl⟩ <;> simp [targetOk, kind, target, present_of byte, posOk_of lo hi]

/-- A LOCATE or a PLAY toward a TIMECODE. -/
theorem timecodeBody {k : MoveKind} {n : Byte} {y : BcdTime} (known : n = 1 ∧ k = .locate ∨ n = 2 ∧ k = .play)
    (valid : (timecodeFrames p y).isSome = true) (hb : b = [id, n, 0b00000010, 1, y.hh, y.mm, y.ss, y.ff]) :
    MoveBody p b (targetRecord p id k (.timecode y)) := by
  have byte : b.getD 2 0 = 2#8 := by rw [hb]; rfl
  have offset : moveOffset b 1 = 3 := moveOffset_of byte 1
  have place : bodyTime b 4 = y := by rw [hb]; rfl
  have form : bodyU8 b 3 = 1 := by rw [hb]; rfl
  have kind : moveKind b = k := by rw [hb]; rcases known with ⟨rfl, rfl⟩ | ⟨rfl, rfl⟩ <;> rfl
  have target : moveTarget b = some (.timecode y) := by simp [moveTarget, present_of byte, offset, form, place]
  refine targetBody known 1 _ _ _ _ hb target ?_
  rcases known with ⟨-, rfl⟩ | ⟨-, rfl⟩ <;> simp [targetOk, kind, target, present_of byte, valid]

/-- A LOCATE or a PLAY toward an ENTRY. -/
theorem entryBody {k : MoveKind} {n i : Byte} (known : n = 1 ∧ k = .locate ∨ n = 2 ∧ k = .play) (inside : i.toNat < 32)
    (hb : b = [id, n, 0b00000010, 2, 0, 0, 0, i]) :
    MoveBody p b (targetRecord p id k (.entry i.toNat)) := by
  have byte : b.getD 2 0 = 2#8 := by rw [hb]; rfl
  have offset : moveOffset b 1 = 3 := moveOffset_of byte 1
  have place : bodyU8 b 7 = i.toNat := by rw [hb]; rfl
  have form : bodyU8 b 3 = 2 := by rw [hb]; rfl
  have kind : moveKind b = k := by rw [hb]; rcases known with ⟨rfl, rfl⟩ | ⟨rfl, rfl⟩ <;> rfl
  have target : moveTarget b = some (.entry i.toNat) := by simp [moveTarget, present_of byte, offset, form, place]
  refine targetBody known 2 _ _ _ _ hb target ?_
  rcases known with ⟨-, rfl⟩ | ⟨-, rfl⟩ <;> simp [targetOk, kind, target, present_of byte, inside]

/-- A CHASE with no field given. -/
theorem chaseBody (hb : b = [id, 3, 0]) : MoveBody p b (plainRecord p id .chase) := by
  have byte : b.getD 2 0 = 0#8 := by rw [hb]; rfl
  have bits := present_of byte
  have kind : moveKind b = .chase := by rw [hb]; rfl
  have target : moveTarget b = none := by simp [moveTarget, bits]
  have first : b[0]?.getD 0#8 = id := by rw [hb]; rfl
  refine ⟨moveSized_of byte (by rw [hb]; exact Nat.le_refl _) (by rw [hb]; rfl), ?_, fun slot => ?_⟩
  · refine moveFields_of (by rw [hb]; rfl) ?_ ?_ ?_ ?_ ?_
    · simp [directionOk, kind, bits]
    · simp [targetOk, kind, bits]
    · simp [durationOk, kind, bits]
    · simp [variOk, bits]
    · simp [offsetOk, bits]
  · simp [moveRecord, bits, kind, target, plainRecord, first]

/-- A HOLD with its duration. -/
theorem holdBody {n : Nat} (least : 1 ≤ n) (most : n ≤ 3600000) (hb : b = [id, 4, 0b00000100] ++ wordBytes (BitVec.ofNat 32 n)) :
    MoveBody p b (holdRecord p id n) := by
  have byte : b.getD 2 0 = 4#8 := by rw [hb]; rfl
  have bits := present_of byte
  have offset : moveOffset b 2 = 3 := moveOffset_of byte 2
  have number : bodyU32 b 3 = n := bodyU32_of_number (rest := []) (by rw [hb]; rfl) (by omega)
  have kind : moveKind b = .hold := by rw [hb]; rfl
  have target : moveTarget b = none := by simp [moveTarget, bits]
  have first : b[0]?.getD 0#8 = id := by rw [hb]; rfl
  refine ⟨moveSized_of byte (by rw [hb]; exact Nat.le_add_left ..) (by rw [hb]; rfl), ?_, fun slot => ?_⟩
  · refine moveFields_of (by rw [hb]; rfl) ?_ ?_ ?_ ?_ ?_
    · simp [directionOk, kind, bits]
    · simp [targetOk, kind, bits]
    · simp [durationOk, kind, bits, offset, number, inRange, least, most]
    · simp [variOk, bits]
    · simp [offsetOk, bits]
  · simp [moveRecord, bits, kind, target, offset, number, holdRecord, plainRecord, first]

/-- A signed number field of two bytes read back. -/
theorem bodyI16_of_bytes {i : Nat} {v : Int} (lo : -32768 ≤ v) (hi : v < 32768)
    (h : bodyU16 b i = (BitVec.ofInt 8 (v / 256)).toNat * 256 + (BitVec.ofInt 8 v).toNat) : bodyI16 b i = v := by
  have high : (BitVec.ofInt 8 (v / 256)).toNat = (v / 256 % 256).toNat := BitVec.toNat_ofInt ..
  have low : (BitVec.ofInt 8 v).toNat = (v % 256).toNat := BitVec.toNat_ofInt ..
  have number : ((bodyU16 b i : Nat) : Int) = v % 65536 := by
    rw [h, high, low]
    omega
  have wrapped : bodyI16 b i = (v % 65536).bmod 65536 := by rw [bodyI16, BitVec.toInt_ofNat', number]
  rw [wrapped, Int.bmod_def]
  omega

/-- A PLAY with its ceiling, its accel, its tension and its varispeed, each clamped (R69). -/
theorem playBody {c a f : Nat} {v : Int} (hc : c < 4294967296) (ha : a < 65536) (hf : f < 65536) (lo : -32768 ≤ v)
    (hi : v < 32768) (slow : p.creep ≤ p.shuttle) (hb : b = [id, 2, 0b01111000] ++ wordBytes (BitVec.ofNat 32 c) ++
      [BitVec.ofNat 8 (a / 256), BitVec.ofNat 8 a] ++ [BitVec.ofNat 8 (f / 256), BitVec.ofNat 8 f] ++
      [BitVec.ofInt 8 (v / 256), BitVec.ofInt 8 v]) :
    MoveBody p b (playRecord p id c a f v) := by
  have byte : b.getD 2 0 = 0x78#8 := by rw [hb]; rfl
  have bits := present_of byte
  have kind : moveKind b = .play := by rw [hb]; rfl
  have target : moveTarget b = none := by simp [moveTarget, bits]
  have o3 : moveOffset b 3 = 3 := moveOffset_of byte 3
  have o4 : moveOffset b 4 = 7 := moveOffset_of byte 4
  have o5 : moveOffset b 5 = 9 := moveOffset_of byte 5
  have o6 : moveOffset b 6 = 11 := moveOffset_of byte 6
  have ceiling : bodyU32 b 3 = c := bodyU32_of_number (rest := _) (by rw [hb]; rfl) hc
  have accel : bodyU16 b 7 = a := by
    have e : bodyU16 b 7 = (BitVec.ofNat 8 (a / 256)).toNat * 256 + (BitVec.ofNat 8 a).toNat := by rw [hb]; rfl
    rw [e, BitVec.toNat_ofNat, BitVec.toNat_ofNat]
    omega
  have tension : bodyU16 b 9 = f := by
    have e : bodyU16 b 9 = (BitVec.ofNat 8 (f / 256)).toNat * 256 + (BitVec.ofNat 8 f).toNat := by rw [hb]; rfl
    rw [e, BitVec.toNat_ofNat, BitVec.toNat_ofNat]
    omega
  have vari : bodyI16 b 11 = v := by
    have e : bodyU16 b 11 = (BitVec.ofInt 8 (v / 256)).toNat * 256 + (BitVec.ofInt 8 v).toNat := by rw [hb]; rfl
    exact bodyI16_of_bytes lo hi e
  have first : b[0]?.getD 0#8 = id := by rw [hb]; rfl
  refine ⟨moveSized_of byte (by rw [hb]; exact Nat.le_add_left ..) (by rw [hb]; rfl), ?_, fun slot => ?_⟩
  · refine moveFields_of (by rw [hb]; rfl) ?_ ?_ ?_ ?_ ?_
    · simp [directionOk, kind, bits]
    · simp [targetOk, kind, target]
    · simp [durationOk, kind, bits]
    · simp [variOk, kind]
    · simp [offsetOk, bits]
  · simp [moveRecord, bits, kind, target, o3, o4, o5, o6, ceiling, accel, tension, vari, playRecord, plainRecord, clampNat_eq,
      clampInt_eq, slow, first]

end Sys2Proof.Machine
end

section
/-! SUBMIT_MOVE: its checks, the join of the record, and what an activation in STOPPED comes to (O52). -/

namespace Sys2Proof.Machine
variable {s t u : State} {r : Request} {a m : ActiveMove} {q : MoveRecord} {record : Nat → MoveRecord} {i : Nat}
  {res : MoveResult} {target : Option Int}

/-! ### The checks (R67, R68, R71) -/

/-- The checks that follow the body's. -/
theorem submitMove_eq (h : s.Takes 0x12 r t) (g : t.Grants r.link) (body : MoveBody t.profile r.body record) :
    exec (.submitMove r) s = .next ((t.checked
      [check t.motion.state.submits .wrongState, check (decide (t.motion.queue.length < 16)) .queueFull,
        check (!(record (freeSlot t.motion.queue)).needsComp || !(freeIndices t.comps).isEmpty) .noComparator]
      ((t.join (record (freeSlot t.motion.queue))).afterJoin.settle.ok (enc1 (t.motion.queue.length + 1)))).replied
        0x12 r).handOver := by
  have submitted : t.submitted r.body = record (freeSlot t.motion.queue) := body.record _
  show s.request 0x12 r (fun x => x.checked
      [x.owns r.link, x.noReset, check (moveSized r.body) .badLength, checkFields (moveFields x.profile r.body),
       check x.motion.state.submits .wrongState, check (decide (x.motion.queue.length < 16)) .queueFull,
       check (!(x.submitted r.body).needsComp || !(freeIndices x.comps).isEmpty) .noComparator]
      ((x.join (x.submitted r.body)).afterJoin.settle.ok (enc1 (x.motion.queue.length + 1)))) = _
  rw [request_of_takes h, owns_of g.1, noReset_of g.2, body.sized, checkFields_of body.fields, submitted]
  rfl

theorem submitMove_wrongState (h : s.Takes 0x12 r t) (g : t.Grants r.link) (body : MoveBody t.profile r.body record)
    (state : t.motion.state.submits = false) : exec (.submitMove r) s = .next (t.answered 0x12 r .wrongState []) := by
  rw [submitMove_eq h g body, state]
  rfl

theorem submitMove_queueFull (h : s.Takes 0x12 r t) (g : t.Grants r.link) (body : MoveBody t.profile r.body record)
    (state : t.motion.state.submits = true) (full : 16 ≤ t.motion.queue.length) :
    exec (.submitMove r) s = .next (t.answered 0x12 r .queueFull []) := by
  rw [submitMove_eq h g body, state, decide_eq_false (Nat.not_lt.2 full)]
  rfl

theorem submitMove_noComparator (h : s.Takes 0x12 r t) (g : t.Grants r.link) (body : MoveBody t.profile r.body record)
    (state : t.motion.state.submits = true) (room : t.motion.queue.length < 16)
    (needs : (record (freeSlot t.motion.queue)).needsComp = true) (none : freeIndices t.comps = []) :
    exec (.submitMove r) s = .next (t.answered 0x12 r .noComparator []) := by
  rw [submitMove_eq h g body, state, decide_eq_true room, needs, none]
  rfl

theorem submitMove_accepted (h : s.Takes 0x12 r t) (g : t.Grants r.link) (body : MoveBody t.profile r.body record)
    (state : t.motion.state.submits = true) (room : t.motion.queue.length < 16)
    (served : (record (freeSlot t.motion.queue)).needsComp = true → freeIndices t.comps ≠ []) :
    exec (.submitMove r) s = .next ((t.join (record (freeSlot t.motion.queue))).afterJoin.settle.answered 0x12 r .ok
      [BitVec.ofNat 8 (t.motion.queue.length + 1)]) := by
  have comparator : (!(record (freeSlot t.motion.queue)).needsComp || !(freeIndices t.comps).isEmpty) = true := by
    cases needs : (record (freeSlot t.motion.queue)).needsComp with
    | false => rfl
    | true => simpa using served needs
  have data : enc1 (t.motion.queue.length + 1) = [BitVec.ofNat 8 (t.motion.queue.length + 1)] :=
    enc1_natCast (t.motion.queue.length + 1)
  rw [submitMove_eq h g body, state, decide_eq_true room, comparator, data]
  rfl

/-! ### The lowest free comparator and slot (R71, entry 42) -/

theorem freeIndices_head {comps : List (Option Comparator)} (free : comps[i]? = some none)
    (lowest : ∀ j, j < i → comps[j]? ≠ some none) : (freeIndices comps).head? = some i := by
  have inside := (List.getElem?_eq_some_iff.1 free).1
  rw [freeIndices, List.head?_filter, List.find?_range_eq_some]
  refine ⟨by simp [List.getD_eq_getElem?_getD, free], List.mem_range.2 inside, fun j before => ?_⟩
  have taken := lowest j before
  rw [List.getElem?_eq_getElem (by omega)] at taken
  cases e : comps[j]'(by omega) with
  | none => simp [e] at taken
  | some c => simp [List.getD_eq_getElem?_getD, List.getElem?_eq_getElem (show j < comps.length by omega), e]

theorem freeIndices_free {comps : List (Option Comparator)} (h : (freeIndices comps).head? = some i) : comps[i]? = some none := by
  have mem : i ∈ freeIndices comps := List.mem_of_head? h
  rw [freeIndices, List.mem_filter, List.mem_range] at mem
  obtain ⟨inside, free⟩ := mem
  rw [List.getD_eq_getElem?_getD, List.getElem?_eq_getElem inside, Option.getD_some, Option.isNone_iff_eq_none] at free
  rw [List.getElem?_eq_getElem inside, free]

theorem freeIndices_none {comps : List (Option Comparator)} (h : ∀ j : Nat, comps[j]? ≠ some none) : freeIndices comps = [] := by
  cases e : (freeIndices comps).head? with
  | none => exact List.head?_eq_none_iff.1 e
  | some i => exact absurd (freeIndices_free e) (h i)

theorem freeSlot_of {queue : List MoveRecord} {slot : Nat} (inside : slot < 16) (free : ∀ x ∈ queue, x.slot ≠ slot)
    (lowest : ∀ k, k < slot → ∃ x ∈ queue, x.slot = k) : freeSlot queue = slot := by
  have found : (List.range 16).find? (fun i => queue.all fun x => x.slot ≠ i) = some slot := by
    refine List.find?_range_eq_some.2 ⟨by simpa using free, List.mem_range.2 inside, fun j before => ?_⟩
    obtain ⟨x, mem, same⟩ := lowest j before
    simpa using ⟨x, mem, same⟩
  rw [freeSlot, found]
  rfl

/-! ### The join and the activation of a record alone in its queue (R70, R73, R75) -/

/-- What an acceptance in STOPPED reads and the join leaves alone: the clock, the tape, the profile, the arms, the reader and the
links. -/
def State.aside (s : State) : Nat × PositionUnit × Profile × Arm × Arm × Chase × LinkControl × LinkPort × LinkPort :=
  (s.now, s.position, s.profile, s.armL, s.armR, s.chase, s.ctl, s.deck, s.service)

theorem aside_fields (h : t.aside = s.aside) : t.now = s.now ∧ t.position = s.position ∧ t.profile = s.profile ∧ t.armL = s.armL ∧
    t.armR = s.armR ∧ t.chase = s.chase ∧ t.ctl = s.ctl ∧ ∀ l, t.port l = s.port l := by
  simp only [State.aside, Prod.mk.injEq] at h
  obtain ⟨now, position, profile, armL, armR, chase, ctl, deck, service⟩ := h
  exact ⟨now, position, profile, armL, armR, chase, ctl, fun l => by cases l <;> assumption⟩

theorem join_aside (t : State) (q : MoveRecord) : (t.join q).aside = t.aside := by
  unfold State.join
  dsimp only
  split <;> rfl

theorem makeActive_aside (t : State) (q : MoveRecord) (target : Option Int) : (t.makeActive q target).aside = t.aside := by
  unfold State.makeActive
  dsimp only
  split <;> rfl

/-- `w` is `t`, its queue empty, with a record joined and made active with its target's position. -/
structure State.Admits (w t : State) (q : MoveRecord) (target : Option Int) : Prop where
  motion : w.motion = { t.motion with
    queue := [{ q with resolved := target }], accel := q.accel
    active := some ⟨q.id, q.kind, q.dir, target, q.comp, q.accel, q.ceiling, q.tension, q.vari, q.offset, t.now, false, 0⟩ }
  aside  : w.aside = t.aside

/-- The record as it stands in the queue after its acceptance (R71, R72). -/
def State.joined (t : State) (q : MoveRecord) : MoveRecord :=
  { q with comp := if q.needsComp then (freeIndices t.comps).head? else none, resolved := t.resolvedAtOnce q }

theorem join_queue (t : State) (q : MoveRecord) :
    (t.join q).motion = { t.motion with queue := t.motion.queue ++ [t.joined q] } := by
  unfold State.join State.joined
  dsimp only
  split <;> rfl

theorem join_of_plain (plain : q.needsComp = false) :
    t.join q = { t with motion := { t.motion with queue := t.motion.queue ++ [t.joined q] } } := by
  unfold State.join State.joined
  rw [plain]
  rfl

theorem joined_comp_of_plain (plain : q.needsComp = false) : (t.joined q).comp = none := by
  rw [State.joined, plain]
  rfl

theorem joined_comp_of_place (place : q.needsComp = true) : (t.joined q).comp = (freeIndices t.comps).head? := by
  rw [State.joined, place]
  rfl

/-- The position, the profile and the anchor that a record meets when it has joined. -/
theorem join_resolve (x : MoveRecord) : (t.join q).resolve x = t.resolve x := by
  unfold State.join
  dsimp only
  split <;> rfl

theorem makeActive_admits (hq : t.motion.queue = []) (target : Option Int) :
    ((t.join q).makeActive (t.joined q) target).Admits t (t.joined q) target := by
  refine ⟨?_, (makeActive_aside ..).trans (join_aside ..)⟩
  obtain ⟨now, -⟩ := aside_fields (join_aside t q)
  rw [makeActive_motion, now, join_queue, hq]
  rfl

/-- The comparator that a record takes for its target stands ARMED at it; no other changes (R71, R75). -/
theorem makeActive_comps_of_plain (plain : q.needsComp = false) (target : Option Int) :
    ((t.join q).makeActive (t.joined q) target).comps = t.comps := by
  have none := joined_comp_of_plain (t := t) plain
  rw [join_of_plain plain]
  unfold State.makeActive
  rw [none]

theorem join_comps_of_place (place : q.needsComp = true) (lowest : (freeIndices t.comps).head? = some i) :
    ∃ c, (t.join q).comps = t.comps.set i (some c) := by
  unfold State.join
  dsimp only
  rw [place, lowest]
  exact ⟨_, rfl⟩

theorem makeActive_comps_of_place (place : q.needsComp = true) (lowest : (freeIndices t.comps).head? = some i) (x : Int) :
    ((t.join q).makeActive (t.joined q) (some x)).comps =
      t.comps.set i (some ⟨.move, some q.slot, x, if q.sense = .forward then .forward else .reverse, .armed⟩) := by
  have comp : (t.joined q).comp = some i := (joined_comp_of_place place).trans lowest
  obtain ⟨c, joined⟩ := join_comps_of_place place lowest
  unfold State.makeActive
  rw [comp]
  exact (congrArg (fun l => List.set l i _) joined).trans (List.set_set ..)

/-- A comparator that was free is free again when it is given back. -/
theorem set_none_of_free {comps l : List (Option Comparator)} (free : comps[i]? = some none)
    (changed : l = comps ∨ ∃ c, l = comps.set i c) : l.set i none = comps := by
  obtain ⟨inside, was⟩ := List.getElem?_eq_some_iff.1 free
  have same : comps.set i none = comps := by
    conv_lhs => rw [← was]
    exact List.set_getElem_self inside
  rcases changed with rfl | ⟨c, rfl⟩
  · exact same
  · rw [List.set_set, same]

/-- A move that fails or ends at its activation gives its comparator back. -/
theorem makeActive_freed (target : Option Int) :
    (((t.join q).makeActive (t.joined q) target).freeComp (t.joined q).comp).comps = t.comps := by
  cases needs : q.needsComp with
  | false =>
    rw [joined_comp_of_plain needs]
    exact makeActive_comps_of_plain needs target
  | true =>
    rw [joined_comp_of_place needs]
    cases lowest : (freeIndices t.comps).head? with
    | none =>
      have comp : (t.joined q).comp = none := (joined_comp_of_place needs).trans lowest
      have joined : (t.join q).comps = t.comps := by
        unfold State.join
        dsimp only
        rw [needs, lowest]
        rfl
      unfold State.makeActive
      rw [comp]
      exact joined
    | some i =>
      refine set_none_of_free (freeIndices_free lowest) (.inr ?_)
      cases target with
      | none =>
        unfold State.makeActive
        dsimp only
        split
        · rename_i e
          cases e
        · obtain ⟨c, joined⟩ := join_comps_of_place needs lowest
          exact ⟨some c, joined⟩
      | some x => exact ⟨_, makeActive_comps_of_place needs lowest x⟩

/-! ### The outcomes of an activation (R73 to R75, R96) -/

theorem afterJoin_of_first (stopped : s.motion.state = .stopped) (ha : s.motion.active = none) : s.afterJoin = s.activate := by
  have kept : s.supersede = s := by rw [State.supersede, ha]
  unfold State.afterJoin
  rw [kept]
  exact if_pos ⟨stopped, ha⟩

theorem activateNext_of_empty (n : Nat) (hq : s.motion.queue = []) : s.activateNext (n + 1) = s.queueEmptied := by
  unfold State.activateNext
  rw [hq]

theorem activate_fails (hq : s.motion.queue = [q]) (failed : s.resolve q = .error res) :
    s.activate = (s.makeActive q none).failMove res := by
  unfold State.activate State.activateNext
  rw [hq]
  dsimp only
  rw [failed]

theorem activate_ends (hq : s.motion.queue = [q]) (resolved : s.resolve q = .ok target)
    (ends : ((s.makeActive q target).targetPassed q target || (s.makeActive q target).locateDone q target) = true)
    (room : s.motion.completions.length < 16) : s.activate = (s.makeActive q target).failMove .done := by
  have ended : ((s.makeActive q target).endActive .done).motion.queue = [] := by
    rw [endActive_motion_of_single .done (by rw [makeActive_motion]) (by rw [makeActive_motion, hq])
      (by rw [makeActive_motion]; exact room)]
  unfold State.activate State.activateNext
  rw [hq]
  dsimp only
  rw [resolved]
  dsimp only
  rw [if_pos ends]
  exact activateNext_of_empty 0 ended

theorem activate_starts (hq : s.motion.queue = [q]) (resolved : s.resolve q = .ok target)
    (ahead : ((s.makeActive q target).targetPassed q target || (s.makeActive q target).locateDone q target) = false) :
    s.activate = (s.makeActive q target).startMove q target := by
  unfold State.activate State.activateNext
  rw [hq]
  dsimp only
  rw [resolved]
  dsimp only
  rw [ahead]
  simp

/-- What the end of a record at its activation in STOPPED comes to. -/
structure State.EndsAtOnce (u t : State) (q : MoveRecord) (res : MoveResult) : Prop where
  state       : u.motion.state = .stopped
  active      : u.motion.active = none
  queue       : u.motion.queue = []
  locate      : u.motion.locate = none
  completions : u.motion.completions = t.motion.completions ++
    [⟨q.id, res, t.position.pos, t.timeAt t.position.pos, 0, false, 0, false⟩]

theorem settle_failMove {w : State} (admits : w.Admits t q target) (stopped : t.motion.state = .stopped) (calm : t.Calm)
    (room : t.motion.completions.length < 16) (res : MoveResult) : (w.failMove res).settle.EndsAtOnce t q res ∧
      (w.failMove res).settle = (w.endActive res).syncLoop := by
  obtain ⟨motion, aside⟩ := admits
  obtain ⟨now, position, profile, armL, armR, -⟩ := aside_fields aside
  obtain ⟨hl, hr, -⟩ := calm
  have ended := endActive_motion_of_single (s := w) res (by rw [motion]) (by rw [motion]) (by rw [motion]; exact room)
  have back := endActive_backdrop (s := w) res
  have still : (w.endActive res).motion.state = .stopped := by rw [ended, motion]; exact stopped
  have kept : w.failMove res = w.endActive res := by rw [State.failMove, State.queueEmptied, still]
  have settled : (w.failMove res).settle = (w.endActive res).syncLoop := by
    rw [kept]
    exact settle_of_none (react_none_of_rest (.inl still)
      ((congrArg Arm.state ((field_of_backdrop back (·.armL) fun _ => rfl).trans armL)).trans hl)
      ((congrArg Arm.state ((field_of_backdrop back (·.armR) fun _ => rfl).trans armR)).trans hr) (by rw [ended]))
  refine ⟨?_, settled⟩
  rw [settled]
  constructor <;> rw [syncLoop_motion]
  · exact still
  · rw [ended]
  · rw [ended]
  · rw [ended]
  · rw [ended, motion]
    simp only [State.recordFor, State.timeAt, State.frameAt, now, position, profile, Nat.sub_self, Nat.zero_div]
    rfl

/-- STOPPED left for WINDING (R94). -/
theorem enter_winding_of_stopped (stopped : s.motion.state = .stopped) : s.enter .winding = { s with
    faults := { s.faults with supervision := s.supervisionAfter .winding }, watch := none
    motion := { s.motion with
      state := .winding, brakeRelease := true, pinchCmd := false, pinchTimer := none, brakingTimer := none, halt := none
      sizing := none } } := by
  simp only [State.enter, stopped]
  rfl

theorem settle_enter_winding (stopped : s.motion.state = .stopped) (hl : s.armL.state = .normal) (hr : s.armR.state = .normal)
    (ha : s.motion.active = some a) (hk : a.kind ≠ .hold)
    (way : ∀ l, s.motion.locate = some l → l.phase ≠ .settle ∨ s.position.atRest = false) :
    (s.enter .winding).settle = (s.enter .winding).syncLoop := by
  have settled : (s.enter .winding).reactSettled = none := by
    rw [enter_winding_of_stopped stopped]
    unfold State.reactSettled
    dsimp only
    split
    · rename_i l hlo
      rcases way l hlo with phase | moving
      · exact if_neg fun h => phase h.1
      · exact if_neg fun h => by rw [moving] at h; exact absurd h.2.2.1 (by decide)
    · rfl
  rw [settle_of_none]
  rw [enter_winding_of_stopped stopped] at settled ⊢
  refine react_none (reactTension_none hl hr) (reactSizing_none (by simp)) (reactPinch_none rfl) (reactHalting_none (by simp))
    (reactBraking_none (.inl (by simp))) (reactHold_none fun b hb => ?_) settled (reactQueue_none (.inl (by simp)))
  cases ha.symm.trans hb
  exact hk

end Sys2Proof.Machine
end

section
/-! SUBMIT_MOVE accepted in STOPPED into an empty queue, by kind (O52). -/

namespace Sys2Proof.Machine
variable {s t u v w : State} {r : Request} {a m : ActiveMove} {q : MoveRecord} {record : Nat → MoveRecord} {i : Nat}
  {res : MoveResult} {target : Option Int} {x : Int}

/-! ### The start in WINDING (R94) -/

/-- What a move that starts in STOPPED comes to. -/
structure State.RunsFrom (u v : State) : Prop where
  state       : u.motion.state = .winding
  active      : u.motion.active = v.motion.active
  queue       : u.motion.queue = v.motion.queue
  accel       : u.motion.accel = v.motion.accel
  locate      : u.motion.locate = v.motion.locate
  completions : u.motion.completions = v.motion.completions
  comps       : u.comps = v.comps
  chase       : u.chase = v.chase
  ports       : ∀ l, u.port l = v.port l

theorem settle_runs (stopped : v.motion.state = .stopped) (hl : v.armL.state = .normal) (hr : v.armR.state = .normal)
    (ha : v.motion.active = some a) (hk : a.kind ≠ .hold)
    (way : ∀ l, v.motion.locate = some l → l.phase ≠ .settle ∨ v.position.atRest = false) :
    (v.enter .winding).settle.RunsFrom v := by
  rw [settle_enter_winding stopped hl hr ha hk way, enter_winding_of_stopped stopped]
  constructor
  case comps => rw [syncLoop_comps]
  case chase => rw [syncLoop_chase]
  case ports => exact fun l => (syncLoop_port l).trans (by cases l <;> rfl)
  all_goals rw [syncLoop_motion]

theorem goWinding_of_stopped (h : s.motion.state = .stopped) : s.goWinding = s.enter .winding := by rw [State.goWinding, h]

theorem goPlaying_of_stopped (h : s.motion.state = .stopped) : s.goPlaying = s.enter .winding := by rw [State.goPlaying, h]

/-- STOPPED with nothing queued, as an acceptance finds it. -/
structure State.Ready (t : State) : Prop where
  stopped : t.motion.state = .stopped
  queue   : t.motion.queue = []
  active  : t.motion.active = none

theorem submitMove_first (h : s.Takes 0x12 r t) (g : t.Grants r.link) (body : MoveBody t.profile r.body record) (ready : t.Ready)
    (served : (record 0).needsComp = true → freeIndices t.comps ≠ []) :
    exec (.submitMove r) s = .next ((t.join (record 0)).activate.settle.answered 0x12 r .ok [1]) := by
  have slot : freeSlot t.motion.queue = 0 := by rw [ready.queue]; rfl
  have motion := join_queue t (record 0)
  have accepted := submitMove_accepted h g body (by rw [ready.stopped]; rfl) (by rw [ready.queue]; decide)
    (by rw [slot]; exact served)
  rw [slot, afterJoin_of_first (by rw [motion]; exact ready.stopped) (by rw [motion]; exact ready.active),
    ready.queue] at accepted
  exact accepted

theorem join_only (ready : t.Ready) (q : MoveRecord) : (t.join q).motion.queue = [t.joined q] := by
  rw [join_queue, ready.queue]
  rfl

theorem endActive_comps_of_single (res : MoveResult) (ha : s.motion.active = some a) (hk : a.kind ≠ .chase)
    (hq : s.motion.queue = [q]) (room : s.motion.completions.length < 16) :
    (s.endActive res).comps = (s.freeComp q.comp).comps := by
  rw [endActive_of_single res ha hk hq room]

/-- A record that fails or is over at its activation leaves STOPPED, its record alone (R74, R75, R96). -/
theorem submitMove_atOnce (h : s.Takes 0x12 r t) (g : t.Grants r.link) (body : MoveBody t.profile r.body record) (ready : t.Ready)
    (served : (record 0).needsComp = true → freeIndices t.comps ≠ []) (calm : t.Calm) (room : t.motion.completions.length < 16)
    (ends : (t.join (record 0)).activate = ((t.join (record 0)).makeActive (t.joined (record 0)) target).failMove res) :
    ∃ u : State, exec (.submitMove r) s = .next (u.answered 0x12 r .ok [1]) ∧ u.EndsAtOnce t (record 0) res ∧
      ((record 0).kind ≠ .chase → u.comps = t.comps) ∧
      u = (((t.join (record 0)).makeActive (t.joined (record 0)) target).endActive res).syncLoop := by
  have admits := makeActive_admits (q := record 0) ready.queue target
  obtain ⟨outcome, settled⟩ := settle_failMove admits ready.stopped calm room res
  have e := submitMove_first h g body ready served
  rw [ends] at e
  refine ⟨_, e, { outcome with completions := outcome.completions }, fun kind => ?_, settled⟩
  have motion := admits.motion
  rw [settled, syncLoop_comps,
    endActive_comps_of_single res (by rw [motion]) kind (by rw [motion]) (by rw [motion]; exact room)]
  exact makeActive_freed target

/-- A record whose target cannot be resolved (R74). -/
theorem activate_unresolved (ready : t.Ready) (failed : t.resolve (t.joined q) = .error res) :
    (t.join q).activate = ((t.join q).makeActive (t.joined q) none).failMove res :=
  activate_fails (join_only ready q) ((join_resolve _).trans failed)

/-- What the start of a move meets: the tape, the profile and the clock of the acceptance. -/
theorem targetPassed_of (h : w.aside = t.aside) : w.targetPassed q target = t.targetPassed q target := by
  obtain ⟨-, position, -⟩ := aside_fields h
  unfold State.targetPassed
  rw [position]

theorem locateDone_of (h : w.aside = t.aside) : w.locateDone q target = t.locateDone q target := by
  obtain ⟨-, position, profile, -⟩ := aside_fields h
  unfold State.locateDone
  rw [position, profile]

/-- A record that is over at its activation (R75, R98). -/
theorem activate_over (ready : t.Ready) (room : t.motion.completions.length < 16) (resolved : t.resolve (t.joined q) = .ok target)
    (ends : (t.targetPassed (t.joined q) target || t.locateDone (t.joined q) target) = true) :
    (t.join q).activate = ((t.join q).makeActive (t.joined q) target).failMove .done := by
  have aside := (makeActive_admits (q := q) ready.queue target).aside
  exact activate_ends (join_only ready q) ((join_resolve _).trans resolved)
    (by rw [targetPassed_of aside, locateDone_of aside]; exact ends) (by rw [join_queue]; exact room)

/-- A record that starts (R94). -/
theorem activate_start (ready : t.Ready) (resolved : t.resolve (t.joined q) = .ok target)
    (ahead : (t.targetPassed (t.joined q) target || t.locateDone (t.joined q) target) = false) :
    (t.join q).activate = ((t.join q).makeActive (t.joined q) target).startMove (t.joined q) target := by
  have aside := (makeActive_admits (q := q) ready.queue target).aside
  exact activate_starts (join_only ready q) ((join_resolve _).trans resolved)
    (by rw [targetPassed_of aside, locateDone_of aside]; exact ahead)

/-- A record that starts on its way to WINDING, from a state that its start prepares. -/
theorem submitMove_starts (h : s.Takes 0x12 r t) (g : t.Grants r.link) (body : MoveBody t.profile r.body record) (ready : t.Ready)
    (served : (record 0).needsComp = true → freeIndices t.comps ≠ []) (calm : t.Calm)
    (started : (t.join (record 0)).activate = v.enter .winding) (motion : v.motion = { w.motion with locate := v.motion.locate })
    (armL : v.armL = t.armL) (armR : v.armR = t.armR) (position : v.position = t.position)
    (admits : w.Admits t (t.joined (record 0)) target) (hk : (record 0).kind ≠ .hold)
    (way : ∀ l, v.motion.locate = some l → l.phase ≠ .settle ∨ t.position.atRest = false) :
    ∃ u : State, exec (.submitMove r) s = .next (u.answered 0x12 r .ok [1]) ∧ u.RunsFrom v := by
  have e := submitMove_first h g body ready served
  rw [started] at e
  obtain ⟨hl, hr, -⟩ := calm
  have admitted := admits.motion
  refine ⟨_, e, settle_runs (by rw [motion, admitted]; exact ready.stopped) (by rw [armL]; exact hl) (by rw [armR]; exact hr)
    (a := ⟨(record 0).id, (record 0).kind, (record 0).dir, target, (t.joined (record 0)).comp, (record 0).accel,
      (record 0).ceiling, (record 0).tension, (record 0).vari, (record 0).offset, t.now, false, 0⟩)
    (by rw [motion, admitted]; rfl) hk ?_⟩
  rw [position]
  exact way

/-! ### A WIND to a POSITION (R71, R75) -/

theorem resolve_position (h : q.target = some (.position x)) : t.resolve (t.joined q) = .ok (some x) := by
  have target : (t.joined q).target = some (.position x) := h
  rw [State.resolve, target]

theorem submitMove_wind {d : Direction} {id : Byte} (h : s.Takes 0x12 r t) (g : t.Grants r.link)
    (body : MoveBody t.profile r.body (windRecord t.profile id d x)) (free : (freeIndices t.comps).head? = some i)
    (ready : t.Ready) (hlo : t.motion.locate = none) (calm : t.Calm) :
    (aheadIn d t.position.pos x = true → ∃ u : State, exec (.submitMove r) s = .next (u.answered 0x12 r .ok [1]) ∧
      u.motion.state = .winding ∧
      u.motion.active = some ⟨id, .wind, some d, some x, some i, t.profile.accel, t.profile.shuttle, t.profile.windTension, 0, 0,
        t.now, false, 0⟩ ∧
      u.motion.queue.map (·.id) = [id] ∧ u.motion.accel = t.profile.accel ∧ u.motion.completions = t.motion.completions ∧
      u.comps = t.comps.set i (some ⟨.move, some 0, x, if d = .forward then .forward else .reverse, .armed⟩)) ∧
    (aheadIn d t.position.pos x = false → t.motion.completions.length < 16 →
      ∃ u : State, exec (.submitMove r) s = .next (u.answered 0x12 r .ok [1]) ∧
        u.EndsAtOnce t (windRecord t.profile id d x 0) .done ∧ u.comps = t.comps) := by
  generalize hq : windRecord t.profile id d x 0 = q
  have resolved : t.resolve (t.joined q) = .ok (some x) := resolve_position (by rw [← hq]; rfl)
  have served : (windRecord t.profile id d x 0).needsComp = true → freeIndices t.comps ≠ [] := fun _ none => by
    rw [none] at free
    cases free
  have place : q.needsComp = true := by rw [← hq]; rfl
  have passed : (t.targetPassed (t.joined q) (some x) || t.locateDone (t.joined q) (some x)) = !aheadIn d t.position.pos x := by
    subst hq
    exact Bool.or_false _
  refine ⟨fun ahead => ?_, fun behind room => ?_⟩
  · have started := activate_start ready resolved (by rw [passed, ahead]; rfl)
    have admits := makeActive_admits (q := q) ready.queue (some x)
    have comps := makeActive_comps_of_place place free x
    have comp : (t.joined q).comp = some i := (joined_comp_of_place place).trans free
    obtain ⟨-, position, -, armL, armR, -⟩ := aside_fields admits.aside
    have motion := admits.motion
    generalize (t.join q).makeActive (t.joined q) (some x) = w at *
    subst hq
    have going : w.startMove (t.joined (windRecord t.profile id d x 0)) (some x) = w.enter .winding :=
      goWinding_of_stopped (by rw [motion]; exact ready.stopped)
    obtain ⟨u, e, runs⟩ := submitMove_starts h g body ready served calm (started.trans going) rfl armL armR position admits nofun
      (by rw [motion]; intro l hl; cases hlo.symm.trans hl)
    refine ⟨u, e, runs.state, ?_, ?_, ?_, ?_, ?_⟩
    · rw [runs.active, motion, comp]
      rfl
    · rw [runs.queue, motion]
      rfl
    · rw [runs.accel, motion]
      rfl
    · rw [runs.completions, motion]
    · rw [runs.comps, comps]
      rfl
  · subst hq
    obtain ⟨u, e, ends, comps, -⟩ := submitMove_atOnce h g body ready served calm room
      (activate_over ready room resolved (by rw [passed, behind]; rfl))
    exact ⟨u, e, ends, comps nofun⟩

/-! ### A LOCATE to a POSITION (R98) -/

/-- The locate that a LOCATE begins with the profile's accel (R98). -/
theorem locateTo_eq {b dist : Nat} (hd : dist = (t.position.pos - x).natAbs)
    (hb : b = (t.profile.creep ^ 2 + (2 * t.profile.accel * t.profile.cRoll - 1)) / (2 * t.profile.accel * t.profile.cRoll)) :
    t.locateTo t.profile.accel x = ⟨if dist ≤ t.profile.tolerance then .settle else if dist ≤ b then .creep else .run,
      if t.position.pos < x then .forward else if x < t.position.pos then .reverse
        else if 0 ≤ t.motion.vRef then .forward else .reverse, x⟩ := by
  have braking : brakingDistance t.profile t.profile.creep t.profile.accel = b := by rw [hb, brakingDistance, ceilDiv, pow_two]
  rw [State.locateTo, locatePhase, braking, hd]

/-- What a locate is begun from. -/
theorem locateTo_of {accel : Nat} (h : w.aside = t.aside) (vRef : w.motion.vRef = t.motion.vRef) :
    w.locateTo accel x = t.locateTo accel x := by
  obtain ⟨-, position, profile, -⟩ := aside_fields h
  rw [State.locateTo, State.locateTo, position, profile, vRef]

theorem submitMove_locate {id : Byte} (h : s.Takes 0x12 r t) (g : t.Grants r.link)
    (body : MoveBody t.profile r.body (targetRecord t.profile id .locate (.position x))) (ready : t.Ready) (calm : t.Calm) :
    ((t.position.pos - x).natAbs ≤ t.profile.tolerance → t.position.atRest = true → t.motion.completions.length < 16 →
      ∃ u : State, exec (.submitMove r) s = .next (u.answered 0x12 r .ok [1]) ∧
        u.EndsAtOnce t (targetRecord t.profile id .locate (.position x) 0) .done ∧ u.comps = t.comps) ∧
    (t.profile.tolerance < (t.position.pos - x).natAbs ∨ t.position.atRest = false →
      ∃ u : State, exec (.submitMove r) s = .next (u.answered 0x12 r .ok [1]) ∧ u.motion.state = .winding ∧
        u.motion.locate = some (t.locateTo t.profile.accel x) ∧ u.motion.queue.map (·.id) = [id] ∧ u.comps = t.comps ∧
        u.motion.completions = t.motion.completions ∧ u.motion.active = some ⟨id, .locate, none, some x, none,
          t.profile.accel, t.profile.shuttle, t.profile.windTension, 0, 0, t.now, false, 0⟩) := by
  have resolved : t.resolve (t.joined (targetRecord t.profile id .locate (.position x) 0)) = .ok (some x) := resolve_position rfl
  have outcome : (t.targetPassed (t.joined (targetRecord t.profile id .locate (.position x) 0)) (some x) ||
      t.locateDone (t.joined (targetRecord t.profile id .locate (.position x) 0)) (some x)) =
      (decide ((t.position.pos - x).natAbs ≤ t.profile.tolerance) && t.position.atRest) := rfl
  refine ⟨fun near rest room => ?_, fun away => ?_⟩
  · obtain ⟨u, e, ends, comps, -⟩ := submitMove_atOnce h g body ready nofun calm room
      (activate_over ready room resolved (by rw [outcome, decide_eq_true near, rest]; rfl))
    exact ⟨u, e, ends, comps nofun⟩
  · have started := activate_start ready resolved (by
      rw [outcome]
      rcases away with far | moving
      · rw [decide_eq_false (Nat.not_le.2 far)]
        rfl
      · rw [moving]
        exact Bool.and_false _)
    have admits := makeActive_admits (q := targetRecord t.profile id .locate (.position x) 0) ready.queue (some x)
    have comps := makeActive_comps_of_plain (t := t) (q := targetRecord t.profile id .locate (.position x) 0) rfl (some x)
    obtain ⟨-, position, -, armL, armR, -⟩ := aside_fields admits.aside
    have motion := admits.motion
    generalize (t.join (targetRecord t.profile id .locate (.position x) 0)).makeActive
      (t.joined (targetRecord t.profile id .locate (.position x) 0)) (some x) = w at *
    have begun : w.locateTo t.profile.accel x = t.locateTo t.profile.accel x := locateTo_of admits.aside (by rw [motion])
    have going : w.startMove (t.joined (targetRecord t.profile id .locate (.position x) 0)) (some x) =
        (w.withLocate (w.locateTo t.profile.accel x)).enter .winding :=
      goWinding_of_stopped (s := w.withLocate (w.locateTo t.profile.accel x)) ((congrArg Motion.state motion).trans ready.stopped)
    obtain ⟨u, e, runs⟩ := submitMove_starts (v := w.withLocate (w.locateTo t.profile.accel x)) h g body ready nofun calm
      (started.trans going) rfl armL armR position admits nofun (by
        intro l hl
        cases Option.some.inj hl
        rw [begun]
        refine away.imp_left fun far => ?_
        rw [State.locateTo, locatePhase, if_neg (Nat.not_le.2 far)]
        split <;> nofun)
    refine ⟨u, e, runs.state, ?_, ?_, ?_, ?_, ?_⟩
    · rw [runs.locate, ← begun]
      rfl
    · rw [runs.queue]
      exact (congrArg (fun x => x.queue.map (·.id)) motion).trans rfl
    · rw [runs.comps]
      exact comps
    · rw [runs.completions]
      exact (congrArg Motion.completions motion).trans rfl
    · rw [runs.active]
      exact (congrArg Motion.active motion).trans rfl

/-! ### A PLAY with its optional fields (R69, R94) -/

theorem submitMove_play {id : Byte} {c a f : Nat} {y : Int} (h : s.Takes 0x12 r t) (g : t.Grants r.link)
    (body : MoveBody t.profile r.body (playRecord t.profile id c a f y)) (ready : t.Ready) (hlo : t.motion.locate = none)
    (calm : t.Calm) :
    ∃ u : State, exec (.submitMove r) s = .next (u.answered 0x12 r .ok [1]) ∧ u.motion.state = .winding ∧ u.comps = t.comps ∧
      u.motion.active = some ⟨id, .play, none, none, none, max 100 (min 8000 a) / 4 * 4,
        max t.profile.creep (min t.profile.shuttle c), max 50 (min 1500 f), max (-1250) (min 1250 y), 0, t.now, false, 0⟩ := by
  have started := activate_start (q := playRecord t.profile id c a f y 0) (target := none) ready rfl rfl
  have admits := makeActive_admits (q := playRecord t.profile id c a f y 0) ready.queue none
  have comps := makeActive_comps_of_plain (t := t) (q := playRecord t.profile id c a f y 0) rfl none
  obtain ⟨-, position, -, armL, armR, -⟩ := aside_fields admits.aside
  have motion := admits.motion
  generalize (t.join (playRecord t.profile id c a f y 0)).makeActive (t.joined (playRecord t.profile id c a f y 0)) none = w at *
  have going : w.startMove (t.joined (playRecord t.profile id c a f y 0)) none = w.enter .winding :=
    goPlaying_of_stopped (by rw [motion]; exact ready.stopped)
  obtain ⟨u, e, runs⟩ := submitMove_starts h g body ready nofun calm (started.trans going) rfl armL armR position admits nofun
    (by rw [motion]; intro l hl; cases hlo.symm.trans hl)
  refine ⟨u, e, runs.state, ?_, ?_⟩
  · rw [runs.comps, comps]
  · rw [runs.active, motion]
    rfl

end Sys2Proof.Machine
end

section
/-! SUBMIT_MOVE of a CHASE (R133, R134), of a move whose target cannot be resolved (R74), and of a HOLD behind others (R79). -/

namespace Sys2Proof.Machine
variable {s t u v w : State} {r : Request} {a m : ActiveMove} {q : MoveRecord} {i : Nat} {res : MoveResult} {id : Byte}
  {c : ChaseState} {k : SeekCtx} {fr : Nat}

/-! ### Targets that cannot be resolved (R74) -/

theorem submitMove_unresolved {kind : MoveKind} {y : MoveTarget} (h : s.Takes 0x12 r t) (g : t.Grants r.link)
    (body : MoveBody t.profile r.body (targetRecord t.profile id kind y)) (ready : t.Ready) (calm : t.Calm)
    (hk : kind = .locate ∨ kind = .play ∧ freeIndices t.comps ≠ []) (room : t.motion.completions.length < 16)
    (failed : t.resolve (t.joined (targetRecord t.profile id kind y 0)) = .error res) :
    ∃ u : State, exec (.submitMove r) s = .next (u.answered 0x12 r .ok [1]) ∧
      u.EndsAtOnce t (targetRecord t.profile id kind y 0) res ∧ u.comps = t.comps := by
  have served : (targetRecord t.profile id kind y 0).needsComp = true → freeIndices t.comps ≠ [] := by
    rcases hk with rfl | ⟨-, free⟩
    · nofun
    · exact fun _ => free
  obtain ⟨u, e, ends, comps, -⟩ := submitMove_atOnce h g body ready served calm room (activate_unresolved ready failed)
  refine ⟨u, e, ends, comps ?_⟩
  rcases hk with rfl | ⟨rfl, -⟩ <;> nofun

theorem resolve_timecode {x : BcdTime} (h : q.target = some (.timecode x)) (unanchored : t.position.anchor = none) :
    t.resolve (t.joined q) = .error .noTimecode := by
  have place (n : Nat) : t.framePos n = none := by rw [State.framePos, unanchored]; rfl
  have nowhere : (timecodeFrames t.profile x).bind t.framePos = none := by
    cases timecodeFrames t.profile x with
    | none => rfl
    | some n => exact place n
  have target : (t.joined q).target = some (.timecode x) := h
  have resolved : (t.joined q).resolved = none := by
    show t.resolvedAtOnce q = none
    rw [State.resolvedAtOnce, h]
    exact nowhere
  rw [State.resolve, target]
  dsimp only
  rw [resolved]
  dsimp only
  rw [nowhere]

theorem resolve_entry {n : Nat} (h : q.target = some (.entry n)) (empty : t.position.locate[n]? = some none) :
    t.resolve (t.joined q) = .error .emptyEntry := by
  have target : (t.joined q).target = some (.entry n) := h
  rw [State.resolve, target]
  dsimp only
  rw [List.getD_eq_getElem?_getD, empty]
  rfl

theorem freeIndices_ne_nil {comps : List (Option Comparator)} (free : comps[i]? = some none) : freeIndices comps ≠ [] := by
  have inside := (List.getElem?_eq_some_iff.1 free).1
  have mem : i ∈ freeIndices comps := List.mem_filter.2 ⟨List.mem_range.2 inside, by simp [List.getD_eq_getElem?_getD, free]⟩
  exact List.ne_nil_of_mem mem

/-! ### The start of a CHASE (R133) -/

/-- A CHASE's first state, its phase error read (R131, R133). -/
def State.beginsChase (w : State) (c : ChaseState) : State :=
  State.setChase { w with chase := { w.chase with e := w.startError } } c

theorem beginsChase_backdrop (c : ChaseState) : (w.beginsChase c).backdrop = w.backdrop := (setChase_backdrop c).trans rfl

theorem beginsChase_motion (c : ChaseState) : (w.beginsChase c).motion = w.motion := setChase_motion c

theorem beginsChase_eq (inactive : w.chase.state = .inactive) (other : c ≠ .inactive) : w.beginsChase c = State.report
    { w with chase := { w.chase with
      e := w.startError, state := c, c := if c = .inactive ∨ c = .seek ∨ c = .lost then 0 else w.chase.c } } .chaseState c.num :=
  if_neg (inactive.trans_ne (Ne.symm other))

theorem beginsChase_chase (inactive : w.chase.state = .inactive) (other : c ≠ .inactive) :
    (w.beginsChase c).chase = { w.chase with
      e := w.startError, state := c, c := if c = .inactive ∨ c = .seek ∨ c = .lost then 0 else w.chase.c } := by
  rw [beginsChase_eq inactive other]
  exact State.reportTo_chase ..

theorem beginsChase_reported (inactive : w.chase.state = .inactive) (other : c ≠ .inactive) :
    (w.beginsChase c).Reported w .chaseState c.num := by
  rw [beginsChase_eq inactive other]
  exact report_reported (s := { w with chase := _ }) .chaseState c.num

/-- The start of a CHASE by what it finds (R133). -/
theorem startChase_eq (w : State) : w.startChase = (match w.chase.present, w.chase.lastFrame with
    | true, some fr =>
      match w.position.anchor with
      | none => w.failMove .noTimecode
      | some _ =>
        match w.startError with
        | none => (w.beginsChase .seek).beginSeek fr
        | some x =>
          if x.natAbs ≤ w.profile.reseek * 100 then (w.beginsChase .approach).goPlaying
          else (w.beginsChase .seek).beginSeek fr
    | _, _ => (w.beginsChase .lost).goPlaying) := rfl

theorem startChase_of_absent (h : w.chase.present = false) : w.startChase = (w.beginsChase .lost).goPlaying := by
  rw [startChase_eq, h]

theorem startChase_of_unanchored (h : w.chase.present = true) (hf : w.chase.lastFrame = some fr)
    (none : w.position.anchor = none) : w.startChase = w.failMove .noTimecode := by
  rw [startChase_eq, h, hf, none]

theorem startChase_of_near {x : Int} {y : Anchor} (h : w.chase.present = true) (hf : w.chase.lastFrame = some fr)
    (anchored : w.position.anchor = some y) (he : w.startError = some x) (near : x.natAbs ≤ w.profile.reseek * 100) :
    w.startChase = (w.beginsChase .approach).goPlaying := by
  rw [startChase_eq, h, hf, anchored, he]
  exact if_pos near

theorem startChase_of_far {y : Anchor} (h : w.chase.present = true) (hf : w.chase.lastFrame = some fr)
    (anchored : w.position.anchor = some y) (far : ∀ x, w.startError = some x → w.profile.reseek * 100 < x.natAbs) :
    w.startChase = (w.beginsChase .seek).beginSeek fr := by
  rw [startChase_eq, h, hf, anchored]
  cases he : w.startError with
  | none => rfl
  | some x => exact if_neg (Nat.not_le.2 (far x he))

/-- The phase error of a CHASE without an offset (R131). -/
theorem startError_of {day : Int} (hf : w.chase.lastFrame = some fr) (offset : w.chaseOffset = 0)
    (hd : day = 86400 * w.profile.rate) :
    w.startError = w.chase.lastSub.map fun x => (fr % day * 100 - x + 50 * day) % (100 * day) - 50 * day := by
  have frames : ((dayFrames w.profile : Nat) : Int) = day := by rw [hd, dayFrames]; push_cast; rfl
  unfold State.startError
  rw [hf]
  cases w.chase.lastSub with
  | none => rfl
  | some x =>
    have half : 100 * day / 2 = 50 * day := by omega
    simp only [Option.map_some, phaseError, wrapHalf, offset, frames, half, Int.add_zero]

/-! ### A CHASE at its activation (R133, R134) -/

/-- The CHASE that a body without optional fields brings, active. -/
def plainChase (t : State) (id : Byte) : ActiveMove :=
  ⟨id, .chase, none, none, none, t.profile.accel, t.profile.shuttle, t.profile.playTension, 0, 0, t.now, false, 0⟩

/-- What the CHASE that has joined and become active finds. -/
structure State.MeetsChase (w t : State) (id : Byte) : Prop where
  admits : w.Admits t (t.joined (plainRecord t.profile id .chase 0)) none
  active : w.motion.active = some (plainChase t id)
  offset : w.chaseOffset = 0
  start  : (t.join (plainRecord t.profile id .chase 0)).activate = w.startChase
  made   : w = (t.join (plainRecord t.profile id .chase 0)).makeActive (t.joined (plainRecord t.profile id .chase 0)) none

theorem meetsChase (ready : t.Ready) (id : Byte) : ∃ w : State, w.MeetsChase t id := by
  have admits := makeActive_admits (q := plainRecord t.profile id .chase 0) ready.queue none
  have active : ((t.join (plainRecord t.profile id .chase 0)).makeActive (t.joined (plainRecord t.profile id .chase 0)) none
      ).motion.active = some (plainChase t id) := by
    rw [admits.motion]
    rfl
  refine ⟨_, admits, active, ?_, activate_start (target := none) ready rfl rfl, rfl⟩
  rw [State.chaseOffset, active]
  rfl

/-- A CHASE on its way to WINDING from a state that its start has prepared. -/
theorem submitMove_chase (h : s.Takes 0x12 r t) (g : t.Grants r.link)
    (body : MoveBody t.profile r.body (plainRecord t.profile id .chase)) (ready : t.Ready) (calm : t.Calm)
    (meets : w.MeetsChase t id) (started : w.startChase = v.enter .winding)
    (motion : v.motion = { w.motion with locate := v.motion.locate }) (back : v.backdrop = w.backdrop)
    (way : ∀ l, v.motion.locate = some l → l.phase ≠ .settle) :
    ∃ u : State, exec (.submitMove r) s = .next (u.answered 0x12 r .ok [1]) ∧ u.motion.state = .winding ∧
      u.motion.active = some (plainChase t id) ∧ u.motion.locate = v.motion.locate ∧ u.chase = v.chase ∧
      ∀ l, u.port l = v.port l := by
  obtain ⟨-, position, -, armL, armR, -⟩ := aside_fields meets.admits.aside
  obtain ⟨u, e, runs⟩ := submitMove_starts h g body ready nofun calm (meets.start.trans started) motion
    ((field_of_backdrop back (·.armL) fun _ => rfl).trans armL) ((field_of_backdrop back (·.armR) fun _ => rfl).trans armR)
    ((field_of_backdrop back (·.position) fun _ => rfl).trans position) meets.admits nofun fun l hl => .inl (way l hl)
  refine ⟨u, e, runs.state, ?_, runs.locate, runs.chase, runs.ports⟩
  rw [runs.active, motion]
  exact meets.active

/-- A report of the state that was admitted is one of the state that took the request. -/
theorem reported_of_aside {src : Source} {n : Int} (h : w.aside = t.aside) (reported : v.Reported w src n)
    (ports : ∀ l, u.port l = v.port l) : u.Reported t src n := by
  obtain ⟨-, position, -, -, -, -, ctl, links⟩ := aside_fields h
  have notice : w.noticeLink = t.noticeLink := by rw [State.noticeLink, State.noticeLink, ctl]
  rw [State.Reported, ports, ← notice, reported, links, position]

/-- A CHASE that starts toward PLAYING (R94, R133). -/
theorem submitMove_chase_plays (h : s.Takes 0x12 r t) (g : t.Grants r.link)
    (body : MoveBody t.profile r.body (plainRecord t.profile id .chase)) (ready : t.Ready) (hlo : t.motion.locate = none)
    (calm : t.Calm) (inactive : t.chase.state = .inactive) (meets : w.MeetsChase t id) (other : c ≠ .inactive)
    (started : w.startChase = (w.beginsChase c).goPlaying) :
    ∃ u : State, exec (.submitMove r) s = .next (u.answered 0x12 r .ok [1]) ∧ u.motion.state = .winding ∧
      u.motion.active = some (plainChase t id) ∧ u.motion.locate = none ∧ u.chase = { t.chase with
        e := w.startError, state := c, c := if c = .inactive ∨ c = .seek ∨ c = .lost then 0 else t.chase.c } ∧
      u.Reported t .chaseState c.num := by
  have admitted := meets.admits.motion
  obtain ⟨-, -, -, -, -, chase, -⟩ := aside_fields meets.admits.aside
  have motion : (w.beginsChase c).motion = w.motion := beginsChase_motion c
  have unlocated : (w.beginsChase c).motion.locate = none := by rw [motion, admitted]; exact hlo
  have going : (w.beginsChase c).goPlaying = (w.beginsChase c).enter .winding :=
    goPlaying_of_stopped (by rw [motion, admitted]; exact ready.stopped)
  obtain ⟨u, e, state, active, locate, after, ports⟩ := submitMove_chase h g body ready calm meets (started.trans going)
    (by rw [motion]) (beginsChase_backdrop c) (by rw [unlocated]; nofun)
  have still : w.chase.state = .inactive := by rw [chase, inactive]
  refine ⟨u, e, state, active, locate.trans unlocated, ?_,
    reported_of_aside meets.admits.aside (beginsChase_reported still other) ports⟩
  rw [after, beginsChase_chase still other, chase]

theorem endActive_chase (res : MoveResult) (ha : s.motion.active = some a) (hk : a.kind = .chase) (hq : s.motion.queue = [q]) :
    (s.endActive res).chase.state = .inactive := by
  have ended : s.endChase.chase.state = .inactive := by
    unfold State.endChase State.setChase
    split
    · assumption
    · exact (congrArg Chase.state (State.reportTo_chase ..)).trans rfl
  have freed (v : State) (i : Option Nat) : (v.freeComp i).chase = v.chase := by cases i <;> rfl
  unfold State.endActive
  rw [ha, hq]
  simp only [hk, if_true]
  split <;> exact (congrArg Chase.state (freed ..)).trans ended

theorem submitMove_chase_fails (h : s.Takes 0x12 r t) (g : t.Grants r.link)
    (body : MoveBody t.profile r.body (plainRecord t.profile id .chase)) (ready : t.Ready) (calm : t.Calm)
    (room : t.motion.completions.length < 16) (meets : w.MeetsChase t id) (failed : w.startChase = w.failMove res) :
    ∃ u : State, exec (.submitMove r) s = .next (u.answered 0x12 r .ok [1]) ∧
      u.EndsAtOnce t (plainRecord t.profile id .chase 0) res ∧ u.chase.state = .inactive := by
  have started := meets.start.trans failed
  have motion := meets.admits.motion
  have active := meets.active
  rw [meets.made] at started motion active
  obtain ⟨u, e, ends, -, shape⟩ := submitMove_atOnce h g body ready nofun calm room started
  refine ⟨u, e, ends, ?_⟩
  rw [shape, syncLoop_chase]
  exact endActive_chase res active rfl (by rw [motion])

/-! ### A CHASE that seeks (R134) -/

/-- The seek in hand, the locate toward its target begun. -/
def State.sought (v : State) (k : SeekCtx) : State :=
  let s1 := v.onActive (fun a => { a with reversals := 0 })
  { s1 with
    chase := { s1.chase with seek := some k }
    motion := { s1.motion with locate := some (s1.locateTo s1.accelInForce k.targetPos) } }

/-- A seek begun from a reference frame, through an anchor (R134). -/
structure SeekBegun (k : SeekCtx) (p : Profile) (fr : Nat) (y : Anchor) (day : Int) : Prop where
  frames     : day = 86400 * p.rate
  rendezvous : (k.rendezvous : Int) = (fr + 2 * p.preroll) % day
  frame      : (k.targetFrame : Int) = (k.rendezvous - p.preroll) % day
  parked     : k.parked = false
  place      : k.targetPos = max (-2000000000) (min 2000000000 (y.pos +
    ((k.targetFrame - y.frame + day / 2) % day - day / 2) * 1000 * p.vPlay / (p.rate * p.cRoll)))

theorem beginSeek_of_anchor {day : Int} {y : Anchor} (anchored : v.position.anchor = some y) (offset : v.chaseOffset = 0)
    (begun : SeekBegun k v.profile fr y day) : v.beginSeek fr = (v.sought k).goWinding := by
  obtain ⟨hd, rendezvous, frame, parked, place⟩ := begun
  have frames : ((dayFrames v.profile : Nat) : Int) = day := by rw [hd, dayFrames]; push_cast; rfl
  have rv : (fr + 2 * v.profile.preroll) % dayFrames v.profile = k.rendezvous := by
    have cast : (((fr + 2 * v.profile.preroll) % dayFrames v.profile : Nat) : Int) = k.rendezvous := by
      rw [rendezvous, ← frames]
      push_cast
      rfl
    exact_mod_cast cast
  have tf : (((k.rendezvous : Int) + v.chaseOffset - v.profile.preroll) % dayFrames v.profile).toNat = k.targetFrame := by
    rw [offset, Int.add_zero, frames, ← frame, Int.toNat_natCast]
  have target : v.framePos k.targetFrame = some k.targetPos := by
    rw [State.framePos, anchored, place, Option.map_some, posOfFrame, clampInt_eq _ _ _ (by decide), wrapHalf, frames]
    rfl
  unfold State.beginSeek
  dsimp only
  rw [rv, tf, target]
  obtain ⟨rendezvous, targetFrame, targetPos, p⟩ := k
  cases parked
  rfl

theorem locateTo_way {accel : Nat} {x : Int} (far : s.profile.tolerance < (s.position.pos - x).natAbs) :
    (s.locateTo accel x).phase ≠ .settle ∧ (s.locateTo accel x).target = x ∧
      (s.locateTo accel x).dir = if s.position.pos < x then .forward else .reverse := by
  refine ⟨?_, rfl, ?_⟩
  · rw [State.locateTo, locatePhase, if_neg (Nat.not_le.2 far)]
    split <;> nofun
  · rw [State.locateTo]
    dsimp only
    split
    · rfl
    · exact if_pos (by omega)

theorem submitMove_chase_seeks {y : Anchor} {day : Int} (h : s.Takes 0x12 r t) (g : t.Grants r.link)
    (body : MoveBody t.profile r.body (plainRecord t.profile id .chase)) (ready : t.Ready) (calm : t.Calm)
    (inactive : t.chase.state = .inactive) (meets : w.MeetsChase t id)
    (started : w.startChase = (w.beginsChase .seek).beginSeek fr) (anchored : t.position.anchor = some y)
    (begun : SeekBegun k t.profile fr y day) (far : t.profile.tolerance < (t.position.pos - k.targetPos).natAbs) :
    ∃ (u : State) (l : LocateCtx), exec (.submitMove r) s = .next (u.answered 0x12 r .ok [1]) ∧ u.motion.state = .winding ∧
      u.motion.active = some (plainChase t id) ∧ u.chase.state = .seek ∧ u.chase.seek = some k ∧ u.chase.c = 0 ∧
      u.chase.e = w.startError ∧ u.motion.locate = some l ∧ l.target = k.targetPos ∧
      l.dir = (if t.position.pos < l.target then .forward else .reverse) ∧ u.Reported t .chaseState 1 := by
  have admitted := meets.admits.motion
  obtain ⟨-, position, profile, -, -, chase, -⟩ := aside_fields meets.admits.aside
  have still : w.chase.state = .inactive := by rw [chase, inactive]
  have motion : (w.beginsChase .seek).motion = w.motion := beginsChase_motion .seek
  have back : (w.beginsChase .seek).backdrop = w.backdrop := beginsChase_backdrop .seek
  have position' : (w.beginsChase .seek).position = t.position :=
    (field_of_backdrop back (·.position) fun _ => rfl).trans position
  have profile' : (w.beginsChase .seek).profile = t.profile :=
    (field_of_backdrop back (·.profile) fun _ => rfl).trans profile
  have offset : (w.beginsChase .seek).chaseOffset = 0 := by rw [State.chaseOffset, motion]; exact meets.offset
  have after := beginsChase_chase still (c := .seek) (by decide)
  have reported := beginsChase_reported still (c := .seek) (by decide)
  have begun := beginSeek_of_anchor (v := w.beginsChase .seek) (by rw [position', anchored]) offset
    (by rw [profile']; exact begun)
  generalize w.beginsChase .seek = v at *
  have fresh : v.motion.active.map (fun a => { a with reversals := 0 }) = v.motion.active := by
    rw [motion, meets.active]
    rfl
  have shape : (v.sought k).motion = { v.motion with
    active := v.motion.active.map fun a => { a with reversals := 0 }, locate := (v.sought k).motion.locate } := rfl
  rw [fresh, motion] at shape
  have way := locateTo_way (s := v.onActive (fun a => { a with reversals := 0 })) (x := k.targetPos)
    (accel := (v.onActive (fun a => { a with reversals := 0 })).accelInForce) (by
      show v.profile.tolerance < (v.position.pos - _).natAbs
      rw [profile', position']
      exact far)
  have going : (v.sought k).goWinding = (v.sought k).enter .winding :=
    goWinding_of_stopped ((congrArg Motion.state (motion.trans admitted)).trans ready.stopped)
  obtain ⟨u, e, state, active, locate, chase', ports⟩ := submitMove_chase h g body ready calm meets (v := v.sought k)
    ((started.trans begun).trans going) shape back (by
      intro l hl
      cases Option.some.inj hl
      exact way.1)
  refine ⟨u, _, e, state, active, ?_, ?_, ?_, ?_, locate, way.2.1, ?_, ?_⟩
  · rw [chase']
    exact congrArg Chase.state after
  · rw [chase']
    rfl
  · rw [chase']
    exact congrArg Chase.c after
  · rw [chase']
    exact congrArg Chase.e after
  · rw [← position']
    exact way.2.2
  · exact reported_of_aside meets.admits.aside reported fun l => (ports l).trans (by cases l <;> rfl)

/-! ### A HOLD behind other records (R79, entry 42) -/

theorem join_hold (t : State) (n slot : Nat) : t.join (holdRecord t.profile id n slot) = { t with
    motion := { t.motion with queue := t.motion.queue ++ [holdRecord t.profile id n slot] } } :=
  (join_of_plain (q := holdRecord t.profile id n slot) rfl).trans rfl

/-- A move that its target or its duration ends is not superseded (4.1). -/
theorem supersedable_of_closed (other : q.kind ≠ .chase)
    (closed : q.kind = .locate ∨ q.kind = .hold ∨ q.target ≠ none ∨ q.duration ≠ none) : q.supersedable = false := by
  unfold MoveRecord.supersedable
  cases kind : q.kind with
  | chase => exact absurd kind other
  | locate | hold => rfl
  | wind | play =>
    have given : q.target ≠ none ∨ q.duration ≠ none := by simpa [kind] using closed
    rcases given with e | e <;> simp [Option.isNone_eq_false_iff, Option.isSome_iff_ne_none, e]

/-- Behind a move that may not be superseded a record only joins. -/
theorem afterJoin_of_kept {rest : List MoveRecord} (ha : s.motion.active = some m) (hq : s.motion.queue = q :: rest)
    (kept : q.supersedable = false) : s.afterJoin = s := by
  have same : s.supersede = s := by
    unfold State.supersede
    split
    · rename_i r _ _ _ e
      cases hq.symm.trans e
      rw [if_neg (by rw [kept]; decide)]
    · rfl
  unfold State.afterJoin
  rw [same]
  exact if_neg fun h => by rw [ha] at h; cases h.2

/-- The active move ends SUPERSEDED, the record behind it stays. -/
theorem endActive_superseded {y : MoveRecord} (ha : s.motion.active = some m) (hk : m.kind ≠ .chase)
    (hq : s.motion.queue = [q, y]) (room : s.motion.completions.length < 16) : (s.endActive .superseded).motion = { s.motion with
      queue := [y], active := none, locate := none, completions := s.motion.completions ++ [s.recordFor q m .superseded 0] } ∧
    (s.endActive .superseded).aside = s.aside := by
  unfold State.endActive State.pushCompletion
  rw [ha, hq]
  simp only [hk, if_false]
  cases q.comp <;> simp only [State.freeComp, room, if_true] <;> exact ⟨rfl, rfl⟩

/-- A HOLD that activates in PLAYING with the tape moving goes on there (R95). -/
theorem activate_hold (hq : s.motion.queue = [q]) (hold : q.kind = .hold) (none : q.target = none) :
    s.activate = s.makeActive q Option.none := by
  have resolved : s.resolve q = .ok Option.none := by rw [State.resolve, none]
  have stays : (s.makeActive q Option.none).startMove q Option.none = s.makeActive q Option.none := by rw [State.startMove, hold]
  exact (activate_starts hq resolved (by simp [State.targetPassed, State.locateDone, hold])).trans stays

theorem reactHold_none_of_rolling (playing : s.motion.state = .playing) (moving : s.position.atRest = false) :
    s.reactHold = none := by
  unfold State.reactHold
  rw [playing, moving]
  split
  · split
    · rfl
    · rfl
  · rfl

theorem submitMove_supersedes {n : Nat} (h : s.Takes 0x12 r t) (g : t.Grants r.link)
    (body : MoveBody t.profile r.body (holdRecord t.profile id n)) (slot : freeSlot t.motion.queue = i)
    (ha : t.motion.active = some m) (hm : m.kind = .play) (hq : t.motion.queue = [q]) (kind : q.kind = .play)
    (target : q.target = none) (duration : q.duration = none) (playing : t.motion.state = .playing)
    (room : t.motion.completions.length < 16) (moving : t.position.atRest = false) (calm : t.Calm) :
    ∃ u : State, exec (.submitMove r) s = .next (u.answered 0x12 r .ok [2]) ∧ u.motion.state = .playing ∧
      u.motion.queue = [holdRecord t.profile id n i] ∧
      u.motion.active = some ⟨id, .hold, none, none, none, t.profile.accel, t.profile.shuttle, t.profile.stopTension, 0, 0, t.now,
        false, 0⟩ ∧
      u.motion.completions = t.motion.completions ++ [t.recordFor q m .superseded 0] := by
  have accepted := submitMove_accepted h g body (by rw [playing]; rfl) (by rw [hq]; exact (by decide : 1 < 16)) nofun
  rw [slot, join_hold, hq] at accepted
  generalize hj : ({ t with motion := { t.motion with queue := [q] ++ [holdRecord t.profile id n i] } } : State) = j at accepted
  have queue : j.motion.queue = [q, holdRecord t.profile id n i] := by rw [← hj]; rfl
  have active : j.motion.active = some m := by rw [← hj]; exact ha
  obtain ⟨ended, aside⟩ := endActive_superseded active (by rw [hm]; decide) queue (by rw [← hj]; exact room)
  have supersedable : q.supersedable = true := by rw [MoveRecord.supersedable, kind, target, duration]; rfl
  have activated := activate_hold (s := j.endActive .superseded) (q := holdRecord t.profile id n i) (by rw [ended]) rfl rfl
  have superseded : j.supersede = (j.endActive .superseded).makeActive (holdRecord t.profile id n i) none := by
    rw [State.supersede, active, queue]
    exact (if_pos supersedable).trans activated
  have made := makeActive_motion (s := j.endActive .superseded) (holdRecord t.profile id n i) none
  obtain ⟨now, -, -, -, -, -⟩ := aside_fields aside
  rw [ended, now] at made
  have kept : ((j.endActive .superseded).makeActive (holdRecord t.profile id n i) none).aside = t.aside :=
    (makeActive_aside ..).trans (aside.trans (by rw [← hj]; rfl))
  generalize (j.endActive .superseded).makeActive (holdRecord t.profile id n i) none = w at *
  obtain ⟨-, position, -, armL, armR, -⟩ := aside_fields kept
  obtain ⟨hl, hr, -⟩ := calm
  have state : w.motion.state = .playing := by rw [made, ← hj]; exact playing
  have joined : j.afterJoin = w := by
    unfold State.afterJoin
    rw [superseded]
    exact if_neg fun h => by rw [state] at h; cases h.1
  have quiet : w.react = none := react_none (reactTension_none (by rw [armL, hl]) (by rw [armR, hr]))
    (reactSizing_none (by simp [state])) (reactPinch_none_of_state (by simp [state]) (by simp [state]) (by simp [state]))
    (reactHalting_none (by simp [state])) (reactBraking_none (.inl (by simp [state])))
    (reactHold_none_of_rolling state (by rw [position, moving])) (reactSettled_none (by rw [made]))
    (reactQueue_none (.inl (by simp [state])))
  rw [joined, settle_of_none quiet] at accepted
  refine ⟨_, accepted, ?_, ?_, ?_, ?_⟩ <;> rw [syncLoop_motion]
  · exact state
  · rw [made]
    rfl
  · rw [made, ← hj]
    rfl
  · rw [made, ← hj]
    rfl

/-- Settles O52: each body by the record it is read as, each acceptance by what its activation comes to. -/
theorem submitMove : Obligations.SubmitMove := by
  intro s t r id h g
  refine ⟨?_, ?_, ?_, ?_, ?_, ?_, ?_⟩
  · intro d x i hb lo hi free lowest stopped hq ha hlo calm
    obtain ⟨ahead, behind⟩ := submitMove_wind h g (windBody d lo hi hb) (freeIndices_head free lowest) ⟨stopped, hq, ha⟩ hlo calm
    refine ⟨fun way => ahead ?_, fun way room => ?_⟩
    · rcases way with ⟨rfl, lt⟩ | ⟨rfl, lt⟩ <;> exact decide_eq_true lt
    · obtain ⟨u, e, ends, comps⟩ := behind (by
        rcases way with ⟨rfl, le⟩ | ⟨rfl, le⟩ <;> exact decide_eq_false (Int.not_lt.2 le)) room
      exact ⟨u, e, ends.state, ends.active, ends.queue, comps, ends.completions⟩
  · intro x lo hi none room state bodies
    have submits : t.motion.state.submits = true := by rcases state with e | e | e | e | e <;> rw [e] <;> rfl
    rcases bodies with ⟨d, hb⟩ | hb
    · exact submitMove_noComparator h g (windBody d lo hi hb) submits room rfl (freeIndices_none none)
    · exact submitMove_noComparator h g (placeBody (.inr ⟨rfl, rfl⟩) lo hi hb) submits room rfl (freeIndices_none none)
  · intro x l b dist hb lo hi stopped hq ha _ calm hd hbr hl
    obtain ⟨near, away⟩ := submitMove_locate h g (placeBody (.inl ⟨rfl, rfl⟩) lo hi hb) ⟨stopped, hq, ha⟩ calm
    refine ⟨fun within rest room => ?_, fun out => ?_⟩
    · obtain ⟨u, e, ends, comps⟩ := near (hd ▸ within) rest room
      exact ⟨u, e, ends.state, ends.active, ends.queue, ends.locate, comps, ends.completions⟩
    · rw [hl, ← locateTo_eq hd hbr]
      exact away (hd ▸ out)
  · intro k res kinds stopped hq ha room calm targets
    have ready : t.Ready := ⟨stopped, hq, ha⟩
    obtain ⟨kind, known, served⟩ : ∃ kind : MoveKind, (k = 1 ∧ kind = .locate ∨ k = 2 ∧ kind = .play) ∧
        (kind = .locate ∨ kind = .play ∧ freeIndices t.comps ≠ []) := by
      rcases kinds with rfl | ⟨rfl, i, free⟩
      · exact ⟨.locate, .inl ⟨rfl, rfl⟩, .inl rfl⟩
      · exact ⟨.play, .inr ⟨rfl, rfl⟩, .inr ⟨rfl, freeIndices_ne_nil free⟩⟩
    rcases targets with ⟨x, hb, valid, unanchored, rfl⟩ | ⟨i, hb, inside, empty, rfl⟩
    · obtain ⟨u, e, ends, comps⟩ := submitMove_unresolved h g (timecodeBody known valid hb) ready calm served room
        (resolve_timecode rfl unanchored)
      exact ⟨u, e, ends.state, ends.active, ends.queue, comps, ends.completions⟩
    · obtain ⟨u, e, ends, comps⟩ := submitMove_unresolved h g (entryBody known inside hb) ready calm served room
        (resolve_entry rfl empty)
      exact ⟨u, e, ends.state, ends.active, ends.queue, comps, ends.completions⟩
  · intro m e day hb hd hm stopped hq ha hlo calm inactive
    have ready : t.Ready := ⟨stopped, hq, ha⟩
    have body := chaseBody (p := t.profile) hb
    obtain ⟨w, meets⟩ := meetsChase ready id
    obtain ⟨-, position, profile, -, -, chase, -⟩ := aside_fields meets.admits.aside
    subst hm
    refine ⟨fun absent => ?_, fun f present last he => ⟨fun unanchored room => ?_, fun y x anchored ex near => ?_,
      fun y k anchored far rendezvous frame parked place way => ?_⟩⟩
    · obtain ⟨u, e, state, active, locate, after, reported⟩ := submitMove_chase_plays h g body ready hlo calm inactive meets
        (c := .lost) (by decide) (startChase_of_absent (by rw [chase, absent]))
      exact ⟨u, e, state, active, locate, by rw [after], by rw [after]; rfl, reported⟩
    · obtain ⟨u, e, ends, state⟩ := submitMove_chase_fails h g body ready calm room meets
        (startChase_of_unanchored (by rw [chase, present]) (by rw [chase, last]) (by rw [position, unanchored]))
      have nowhen : t.timeAt t.position.pos = none := by rw [State.timeAt, State.frameAt, unanchored]; rfl
      refine ⟨u, e, ends.state, ends.active, ends.queue, state, ?_⟩
      rw [ends.completions, nowhen]
      rfl
    · have error : w.startError = e := by
        rw [startError_of (day := day) (by rw [chase, last]) meets.offset (by rw [profile, hd]), chase, he]
      obtain ⟨u, run, state, active, locate, after, reported⟩ := submitMove_chase_plays h g body ready hlo calm inactive meets
        (c := .approach) (by decide)
        (startChase_of_near (by rw [chase, present]) (by rw [chase, last]) (by rw [position, anchored]) (error.trans ex)
          (by rw [profile]; exact near))
      exact ⟨u, run, state, active, locate, by rw [after], by rw [after]; exact error, reported⟩
    · have error : w.startError = e := by
        rw [startError_of (day := day) (by rw [chase, last]) meets.offset (by rw [profile, hd]), chase, he]
      have seeks := startChase_of_far (w := w) (by rw [chase, present]) (by rw [chase, last]) (by rw [position, anchored])
        (by rw [error, profile]; exact far)
      obtain ⟨u, l, run, state, active, sought, seek, c, after, rest⟩ := submitMove_chase_seeks h g body ready calm inactive meets
        seeks anchored ⟨hd, rendezvous, frame, parked, place⟩ way
      exact ⟨u, l, run, state, active, sought, seek, c, after.trans error, rest⟩
  · intro c a f v hc ha' hf lo hi hb stopped hq ha hlo calm slow
    exact submitMove_play h g (playBody hc ha' hf lo hi slow hb) ⟨stopped, hq, ha⟩ hlo calm
  · intro n slot len hold least most hb hn hh
    subst hn
    have body := holdBody (p := t.profile) least most hb
    refine ⟨fun state => ?_, fun state => ?_⟩
    · exact submitMove_wrongState h g body (by rcases state with e | e | e | e | e | e <;> rw [e] <;> rfl)
    have submits : t.motion.state.submits = true := by rcases state with e | e | e | e | e <;> rw [e] <;> rfl
    refine ⟨submitMove_queueFull h g body submits, fun m q rest room ha hq inside free lowest => ?_⟩
    have found := freeSlot_of inside free lowest
    subst hh
    refine ⟨fun other closed u hu settled => ?_, fun alone kind target duration hm playing completions moving calm => ?_⟩
    · subst hu
      have accepted := submitMove_accepted h g body submits room nofun
      have joined := afterJoin_of_kept (s := { t with
        motion := { t.motion with queue := t.motion.queue ++ [holdRecord t.profile id n slot] } }) ha
        ((congrArg (· ++ [holdRecord t.profile id n slot]) hq).trans rfl) (supersedable_of_closed other closed)
      have same : State.settle { t with
          motion := { t.motion with queue := t.motion.queue ++ [holdRecord t.profile id n slot] } } = _ :=
        settle_of_settled settled
      rw [found, join_hold, joined, same] at accepted
      exact accepted
    · subst alone
      exact submitMove_supersedes h g body found ha hm hq kind target duration playing completions moving calm

end Sys2Proof.Machine
end

section
/-! The outputs and the reference (O5, O8): what `OutputsOk` reads, the operations that leave it, and the entries into the transport
states. -/

namespace Sys2Proof.Machine
variable {s t u : State} {v w : List Group} {x : Transport}

/-! ### What the invariant reads -/

/-- The sequencer with everything erased that neither the outputs nor the reference depend on. -/
def Motion.outputs (m : Motion) : Motion :=
  { m with accel := 0, locate := none, sizing := none, brakingTimer := none, lastUpdate := 0, queue := [], active := none
           completions := [] }

/-- The registers that `OutputsOk` reads hold in `t` what they held in `s`, but that an open radius window may close and a window
that is open change. -/
structure State.SameOutputs (s t : State) : Prop where
  motion : t.motion.outputs = s.motion.outputs
  drives : Group.drive.Same s t
  left   : s.reelL.window = none → t.reelL.window = none
  right  : s.reelR.window = none → t.reelR.window = none
  loop   : Group.capstanLoop.Same s t

/-! What the erased sequencer still shows. -/

theorem state_of_outputs {m n : Motion} (e : m.outputs = n.outputs) : m.state = n.state :=
  (congrArg Motion.state e :)

theorem halt_of_outputs {m n : Motion} (e : m.outputs = n.outputs) : m.halt = n.halt :=
  (congrArg Motion.halt e :)

theorem pinchCmd_of_outputs {m n : Motion} (e : m.outputs = n.outputs) : m.pinchCmd = n.pinchCmd :=
  (congrArg Motion.pinchCmd e :)

theorem pinchTimer_of_outputs {m n : Motion} (e : m.outputs = n.outputs) : m.pinchTimer = n.pinchTimer :=
  (congrArg Motion.pinchTimer e :)

theorem brakeRelease_of_outputs {m n : Motion} (e : m.outputs = n.outputs) : m.brakeRelease = n.brakeRelease :=
  (congrArg Motion.brakeRelease e :)

theorem vRef_of_outputs {m n : Motion} (e : m.outputs = n.outputs) : m.vRef = n.vRef :=
  (congrArg Motion.vRef e :)

theorem aRef_of_outputs {m n : Motion} (e : m.outputs = n.outputs) : m.aRef = n.aRef :=
  (congrArg Motion.aRef e :)

theorem haltPending_of_outputs {m n : Motion} (e : m.outputs = n.outputs) : m.haltPending = n.haltPending :=
  (congrArg Motion.haltPending e :)

theorem outputs_congr (h : s.OutputsOk) (e : s.SameOutputs t) : t.OutputsOk := by
  have state := state_of_outputs e.motion
  have halt := halt_of_outputs e.motion
  have pinch := pinchCmd_of_outputs e.motion
  have timer := pinchTimer_of_outputs e.motion
  obtain ⟨⟨torqueL, codeL, satL⟩, torqueR, codeR, satR⟩ := e.drives
  obtain ⟨integral, capstan, running⟩ := e.loop
  exact {
    brakes := (brakeRelease_of_outputs e.motion).trans (by rw [state]; exact h.brakes)
    pinch := by rw [pinch, state, halt]; exact h.pinch
    engaged := by rw [pinch, state]; exact h.engaged
    held := by rw [pinch, state, halt, timer]; exact h.held
    codeL := by rw [codeL]; exact h.codeL
    codeR := by rw [codeR]; exact h.codeR
    capstan := by rw [capstan]; exact h.capstan
    braked := fun braked => by
      have held := h.braked (state ▸ braked)
      exact {
        codeL := codeL.trans held.codeL
        codeR := codeR.trans held.codeR
        torqueL := torqueL.trans held.torqueL
        torqueR := torqueR.trans held.torqueR
        satL := satL.trans held.satL
        satR := satR.trans held.satR
        windowL := e.left held.windowL
        windowR := e.right held.windowR
        capstan := capstan.trans held.capstan
        integral := integral.trans held.integral
        loop := running.trans held.loop
        vRef := (vRef_of_outputs e.motion).trans held.vRef
        aRef := (aRef_of_outputs e.motion).trans held.aRef
        pending := (haltPending_of_outputs e.motion).trans held.pending } }

/-- The groups of the drives. -/
def driveGroups : List Group := [.drive, .windows, .capstanLoop]

theorem sameOutputs_of_motion (e : State.SameBut w s t) (m : ∀ g ∈ driveGroups, g ∉ w)
    (motion : t.motion.outputs = s.motion.outputs) : s.SameOutputs t := by
  obtain ⟨left, right⟩ := e.same .windows (m _ (by decide))
  exact ⟨motion, e.same .drive (m _ (by decide)), fun h => left.trans h, fun h => right.trans h,
    e.same .capstanLoop (m _ (by decide))⟩

/-- The groups that the outputs depend on. -/
def outputGroups : List Group := .sequencer :: driveGroups

theorem sameOutputs_of_sameBut (e : State.SameBut w s t) (m : ∀ g ∈ outputGroups, g ∉ w) : s.SameOutputs t := by
  have motion : t.motion = _ := e.same .sequencer (m _ (by decide))
  exact sameOutputs_of_motion e (fun g hg => m g (List.mem_cons_of_mem _ hg)) (by rw [motion]; rfl)

/-! ### The reference kept -/

/-- From `s` to `t` the transport stays braked or driven as it was, outside SIZING unless it was in it, with its reference, and the
outputs stay right. -/
structure State.Glides (s t : State) : Prop where
  outputs : s.OutputsOk → t.OutputsOk
  vRef    : t.motion.vRef = s.motion.vRef
  aRef    : t.motion.aRef = s.motion.aRef
  braked  : t.motion.state.braked = s.motion.state.braked
  sizing  : t.motion.state = .sizing → s.motion.state = .sizing

theorem glides_refl (s : State) : s.Glides s := ⟨id, rfl, rfl, rfl, id⟩

theorem State.Glides.trans (h : s.Glides t) (k : t.Glides u) : s.Glides u where
  outputs := k.outputs ∘ h.outputs
  vRef := k.vRef.trans h.vRef
  aRef := k.aRef.trans h.aRef
  braked := k.braked.trans h.braked
  sizing := h.sizing ∘ k.sizing

theorem State.SameOutputs.glides (e : s.SameOutputs t) : s.Glides t where
  outputs h := outputs_congr h e
  vRef := vRef_of_outputs e.motion
  aRef := aRef_of_outputs e.motion
  braked := congrArg Transport.braked (state_of_outputs e.motion)
  sizing h := (state_of_outputs e.motion).symm.trans h

theorem glides_of_sameBut (e : State.SameBut w s t) (m : ∀ g ∈ outputGroups, g ∉ w) : s.Glides t :=
  (sameOutputs_of_sameBut e m).glides

theorem State.Glides.ite {p : Prop} [Decidable p] {a b : State} (ha : p → s.Glides a) (hb : ¬p → s.Glides b) :
    s.Glides (if p then a else b) := by
  split
  · exact ha ‹_›
  · exact hb ‹_›

/-- The reference kept, or the transport in a braked state with its reference at 0, as every entry into one leaves it (R92); and
SIZING not entered. -/
structure State.MayBrake (s t : State) : Prop where
  outputs   : s.OutputsOk → t.OutputsOk
  reference : (t.motion.vRef = s.motion.vRef ∧ t.motion.aRef = s.motion.aRef ∧
    (s.motion.state.braked = true → t.motion.state.braked = true)) ∨ (t.motion.vRef = 0 ∧ t.motion.state.braked = true)
  sizing    : t.motion.state = .sizing → s.motion.state = .sizing

theorem State.Glides.mayBrake (h : s.Glides t) : s.MayBrake t :=
  ⟨h.outputs, .inl ⟨h.vRef, h.aRef, fun braked => h.braked.trans braked⟩, h.sizing⟩

theorem State.MayBrake.trans (h : s.MayBrake t) (k : t.MayBrake u) : s.MayBrake u := by
  refine ⟨k.outputs ∘ h.outputs, ?_, h.sizing ∘ k.sizing⟩
  rcases k.reference with ⟨vk, ak, bk⟩ | braked
  · rcases h.reference with ⟨vh, ah, bh⟩ | ⟨vh, bh⟩
    · exact .inl ⟨vk.trans vh, ak.trans ah, bk ∘ bh⟩
    · exact .inr ⟨vk.trans vh, bk bh⟩
  · exact .inr braked

theorem State.MayBrake.ite {p : Prop} [Decidable p] {a b : State} (ha : p → s.MayBrake a) (hb : ¬p → s.MayBrake b) :
    s.MayBrake (if p then a else b) := by
  split
  · exact ha ‹_›
  · exact hb ‹_›

/-! ### Reports, comparators, records -/

theorem setChase_sameBut (c : ChaseState) : State.SameBut [.chase, .latches] s (s.setChase c) := by
  have changed (y : Int) : State.SameBut [.chase] s { s with chase := { s.chase with state := c, c := y } } := by
    refine ⟨fun g n => ?_⟩
    have h := g.same_refl s
    cases g <;> first | exact h | exact rfl | exact absurd (by decide) n
  unfold State.setChase
  split
  · exact sameBut_refl _ s
  · exact (changed _).trans (reportTo_sameBut ..)

theorem setChase_glides (c : ChaseState) : s.Glides (s.setChase c) := glides_of_sameBut (setChase_sameBut c) (by decide)

theorem report_glides (src : Source) (n : Int) : s.Glides (s.report src n) := glides_of_sameBut (reportTo_sameBut ..) (by decide)

theorem dropRecord_sameBut (r : MoveRecord) : State.SameBut [.comparators, .moves] s (s.dropRecord r) := by
  have pushed (y : State) (c : Completion) : State.SameBut [.moves] y (y.pushCompletion c) := by
    refine ⟨fun g n => ?_⟩
    have h := g.same_refl y
    cases g <;> first | exact h | exact rfl | exact absurd (by decide) n
  exact (freeComp_sameBut r.comp).trans (pushed _ _)

theorem dropRecords_sameBut (l : List MoveRecord) :
    ∀ s : State, State.SameBut [.comparators, .moves] s (l.foldl State.dropRecord s) := by
  induction l with
  | nil => exact fun s => sameBut_refl _ s
  | cons r l ih => exact fun s => ((dropRecord_sameBut r).trans (ih _)).mono (by decide)

theorem discardQueue_sameBut : State.SameBut [.comparators, .moves] s s.discardQueue := by
  have emptied (y : State) : State.SameBut [.moves] y { y with motion := { y.motion with queue := [] } } := by
    refine ⟨fun g n => ?_⟩
    have h := g.same_refl y
    cases g <;> first | exact h | exact rfl | exact absurd (by decide) n
  exact ((dropRecords_sameBut s.motion.queue s).trans (emptied _)).mono (by decide)

theorem discardQueue_glides : s.Glides s.discardQueue := glides_of_sameBut discardQueue_sameBut (by decide)

/-- What the sequencer forgets with a move neither the outputs nor the reference depend on. -/
theorem forget_sameOutputs (q : List MoveRecord) (a : Option ActiveMove) (l : Option LocateCtx) (z : ZoneTable) :
    s.SameOutputs { s with motion := { s.motion with queue := q, active := a, locate := l }, zones := z } :=
  ⟨rfl, Group.same_refl .drive s, id, id, Group.same_refl .capstanLoop s⟩

theorem endChase_glides : s.Glides s.endChase :=
  (setChase_glides .inactive).trans (State.SameOutputs.glides
    ⟨rfl, Group.same_refl .drive (s.setChase .inactive), id, id, Group.same_refl .capstanLoop (s.setChase .inactive)⟩)

theorem pushCompletion_glides (c : Completion) : s.Glides (s.pushCompletion c) :=
  State.SameOutputs.glides ⟨rfl, Group.same_refl .drive s, id, id, Group.same_refl .capstanLoop s⟩

theorem endActive_glides (res : MoveResult) : s.Glides (s.endActive res) := by
  unfold State.endActive
  split
  · rename_i a r rest _ _
    have chase : s.Glides (if a.kind = .chase then s.endChase else s) := .ite (fun _ => endChase_glides) fun _ => glides_refl s
    have freed := chase.trans (glides_of_sameBut (freeComp_sameBut r.comp) (by decide))
    refine .ite (fun _ => .trans ?_ discardQueue_glides) fun _ => ?_ <;>
      exact (freed.trans (pushCompletion_glides _)).trans (forget_sameOutputs rest none none _).glides
  · exact glides_refl s

theorem endAll_glides (res : MoveResult) : s.Glides (s.endAll res) := by
  unfold State.endAll
  split
  · exact endActive_glides res
  · exact discardQueue_glides

/-! ### Entries into the transport states -/

/-- What an entry into a driven state may write. -/
def entryGroups : List Group :=
  [.slip, .cueWriter, .comparators, .latches, .supervision, .watch, .sequencer, .chase, .cueHistory]

theorem leavePlaying_sameBut : State.SameBut [.slip, .cueWriter, .comparators, .latches] s s.leavePlaying :=
  sameBut_ite (fun _ => (slip_sameBut none).trans (endCueWrite_sameBut 3)) fun _ => (slip_sameBut none).mono (by decide)

theorem arrivePlaying_sameBut : State.SameBut [.chase, .latches, .cueWriter, .cueHistory] s s.arrivePlaying := by
  have reset : State.SameBut [.chase] s { s with chase := { s.chase with lock := 0, unlock := 0, c := 0 } } := by
    refine ⟨fun g n => ?_⟩
    have h := g.same_refl s
    cases g <;> first | exact h | exact rfl | exact absurd (by decide) n
  have approached := sameBut_ite (p := s.chase.state = .seek) (w := [.chase, .latches])
    (fun _ => (reset.trans (setChase_sameBut .approach)).mono (by decide)) fun _ => sameBut_refl _ s
  exact approached.trans tryCueWrite_sameBut

/-- An entry into a driven state writes no drive. -/
theorem enter_sameBut_of_driven (hx : x.braked = false) : State.SameBut entryGroups s (s.enter x) := by
  have left := sameBut_ite (p := s.motion.state = .playing ∧ x ≠ .playing) (fun _ => leavePlaying_sameBut) fun _ =>
    sameBut_refl [.slip, .cueWriter, .comparators, .latches] s
  have entered (y : State) (n : Option Nat) (o : Option Watch) (a : Transport) (b c : Bool) (d e : Option Nat) (f : Option HaltCtx)
      (g : Option SizingCtx) (l : Option LocateCtx) : State.SameBut [.supervision, .watch, .sequencer] y { y with
        faults := { y.faults with supervision := n }, watch := o
        motion := { y.motion with state := a, brakeRelease := b, pinchCmd := c, pinchTimer := d, brakingTimer := e, halt := f
                                  sizing := g, locate := l } } := by
    refine ⟨fun g n => ?_⟩
    have h := g.same_refl y
    cases g <;> first | exact h | exact absurd (by decide) n
  unfold State.enter
  dsimp only
  rw [hx]
  exact sameBut_ite (fun _ => ((left.trans (entered ..)).trans arrivePlaying_sameBut).mono (by decide))
    fun _ => (left.trans (entered ..)).mono (by decide)

/-- An entry establishes the outputs of the state entered, whatever stood before (R42, R90, R92). -/
theorem enter_outputs (h : s.OutputsOk) (x : Transport) : (s.enter x).OutputsOk := by
  have motion := enter_motion (s := s) x
  have drives : (s.enter x).reelL.code.natAbs ≤ 2047 ∧ (s.enter x).reelR.code.natAbs ≤ 2047 ∧
      (s.enter x).capstan.code.natAbs ≤ 2047 := by
    cases hx : x.braked with
    | true =>
      have braked := enter_braked (s := s) hx
      rw [braked.codeL, braked.codeR, braked.capstan]
      decide
    | false =>
      have kept := enter_sameBut_of_driven (s := s) hx
      obtain ⟨⟨-, codeL, -⟩, -, codeR, -⟩ := kept.same .drive (by decide)
      obtain ⟨-, capstan, -⟩ := kept.same .capstanLoop (by decide)
      rw [codeL, codeR, capstan]
      exact ⟨h.codeL, h.codeR, h.capstan⟩
  obtain ⟨codeL, codeR, capstan⟩ := drives
  exact {
    codeL, codeR, capstan
    brakes := by rw [motion]
    pinch := fun pinched => by
      rw [motion] at pinched ⊢
      rw [Bool.or_eq_true, decide_eq_true_eq, decide_eq_true_eq] at pinched
      exact pinched.imp_right .inl
    engaged := by
      rw [motion]
      rintro (e | e) <;> simp only [show x = _ from e] <;> rfl
    held := fun c _ halt => by rw [motion] at halt; cases halt
    braked := fun braked => enter_braked (by rw [motion] at braked; exact braked) }

/-- A driven state entered from a driven state keeps the reference. -/
theorem enter_glides (driven : s.motion.state.braked = false) (hx : x.braked = false) (other : x ≠ .sizing) :
    s.Glides (s.enter x) where
  outputs h := enter_outputs h x
  vRef := by rw [enter_motion]; dsimp only; rw [hx]; rfl
  aRef := by rw [enter_motion]; dsimp only; rw [hx]; rfl
  braked := by rw [enter_motion, driven]; exact hx
  sizing h := by rw [enter_motion] at h; exact absurd h other

/-- A braked state may be entered from every state. -/
theorem enter_mayBrake (hx : x.braked = true) : s.MayBrake (s.enter x) := by
  refine ⟨fun h => enter_outputs h x, .inr ?_, fun sizing => ?_⟩
  · rw [enter_motion]
    dsimp only
    rw [hx]
    exact ⟨rfl, rfl⟩
  · rw [enter_motion] at sizing
    cases (sizing ▸ hx : Transport.braked .sizing = true)

/-- The sequencer after the entry into HALTING. -/
theorem enterHalting_outputs_eq (b : Bool) (d : HaltDest) : (s.enterHalting b d).motion.outputs =
    { s.motion.outputs with state := .halting, haltPending := none, halt := some ⟨b, d, !b⟩, pinchTimer := none
                            brakeRelease := true, pinchCmd := b } := by
  have halted : (s.enterHalting b d).motion = { (s.enter .halting).discardQueue.motion with
      halt := some ⟨b, d, !b⟩, pinchCmd := b, haltPending := none
      accel := (s.enter .halting).discardQueue.profile.aStop } := rfl
  rw [halted, discardQueue_leaves.1, enter_motion]
  rfl

theorem enterHalting_outputs (h : s.OutputsOk) (b : Bool) (d : HaltDest) : (s.enterHalting b d).OutputsOk := by
  have motion := enterHalting_outputs_eq (s := s) b d
  have state : (s.enterHalting b d).motion.state = .halting := (congrArg Motion.state motion :)
  have halt : (s.enterHalting b d).motion.halt = some ⟨b, d, !b⟩ := (congrArg Motion.halt motion :)
  have pinch : (s.enterHalting b d).motion.pinchCmd = b := (congrArg Motion.pinchCmd motion :)
  have brakes : (s.enterHalting b d).motion.brakeRelease = true := (congrArg Motion.brakeRelease motion :)
  have kept : (s.enterHalting b d).reelL = (s.enter .halting).discardQueue.reelL ∧
      (s.enterHalting b d).reelR = (s.enter .halting).discardQueue.reelR ∧
      (s.enterHalting b d).capstan = (s.enter .halting).discardQueue.capstan := ⟨rfl, rfl, rfl⟩
  have entered := discardQueue_glides.outputs (enter_outputs h .halting)
  exact {
    codeL := by rw [kept.1]; exact entered.codeL
    codeR := by rw [kept.2.1]; exact entered.codeR
    capstan := by rw [kept.2.2]; exact entered.capstan
    brakes := brakes.trans (by rw [state]; rfl)
    pinch := fun pinched => .inr (.inr ⟨state, _, halt, pinch.symm.trans pinched⟩)
    engaged := by rw [state]; rintro (e | e) <;> cases e
    held := fun c _ hc playing _ _ => by
      cases halt.symm.trans hc
      exact pinch.trans playing
    braked := fun braked => by rw [state] at braked; cases braked }

theorem enterHalting_glides (driven : s.motion.state.braked = false) (b : Bool) (d : HaltDest) : s.Glides (s.enterHalting b d) where
  outputs h := enterHalting_outputs h b d
  vRef := (congrArg Motion.vRef (enterHalting_outputs_eq b d) :)
  aRef := (congrArg Motion.aRef (enterHalting_outputs_eq b d) :)
  braked := by rw [enterHalting_state, driven]; rfl
  sizing h := by rw [enterHalting_state] at h; cases h

/-- A halt set pending in a pinch transition (R96). -/
theorem setPending_glides (h : s.motion.state = .engaging ∨ s.motion.state = .releasing) (d : HaltDest) :
    s.Glides { s with motion := { s.motion with haltPending := some d } } := by
  have driven : s.motion.state.braked = false := by rcases h with h | h <;> rw [h] <;> rfl
  refine ⟨fun ok => { ok with braked := fun braked => ?_ }, rfl, rfl, rfl, id⟩
  rw [show Transport.braked _ = s.motion.state.braked from rfl, driven] at braked
  cases braked

end Sys2Proof.Machine
end

section
/-! The outputs and the reference (O5, O8): halts, activations and locates keep the reference. -/

namespace Sys2Proof.Machine
variable {s t u : State} {x : Transport} {a : ActiveMove}

/-! ### Halts -/

theorem enterHalting_glides_of (hs : s.motion.state = x) (hx : x.braked = false) (b : Bool) (d : HaltDest) :
    s.Glides (s.enterHalting b d) :=
  enterHalting_glides (by rw [hs]; exact hx) b d

theorem queueEmptied_glides : s.Glides s.queueEmptied := by
  unfold State.queueEmptied
  split
  case h_1 e | h_2 e => exact enterHalting_glides_of e rfl ..
  case h_3 e => exact setPending_glides (.inl e) _
  case h_4 e => exact setPending_glides (.inr e) _
  all_goals exact glides_refl s

theorem failMove_glides (res : MoveResult) : s.Glides (s.failMove res) := (endActive_glides res).trans queueEmptied_glides

theorem stopTransport_glides : s.Glides s.stopTransport := by
  unfold State.stopTransport
  split
  case h_1 e => exact .ite (fun _ => glides_refl s) fun _ => enterHalting_glides_of e rfl ..
  case h_2 e | h_3 e => exact enterHalting_glides_of e rfl ..
  case h_4 e => exact setPending_glides (.inl e) _
  case h_5 e => exact setPending_glides (.inr e) _
  case h_6 e => exact (enterHalting_glides_of e rfl ..).trans (report_glides ..)
  all_goals exact glides_refl s

/-! ### Activations -/

/-- A driven state entered from a named driven state. -/
theorem enter_glides_of {y : Transport} (hs : s.motion.state = y) (hy : y.braked = false) (hx : x.braked = false)
    (other : x ≠ .sizing) : s.Glides (s.enter x) :=
  enter_glides (by rw [hs]; exact hy) hx other

theorem goWinding_glides : s.Glides s.goWinding := by
  unfold State.goWinding
  split
  case h_1 e | h_2 e => exact enter_glides_of e rfl rfl nofun
  all_goals exact glides_refl s

theorem goPlaying_glides : s.Glides s.goPlaying := by
  unfold State.goPlaying
  split
  case h_1 e => exact enter_glides_of e rfl rfl nofun
  all_goals exact glides_refl s

/-- The moves, the contexts and what no output depends on may change. -/
theorem glides_of_registers (motion : t.motion.outputs = s.motion.outputs) (left : t.reelL = s.reelL) (right : t.reelR = s.reelR)
    (capstan : t.capstan = s.capstan) : s.Glides t := by
  refine State.SameOutputs.glides ⟨motion, ?_, fun h => by rw [left]; exact h, fun h => by rw [right]; exact h, ?_⟩
  · rw [Group.Same, left, right]
    exact ⟨⟨rfl, rfl, rfl⟩, rfl, rfl, rfl⟩
  · rw [Group.Same, capstan]
    exact ⟨rfl, rfl, rfl⟩

theorem beginSeek_glides (fr : Nat) : s.Glides (s.beginSeek fr) := by
  unfold State.beginSeek
  dsimp only
  split
  · exact failMove_glides _
  · refine State.Glides.trans ?_ goWinding_glides
    exact glides_of_registers rfl rfl rfl rfl

theorem startChase_glides : s.Glides s.startChase := by
  have started (c : ChaseState) : s.Glides (State.setChase { s with chase := { s.chase with e := s.startError } } c) := by
    refine State.Glides.trans ?_ (setChase_glides c)
    exact glides_of_registers rfl rfl rfl rfl
  unfold State.startChase
  dsimp only
  split
  · split
    · exact failMove_glides _
    · split
      · exact (started _).trans (beginSeek_glides _)
      · exact .ite (fun _ => (started _).trans goPlaying_glides) fun _ => (started _).trans (beginSeek_glides _)
  · exact (started _).trans goPlaying_glides

theorem makeActive_glides (r : MoveRecord) (target : Option Int) : s.Glides (s.makeActive r target) := by
  unfold State.makeActive
  dsimp only
  split <;> exact glides_of_registers rfl rfl rfl rfl

theorem startMove_glides (r : MoveRecord) (target : Option Int) : s.Glides (s.startMove r target) := by
  unfold State.startMove
  split
  · exact goWinding_glides
  · refine State.Glides.trans ?_ goWinding_glides
    exact glides_of_registers rfl rfl rfl rfl
  · exact goPlaying_glides
  · exact startChase_glides
  · exact glides_refl s

theorem activateNext_glides (n : Nat) : ∀ s : State, s.Glides (s.activateNext n) := by
  induction n with
  | zero => exact glides_refl
  | succ n ih =>
    intro s
    unfold State.activateNext
    split
    · exact queueEmptied_glides
    · rename_i r _ _
      split
      · exact (makeActive_glides r none).trans (failMove_glides _)
      · rename_i target _
        have made := makeActive_glides (s := s) r target
        have ended (res : MoveResult) : s.Glides (((s.makeActive r target).endActive res).activateNext n) :=
          (made.trans (endActive_glides res)).trans (ih _)
        exact .ite (fun _ => ended .done) fun _ => .ite (fun _ => ended .superseded) fun _ => made.trans (startMove_glides r target)

theorem activate_glides : s.Glides s.activate := activateNext_glides _ s

theorem finishMove_glides (res : MoveResult) : s.Glides (s.finishMove res) := (endActive_glides res).trans activate_glides

theorem supersede_glides : s.Glides s.supersede := by
  unfold State.supersede
  split
  · exact .ite (fun _ => finishMove_glides _) fun _ => glides_refl s
  · exact glides_refl s

/-! ### Locates (R99, R107, R135) -/

theorem withLocate_glides (l : LocateCtx) : s.Glides (s.withLocate l) := glides_of_registers rfl rfl rfl rfl

theorem countPass_glides : s.Glides s.countPass := by
  unfold State.countPass
  split <;> exact glides_of_registers rfl rfl rfl rfl

theorem overshoot_glides (driven : s.motion.state.braked = false) : s.Glides s.overshoot := by
  unfold State.overshoot
  split
  · exact (enterHalting_glides driven ..).trans (report_glides ..)
  · exact failMove_glides _

theorem passTarget_glides (driven : s.motion.state.braked = false) (l : LocateCtx) : s.Glides (s.passTarget l) :=
  .ite (fun _ => countPass_glides.trans (withLocate_glides _)) fun _ => overshoot_glides driven

/-- A locate runs only in driven states. -/
theorem driven_of_locateRuns (h : s.locateRuns = true) : s.motion.state.braked = false := by
  rw [State.locateRuns, Bool.or_eq_true, decide_eq_true_eq, decide_eq_true_eq] at h
  rcases h with e | e <;> rw [e] <;> rfl

theorem settleEnd_glides (driven : s.motion.state.braked = false) (l : LocateCtx) : s.Glides (s.settleEnd l) := by
  refine .ite (fun _ => ?_) fun _ => .ite (fun _ => passTarget_glides driven l) fun _ => withLocate_glides _
  split
  · exact (enter_glides (x := .stopped) driven rfl nofun).trans (report_glides ..)
  · split
    · exact glides_of_registers rfl rfl rfl rfl
    · exact finishMove_glides _

end Sys2Proof.Machine
end

section
/-! The outputs and the reference (O5, O8): a fault may brake, and the reactions. -/

namespace Sys2Proof.Machine
variable {s t u : State} {x : Transport} {a : ActiveMove}

/-! ### Faults (R173, R174) -/

theorem faultRequest_mayBrake (c : FaultClass) : s.MayBrake (s.faultRequest c) := by
  have ended : s.Glides (if s.motion.state = .sizing then (s.endAll .faulted).sizingDone 3 else s.endAll .faulted) :=
    .ite (fun _ => (endAll_glides _).trans (report_glides ..)) fun _ => endAll_glides _
  unfold State.faultRequest
  dsimp only
  generalize (if s.motion.state = .sizing then (s.endAll .faulted).sizingDone 3 else s.endAll .faulted) = y at ended
  have halts (driven : s.motion.state.braked = false) (b : Bool) (d : HaltDest) : s.MayBrake (y.enterHalting b d) :=
    (ended.trans (enterHalting_glides (ended.braked.trans driven) b d)).mayBrake
  have brakes {x : Transport} (hx : x.braked = true) : s.MayBrake (y.enter x) := ended.mayBrake.trans (enter_mayBrake hx)
  split
  · split
    case h_1 | h_2 => exact ended.mayBrake
    all_goals exact brakes rfl
  · split
    case h_1 e | h_2 e | h_3 e | h_4 e | h_5 e | h_6 e => exact halts (by rw [e]; rfl) ..
    case h_7 | h_8 => exact brakes rfl
    case h_9 | h_10 | h_11 => exact ended.mayBrake

theorem latchFault_mayBrake (k : FaultKind) : s.MayBrake (s.latchFault k) := by
  refine .ite (fun _ => (glides_refl s).mayBrake) fun _ => ?_
  refine State.MayBrake.trans (State.Glides.mayBrake ?_) (faultRequest_mayBrake _)
  refine State.Glides.trans (t := State.report _ .fault k.num) (.trans ?_ (report_glides ..))
    (.ite (fun _ => glides_of_sameBut captureTrigger_sameBut (by decide)) fun _ => glides_refl _)
  exact glides_of_registers rfl rfl rfl rfl

theorem latchIf_mayBrake (b : Bool) (k : FaultKind) : s.MayBrake (s.latchIf b k) :=
  .ite (fun _ => latchFault_mayBrake k) fun _ => (glides_refl s).mayBrake

theorem readInputs_mayBrake : s.MayBrake s.readInputs :=
  (((latchIf_mayBrake ..).trans (latchIf_mayBrake ..)).trans (latchIf_mayBrake ..)).trans (latchIf_mayBrake ..)

/-! ### Reactions -/

theorem reactTension_mayBrake (ht : s.reactTension = some t) : s.MayBrake t := by
  unfold State.reactTension at ht
  dsimp only at ht
  split at ht
  · cases ht; exact latchFault_mayBrake _
  · split at ht
    · cases ht; exact latchFault_mayBrake _
    · split at ht
      · cases ht; exact latchFault_mayBrake _
      · split at ht <;> cases ht
        exact (endAll_glides _).mayBrake.trans (enter_mayBrake rfl)

theorem reactSizing_glides (ht : s.reactSizing = some t) : s.Glides t := by
  unfold State.reactSizing at ht
  split at ht
  · rename_i z hs hz
    have noTape : s.Glides ((s.enterHalting false .unthreaded).sizingDone 1) :=
      (enterHalting_glides_of hs rfl ..).trans (report_glides ..)
    split at ht
    · split at ht
      · split at ht <;> cases ht
        · exact glides_of_registers rfl rfl rfl rfl
        · exact enter_glides_of hs rfl rfl nofun
      · cases ht
    · split at ht
      · cases ht; exact noTape
      · split at ht <;> cases ht
        exact glides_of_registers rfl rfl rfl rfl
    · split at ht <;> cases ht
      exact noTape
  · cases ht

theorem engaged_glides (hs : s.motion.state = .engaging) : s.Glides s.engaged := by
  have enters {x : Transport} (hx : x.braked = false) (other : x ≠ .sizing) : s.Glides (s.enter x) :=
    enter_glides_of hs rfl hx other
  unfold State.engaged
  split
  · split
    case h_1 | h_2 => exact enters rfl nofun
    case h_3 => exact .ite (fun _ => enters rfl nofun) fun _ => enters rfl nofun
    all_goals exact enters rfl nofun
  · exact enters rfl nofun

/-- The capstan loop idle, as a braked state has it already (R42, R102). -/
theorem idleLoop_glides : s.Glides { s with capstan := { s.capstan with running := false, integral := 0, code := 0 } } :=
  ⟨fun h => { h with
    braked := fun braked => { h.braked braked with capstan := rfl, integral := rfl, loop := rfl }, capstan := Nat.zero_le 2047 },
    rfl, rfl, rfl, id⟩

/-- The end of a release in RELEASING: the timer stands for no command there. -/
theorem released_glides (hs : s.motion.state = .releasing) : s.Glides s.released := by
  refine State.Glides.trans (t := { s with motion := { s.motion with pinchTimer := none } }) ?_ idleLoop_glides
  refine ⟨fun h => { h with held := fun _ halting => ?_, braked := fun braked => { h.braked braked with } }, rfl, rfl, rfl, id⟩
  cases hs.symm.trans halting

/-- No halt pending, in a driven state. -/
theorem clearPending_glides : s.Glides { s with motion := { s.motion with haltPending := none } } :=
  ⟨fun h => { h with braked := fun braked => { h.braked braked with pending := rfl } }, rfl, rfl, rfl, id⟩

theorem leaveReleasing_glides (hs : s.motion.state = .releasing) : s.Glides s.leaveReleasing := by
  have free := released_glides hs
  have releasing : s.released.motion.state = .releasing := hs
  unfold State.leaveReleasing
  dsimp only
  split
  · exact .ite (fun _ => free.trans (enter_glides_of releasing rfl rfl nofun)) fun _ =>
      free.trans (enter_glides_of releasing rfl rfl nofun)
  · refine .ite (fun _ => ?_) fun _ => free.trans (enterHalting_glides_of releasing rfl ..)
    exact (free.trans clearPending_glides).trans (enter_glides_of releasing rfl rfl nofun)

/-- A pinch release that counts as over in HALTING, completed or timed out (R103). -/
theorem pinchOver_glides : s.Glides { s with motion := { s.motion with
    pinchTimer := none, halt := s.motion.halt.map (fun h => { h with pinchDone := true }) } } := by
  have ended {c : HaltCtx} (hc : s.motion.halt.map (fun h => { h with pinchDone := true }) = some c) : c.pinchDone = true := by
    obtain ⟨d, -, rfl⟩ := Option.map_eq_some_iff.1 hc
    rfl
  refine ⟨fun h => { h with
    pinch := fun pinched => ?_, held := fun c _ hc _ under => ?_, braked := fun braked => { h.braked braked with } },
    rfl, rfl, rfl, id⟩
  · refine (h.pinch pinched).imp_right (Or.imp_right fun ⟨state, c, hc, playing⟩ =>
      ⟨state, { c with pinchDone := true }, ?_, playing⟩)
    exact congrArg (Option.map _) hc
  · rw [ended hc] at under
    cases under

theorem reactPinch_glides (ht : s.reactPinch = some t) : s.Glides t := by
  unfold State.reactPinch at ht
  split at ht
  · cases ht
  · split at ht
    case h_1 e => split at ht <;> cases ht; exact engaged_glides e
    case h_2 e => split at ht <;> cases ht; exact leaveReleasing_glides e
    case h_3 e => split at ht <;> cases ht; exact pinchOver_glides.trans idleLoop_glides
    all_goals cases ht

theorem endHalting_mayBrake (hs : s.motion.state = .halting) (c : HaltCtx) : s.MayBrake (s.endHalting c) := by
  refine .ite (fun _ => enter_mayBrake rfl) fun _ => ?_
  split
  · exact (enter_glides_of (x := .stopped) hs rfl rfl nofun).mayBrake
  · exact enter_mayBrake rfl

/-- The pinch released in HALTING (R103). -/
theorem releasePinch_glides (hs : s.motion.state = .halting) :
    s.Glides { s with motion := { s.motion with pinchCmd := false, pinchTimer := some s.now } } := by
  refine ⟨fun h => { h with pinch := nofun, engaged := ?_, held := nofun, braked := fun braked => ?_ }, rfl, rfl, rfl, id⟩
  · rintro (e | e) <;> cases hs.symm.trans e
  · cases (hs ▸ braked : Transport.braked .halting = true)

theorem reactHalting_mayBrake (ht : s.reactHalting = some t) : s.MayBrake t := by
  unfold State.reactHalting at ht
  split at ht
  · rename_i hs _
    split at ht
    · split at ht
      · cases ht
        exact endHalting_mayBrake hs _
      · split at ht <;> cases ht
        exact (releasePinch_glides hs).mayBrake
    · cases ht
  · cases ht

theorem reactBraking_mayBrake (ht : s.reactBraking = some t) : s.MayBrake t := by
  unfold State.reactBraking at ht
  split at ht <;> cases ht
  exact enter_mayBrake rfl

theorem reactHold_glides (ht : s.reactHold = some t) : s.Glides t := by
  unfold State.reactHold at ht
  split at ht
  · split at ht
    · split at ht
      · cases ht; exact enter_glides_of ‹_› rfl rfl nofun
      · split at ht <;> cases ht
        rename_i due
        exact enter_glides_of due.1 rfl rfl nofun
    · cases ht
  · cases ht

theorem reactSettled_glides (ht : s.reactSettled = some t) : s.Glides t := by
  unfold State.reactSettled at ht
  split at ht
  · split at ht <;> cases ht
    rename_i due
    exact settleEnd_glides (driven_of_locateRuns due.2.2.2) _
  · cases ht

theorem reactQueue_glides (ht : s.reactQueue = some t) : s.Glides t := by
  unfold State.reactQueue at ht
  split at ht <;> cases ht
  exact activate_glides

theorem react_mayBrake (ht : s.react = some t) : s.MayBrake t := by
  rcases react_cases ht with ht | ht | ht | ht | ht | ht | ht | ht
  · exact reactTension_mayBrake ht
  · exact (reactSizing_glides ht).mayBrake
  · exact (reactPinch_glides ht).mayBrake
  · exact reactHalting_mayBrake ht
  · exact reactBraking_mayBrake ht
  · exact (reactHold_glides ht).mayBrake
  · exact (reactSettled_glides ht).mayBrake
  · exact (reactQueue_glides ht).mayBrake

theorem reactions_mayBrake (n : Nat) : s.MayBrake (s.reactions n) :=
  reactions_keep (P := s.MayBrake) (fun _ _ h ht => h.trans (react_mayBrake ht)) n s (glides_refl s).mayBrake

theorem syncLoop_glides : s.Glides s.syncLoop := by
  refine .ite (fun runs => ⟨fun h => { h with braked := fun braked => ?_ }, rfl, rfl, rfl, id⟩) fun _ => idleLoop_glides
  cases (loopRuns_of_braked (s := s) braked).symm.trans runs

theorem settle_mayBrake : s.MayBrake s.settle := (reactions_mayBrake 64).trans syncLoop_glides.mayBrake

end Sys2Proof.Machine
end

section
/-! The outputs and the reference (O5, O8): counts, samples, timers, the reference and the cue bits. -/

namespace Sys2Proof.Machine
variable {s t u : State} {w : List Group} {x : Transport} {o q : Host.Outcome State Fault Refusal}

/-! ### Outcomes -/

/-- What every command does: it keeps the outputs right, and the reference stays but for an entry into a braked state (R92). -/
structure State.Lawful (s t : State) : Prop where
  outputs   : s.OutputsOk → t.OutputsOk
  reference : t.motion.vRef = s.motion.vRef ∨ (t.motion.vRef = 0 ∧ t.motion.state.braked = true)

theorem State.MayBrake.lawful (h : s.MayBrake t) : s.Lawful t := ⟨h.outputs, h.reference.imp_left And.left⟩

theorem State.Glides.lawful (h : s.Glides t) : s.Lawful t := h.mayBrake.lawful

theorem State.Glides.then (h : s.Glides t) (k : t.Lawful u) : s.Lawful u :=
  ⟨k.outputs ∘ h.outputs, k.reference.imp_left fun e => e.trans h.vRef⟩

theorem State.Lawful.brakes (h : s.Lawful t) (k : t.MayBrake u) : s.Lawful u := by
  refine ⟨k.outputs ∘ h.outputs, ?_⟩
  rcases k.reference with ⟨vk, -, bk⟩ | braked
  · exact h.reference.imp vk.trans fun ⟨v, b⟩ => ⟨vk.trans v, bk b⟩
  · exact .inr braked

/-- Every next state that an outcome gives is lawful. -/
def LeadsLawful (s : State) (o : Host.Outcome State Fault Refusal) : Prop := ∀ t, o = .next t → s.Lawful t

theorem lawful_next (h : s.Lawful t) : LeadsLawful s (.next t) := fun _ e => by cases e; exact h

theorem lawful_refused (y : Refusal) : LeadsLawful s (.refused y) := fun _ e => by simp at e

theorem lawful_ite {p : Prop} [Decidable p] (ho : p → LeadsLawful s o) (hq : ¬p → LeadsLawful s q) :
    LeadsLawful s (if p then o else q) := by
  split
  · exact ho ‹_›
  · exact hq ‹_›

/-- The transmitters touch no output. -/
theorem handOver_glides : s.Glides s.handOver := by
  refine glides_of_registers ?_ handOver_reelL handOver_reelR handOver_capstan
  simp [Motion.outputs]

theorem lawful_handOver (h : s.Lawful t) : LeadsLawful s (.next t.handOver) := lawful_next (h.brakes handOver_glides.mayBrake)

/-- The end of most steps: the reactions due, then the transmitters. -/
theorem lawful_settled (h : s.Lawful t) : LeadsLawful s (.next t.settle.handOver) := lawful_handOver (h.brakes settle_mayBrake)

theorem lawful_refl (s : State) : s.Lawful s := (glides_refl s).lawful

theorem lawful_none : LeadsLawful s (.next s) := lawful_next (lawful_refl s)

theorem lawful_of_writes (e : WritesOnly w s o) (m : ∀ g ∈ outputGroups, g ∉ w) : LeadsLawful s o := by
  intro t e'
  obtain ⟨u, rfl | rfl, same⟩ := e t e'
  · exact (glides_of_sameBut same m).lawful
  · exact ((glides_of_sameBut same m).trans handOver_glides).lawful

/-- What is not a register of the outputs. -/
theorem reach_glides (n : Nat) : s.Glides (s.reach n) := glides_of_registers rfl rfl rfl rfl

theorem mayBrake_of_registers (motion : t.motion.outputs = s.motion.outputs) (left : t.reelL = s.reelL) (right : t.reelR = s.reelR)
    (capstan : t.capstan = s.capstan) : s.MayBrake t :=
  (glides_of_registers motion left right capstan).mayBrake

/-- Windows that close, or that count on. -/
theorem glides_of_windows (e : State.SameBut w s t) (m : ∀ g ∈ [Group.sequencer, .drive, .capstanLoop], g ∉ w)
    (left : s.reelL.window = none → t.reelL.window = none) (right : s.reelR.window = none → t.reelR.window = none) :
    s.Glides t := by
  have motion : t.motion = _ := e.same .sequencer (m _ (by decide))
  exact State.SameOutputs.glides
    ⟨by rw [motion]; rfl, e.same .drive (m _ (by decide)), left, right, e.same .capstanLoop (m _ (by decide))⟩

/-- In a driven state the drives may take any code within their range. -/
theorem glides_of_driven (driven : s.motion.state.braked = false) (motion : t.motion.outputs = s.motion.outputs)
    (codes : s.OutputsOk → t.reelL.code.natAbs ≤ 2047 ∧ t.reelR.code.natAbs ≤ 2047 ∧ t.capstan.code.natAbs ≤ 2047) :
    s.Glides t := by
  have state := state_of_outputs motion
  have halt := halt_of_outputs motion
  have pinch := pinchCmd_of_outputs motion
  have timer := pinchTimer_of_outputs motion
  refine ⟨fun h => ?_, vRef_of_outputs motion, aRef_of_outputs motion, congrArg Transport.braked state,
    fun e => state.symm.trans e⟩
  obtain ⟨codeL, codeR, capstan⟩ := codes h
  exact {
    codeL, codeR, capstan
    brakes := (brakeRelease_of_outputs motion).trans (by rw [state]; exact h.brakes)
    pinch := by rw [pinch, state, halt]; exact h.pinch
    engaged := by rw [pinch, state]; exact h.engaged
    held := by rw [pinch, state, halt, timer]; exact h.held
    braked := fun braked => by rw [state, driven] at braked; cases braked }

/-! ### Reset and start-up -/

theorem afterReset_lawful (k : ResetKind) (phase : StartPhase) : s.Lawful (s.afterReset k phase) :=
  ⟨fun _ => { reset_outputs with braked := fun _ => { reset_outputs.braked rfl with } }, .inr ⟨rfl, rfl⟩⟩

theorem linkReset_lawful (k : ResetKind) : s.Lawful (s.linkReset k) :=
  (((afterReset_lawful k .running).brakes (glides_of_sameBut handNotices_sameBut (by decide)).mayBrake).brakes
    readInputs_mayBrake).brakes settle_mayBrake

theorem execSettlePeriodEnd_lawful : LeadsLawful s (execSettlePeriodEnd s) := by
  unfold execSettlePeriodEnd
  split
  · refine lawful_next (State.Glides.then ?_ (readInputs_mayBrake.trans settle_mayBrake).lawful)
    exact glides_of_registers rfl rfl rfl rfl
  all_goals exact lawful_none

theorem execProfileLoadDone_lawful : LeadsLawful s (execProfileLoadDone s) := by
  unfold execProfileLoadDone
  split
  · refine lawful_next (State.Glides.lawful (.trans ?_ (glides_of_sameBut handNotices_sameBut (by decide))))
    exact State.SameOutputs.glides
      ⟨rfl, loadProfile_sameBut.same .drive (by decide), fun _ => rfl, fun _ => rfl,
        loadProfile_sameBut.same .capstanLoop (by decide)⟩
  all_goals exact lawful_none

theorem execDeferredReset_lawful : LeadsLawful s (execDeferredReset s) := by
  unfold execDeferredReset
  split
  · exact lawful_ite (fun _ => lawful_next (linkReset_lawful _)) fun _ => lawful_none
  · exact lawful_none

theorem chooseNext_lawful (l : Link) : s.Lawful ((s.idleTransmitter l).chooseNext l) := by
  have idle : ((s.idleTransmitter l).port l).sending = none := by cases l <;> rfl
  have fed : (s.idleTransmitter l).feed l = (s.idleTransmitter l).chooseNext l := by rw [State.feed, idle]
  have quiet : s.Glides (s.idleTransmitter l) := glides_of_sameBut (transmitter_sameBut l (s.port l).notice none) (by decide)
  have field {α : Type} (f : State → α) (h1 : ∀ (t : State) (p : LinkPort), f (t.withPort l p) = f t)
    (h2 : ∀ (t : State) (c : List Completion), f { t with motion := { t.motion with completions := c } } = f t) :=
    feed_field (s := s.idleTransmitter l) f h1 h2
  rw [← fed]
  refine (quiet.trans (glides_of_registers (field (·.motion.outputs) ?_ fun _ _ => rfl) (field (·.reelL) ?_ fun _ _ => rfl)
    (field (·.reelR) ?_ fun _ _ => rfl) (field (·.capstan) ?_ fun _ _ => rfl))).lawful
  all_goals
    intro t p
    cases l <;> rfl

theorem execTransmitDone_lawful (l : Link) : LeadsLawful s (execTransmitDone l s) := by
  have idle : s.Glides (s.idleTransmitter l) := glides_of_sameBut (transmitter_sameBut l (s.port l).notice none) (by decide)
  unfold execTransmitDone
  dsimp only
  split
  · exact lawful_ite (fun _ => lawful_next (idle.then (linkReset_lawful _))) fun _ => lawful_next (chooseNext_lawful l)
  · exact lawful_next (chooseNext_lawful l)

/-! ### Counts and rest -/

theorem deliverHit_glides (i : Nat) (c : Comparator) : s.Glides (s.deliverHit i c) := by
  unfold State.deliverHit
  split
  · split
    · exact .ite (fun _ => finishMove_glides _) fun _ => glides_refl s
    · exact glides_refl s
  · exact .ite (fun _ => glides_of_sameBut captureRun_sameBut (by decide)) fun _ => glides_refl s
  · split
    · exact glides_of_sameBut (captureDone_sameBut _) (by decide)
    · exact glides_of_sameBut captureTrigger_sameBut (by decide)
    · exact glides_refl s
  · exact glides_of_sameBut tryCueWrite_sameBut (by decide)
  · split
    · exact glides_of_sameBut (endCueWrite_sameBut _) (by decide)
    · exact glides_of_sameBut (endCueWrite_sameBut _) (by decide)
    · exact glides_refl s
  · exact glides_of_sameBut (reportTo_sameBut ..) (by decide)

theorem deliverHits_glides (l : List (Nat × Comparator)) :
    ∀ s : State, s.Glides (l.foldl (fun t y => t.deliverHit y.1 y.2) s) := by
  induction l with
  | nil => exact glides_refl
  | cons y l ih => exact fun s => (deliverHit_glides ..).trans (ih _)

theorem reports_glides (l : List Int) (src : Source) (n : Int) :
    ∀ s : State, s.Glides (l.foldl (fun t v => t.reportAt src v n) s) := by
  induction l with
  | nil => exact glides_refl
  | cons v l ih => exact fun s => (glides_of_sameBut (reportTo_sameBut ..) (by decide)).trans (ih _)

theorem stepZones_glides (d : Direction) : s.Glides (s.stepZones d) := by
  refine State.Glides.trans ?_ (reports_glides _ _ _ _)
  exact glides_of_registers rfl rfl rfl rfl

theorem stepComps_glides (d : Direction) : s.Glides (s.stepComps d) := by
  refine State.Glides.trans ?_ (deliverHits_glides _ _)
  exact glides_of_registers rfl rfl rfl rfl

theorem stepPosition_mayBrake (d : Direction) : s.MayBrake (s.stepPosition d) := by
  have stepped (y : State) : y.MayBrake ((y.stepZones d).stepComps d).settle :=
    ((stepZones_glides d).trans (stepComps_glides d)).mayBrake.trans settle_mayBrake
  refine State.MayBrake.trans ?_ (stepped _)
  exact mayBrake_of_registers rfl rfl rfl rfl

theorem execRollerCount_lawful (d : Direction) : LeadsLawful s (execRollerCount d s) := by
  have counted : s.Glides (s.rollerSums d) := by
    refine glides_of_windows (rollerSums_sameBut d) (by decide) (fun h => ?_) fun h => ?_
    · exact congrArg (Option.map _) h
    · exact congrArg (Option.map _) h
  exact lawful_ite (fun _ => lawful_ite (fun _ => lawful_next counted.lawful) fun _ =>
    lawful_handOver (counted.then (stepPosition_mayBrake d).lawful)) fun _ => lawful_none

theorem execReelCount_lawful (y : Side) (d : Direction) : LeadsLawful s (execReelCount y d s) := by
  refine lawful_ite (fun _ => lawful_ite (fun _ => ?_) fun driven => ?_) fun _ => lawful_none
  · exact lawful_next (glides_of_sameBut (tach_sameBut y d) (by decide)).lawful
  · have same := ((tach_sameBut (s := s) y d).trans (withReel_sameBut y
      (counted_drive (State.reel { s with position := s.position.tach y d } y) s.profile d s.now))).trans reformGuards_sameBut
    obtain ⟨⟨-, codeL, -⟩, -, codeR, -⟩ := same.same .drive (by decide)
    obtain ⟨-, capstan, -⟩ := same.same .capstanLoop (by decide)
    have motion : _ = _ := same.same .sequencer (by decide)
    refine lawful_settled (State.Glides.then
      (glides_of_driven (Bool.eq_false_of_not_eq_true driven) (by rw [motion]; rfl) fun h => ?_)
      (State.MayBrake.ite (fun _ => latchFault_mayBrake _) fun _ => (glides_refl _).mayBrake).lawful)
    rw [codeL, codeR, capstan]
    exact ⟨h.codeL, h.codeR, h.capstan⟩

theorem execWindowTimeout_lawful (r : Side) : LeadsLawful s (execWindowTimeout r s) := by
  unfold execWindowTimeout
  split
  · refine lawful_next (State.Glides.lawful ((reach_glides _).trans (glides_of_windows
      (withReel_window_sameBut r none) (by decide) ?_ ?_)))
    all_goals cases r <;> first | exact id | exact fun _ => rfl
  · exact lawful_none

theorem execRestTimerExpiry_lawful : LeadsLawful s (execRestTimerExpiry s) := by
  refine lawful_ite (fun _ => lawful_none) fun _ => lawful_settled (State.Glides.lawful (.trans
    (t := { s.reach (s.position.restStart + Config.msec 100) with
      position := { (s.reach (s.position.restStart + Config.msec 100)).position with atRest := true } }) ?_ ?_))
  · exact glides_of_registers rfl rfl rfl rfl
  · unfold State.restSettled
    split
    · exact .ite (fun due => settleEnd_glides (driven_of_locateRuns due.2) _) fun _ => glides_refl _
    · exact glides_refl _

/-! ### Samples and input lines -/

theorem armMoved_mayBrake (d : Side) : s.MayBrake (s.armMoved d) := by
  have reported : s.Glides (State.report { s with watch := none } .armMoved (sideNum d)) := by
    refine State.Glides.trans ?_ (report_glides ..)
    exact glides_of_registers rfl rfl rfl rfl
  refine .ite (fun _ => (reported.mayBrake.trans (enter_mayBrake (x := .unthreaded) rfl)).trans ?_) fun _ => reported.mayBrake
  exact (glides_of_windows restartReels_sameBut (by decide) (fun _ => rfl) fun _ => rfl).mayBrake

theorem watchArm_mayBrake (d : Side) (raw : Nat) : s.MayBrake (s.watchArm d raw) := by
  unfold State.watchArm
  split
  · exact (glides_refl s).mayBrake
  · exact .ite (fun _ => armMoved_mayBrake d) fun _ => mayBrake_of_registers rfl rfl rfl rfl

theorem currentSample_mayBrake (m : Motor) (raw : Nat) : s.MayBrake (s.currentSample m raw) := by
  cases m
  all_goals
    refine State.MayBrake.trans ?_ (latchIf_mayBrake ..)
    exact mayBrake_of_registers rfl rfl rfl rfl

theorem handSample_mayBrake (y : Slot) (raw : Nat) : s.MayBrake (s.handSample y raw) := by
  have judged (d : Side) (f : Nat) : s.MayBrake (s.judgeArm d f) := (glides_of_sameBut (judgeArm_sameBut d f) (by decide)).mayBrake
  cases y
  case armL => exact (judged ..).trans (watchArm_mayBrake .left raw)
  case armR => exact (judged ..).trans (watchArm_mayBrake .right raw)
  case curL => exact currentSample_mayBrake .left raw
  case curR => exact currentSample_mayBrake .right raw
  case curC => exact currentSample_mayBrake .capstan raw
  case supply =>
    refine .ite (fun _ => State.MayBrake.trans ?_ (latchIf_mayBrake ..)) fun _ => (glides_refl s).mayBrake
    exact mayBrake_of_registers rfl rfl rfl rfl
  case idle => exact (glides_refl s).mayBrake

theorem execConversionComplete_lawful (raw : BitVec 12) : LeadsLawful s (execConversionComplete raw s) := by
  refine lawful_ite (fun _ => lawful_none) fun _ => lawful_settled (State.Glides.then ?_ (handSample_mayBrake ..).lawful)
  exact glides_of_registers rfl rfl rfl rfl

/-- A fault latched behind what touches no output. -/
theorem latched_lawful (h : s.Glides t) (k : FaultKind) : LeadsLawful s (.next (t.latchFault k).settle.handOver) :=
  lawful_settled (h.then (latchFault_mayBrake k).lawful)

theorem execDriveFaultInput_lawful (m : Motor) (b : Bool) : LeadsLawful s (execDriveFaultInput m b s) := by
  refine lawful_ite (fun _ => latched_lawful ?_ _) fun _ => lawful_next (State.Glides.lawful ?_)
  all_goals exact glides_of_registers rfl rfl rfl rfl

theorem execSupplyWarningInput_lawful (b : Bool) : LeadsLawful s (execSupplyWarningInput b s) := by
  refine lawful_ite (fun _ => latched_lawful ?_ _) fun _ => lawful_next (State.Glides.lawful ?_)
  all_goals exact glides_of_registers rfl rfl rfl rfl

/-! ### The servos -/

/-- A driven reel's code lies within the range (R41, R42). -/
theorem driven_code (r : Reel) (tm : Nat) (raw : Int) : (r.driven tm raw).1.code.natAbs ≤ 2047 := by
  have clamped := clampInt_natAbs tm raw
  rw [driven_eq _ _ _ _ (clampInt_eq (-(tm : Int)) tm raw (by omega))]
  change (Int.tdiv (clampInt (-(tm : Int)) tm raw * 2047) tm).natAbs ≤ 2047
  rw [Int.natAbs_tdiv, Int.natAbs_mul]
  refine Nat.div_le_of_le_mul ?_
  exact Nat.mul_le_mul_right 2047 clamped

theorem driveReels_glides (driven : s.motion.state.braked = false) : s.Glides s.driveReels := by
  refine glides_of_driven driven
    (driveReels_field (·.motion.outputs) (fun _ _ _ => rfl) (fun _ _ _ => rfl) fun _ l _ => by cases l <;> rfl)
    fun h => ⟨?_, ?_, ?_⟩
  · rw [show s.driveReels.reelL = s.driveReels.reel .left from rfl, driveReels_reel]
    exact driven_code ..
  · rw [show s.driveReels.reelR = s.driveReels.reel .right from rfl, driveReels_reel]
    exact driven_code ..
  · rw [driveReels_field (·.capstan) (fun _ _ _ => rfl) (fun _ _ _ => rfl) fun _ l _ => by cases l <;> rfl]
    exact h.capstan

theorem execReelServoUpdate_lawful : LeadsLawful s (execReelServoUpdate s) := by
  refine lawful_ite (fun _ => ?_) fun driven => ?_
  · refine lawful_next (State.Glides.lawful ?_)
    exact glides_of_registers rfl rfl rfl rfl
  · refine lawful_handOver (State.Glides.lawful (.trans (.trans ?_ (driveReels_glides (Bool.eq_false_of_not_eq_true driven))) ?_))
    all_goals exact glides_of_registers rfl rfl rfl rfl

/-- A capstan loop that is idle has its code and I at 0, and in a braked state it is idle (R42, R102). -/
theorem capstan_glides {c : Capstan} (code : c.code.natAbs ≤ 2047) (running : c.running = s.capstan.running)
    (idle : s.capstan.running = false → c.code = 0 ∧ c.integral = 0) : s.Glides { s with capstan := c } := by
  refine ⟨fun h => { h with capstan := code, braked := fun braked => ?_ }, rfl, rfl, rfl, id⟩
  have held := h.braked braked
  obtain ⟨capstan, integral⟩ := idle held.loop
  exact { held with capstan, integral, loop := running.trans held.loop }

theorem execCapstanUpdate_lawful : LeadsLawful s (execCapstanUpdate s) := by
  refine lawful_next ((reach_glides _).trans (capstan_glides ?_ ?_ fun idle => ?_)).lawful
  · dsimp only
    split
    · exact clampInt_natAbs 2047 _
    · exact Nat.zero_le 2047
  · dsimp only
    split <;> rfl
  · dsimp only
    rw [idle]
    exact ⟨rfl, rfl⟩

/-! ### The ends of timers -/

theorem execRollerSlipTimeout_lawful : LeadsLawful s (execRollerSlipTimeout s) := by
  unfold execRollerSlipTimeout
  split
  · exact latched_lawful (by exact glides_of_registers rfl rfl rfl rfl) _
  · exact lawful_none

/-- A timed pinch release counts as over (R103). -/
theorem execPinchTimeout_lawful : LeadsLawful s (execPinchTimeout s) := by
  unfold execPinchTimeout
  split
  · refine latched_lawful ?_ _
    exact (reach_glides _).trans pinchOver_glides
  · exact lawful_none

theorem execDurationExpiry_lawful : LeadsLawful s (execDurationExpiry s) := by
  unfold execDurationExpiry
  split
  · exact lawful_settled ((reach_glides _).trans (finishMove_glides _)).lawful
  · exact lawful_none

theorem execThreadCheckTimeout_lawful : LeadsLawful s (execThreadCheckTimeout s) := by
  unfold execThreadCheckTimeout
  split
  · exact lawful_settled (((reach_glides _).mayBrake.trans (enter_mayBrake rfl)).trans (report_glides ..).mayBrake).lawful
  · exact lawful_none

theorem execMeasureTimeout_lawful : LeadsLawful s (execMeasureTimeout s) := by
  unfold execMeasureTimeout
  split
  · exact latched_lawful (reach_glides _) _
  · exact lawful_none

theorem execBrakingTimeout_lawful : LeadsLawful s (execBrakingTimeout s) := by
  unfold execBrakingTimeout
  split
  · exact lawful_settled ((reach_glides _).mayBrake.trans (enter_mayBrake rfl)).lawful
  · exact lawful_none

/-- The end of all moves and the halt behind it (R82, R105). -/
theorem stopped_glides (res : MoveResult) : s.Glides (s.endAll res).stopTransport := (endAll_glides res).trans stopTransport_glides

theorem execSupervisionExpiry_lawful : LeadsLawful s (execSupervisionExpiry s) := by
  unfold execSupervisionExpiry
  split
  · refine lawful_settled (State.Glides.lawful (.trans (.trans ?_ (stopped_glides _)) (report_glides ..)))
    exact glides_of_registers rfl rfl rfl rfl
  · exact lawful_none

end Sys2Proof.Machine
end

section
/-! The outputs and the reference (O5, O8): the reference update, the chase, the cue bits, the requests and every command. -/

namespace Sys2Proof.Machine
variable {s t u : State} {w : List Group} {x : Transport} {kind : Byte} {r : Request}

/-! ### The reference update -/

theorem stepLocate_glides : s.Glides s.stepLocate := by
  unfold State.stepLocate
  split
  · split
    · exact .ite (fun _ => passTarget_glides (driven_of_locateRuns ‹_›) _) fun _ => withLocate_glides _
    · exact glides_refl s
  · exact glides_refl s

theorem reportGuard_glides (d : Direction) : s.Glides (s.reportGuard d) := by
  refine .ite (fun _ => glides_refl s) fun _ => .trans ?_ (report_glides ..)
  exact glides_of_registers rfl rfl rfl rfl

theorem settleHeld_glides : s.Glides s.settleHeld := by
  unfold State.settleHeld
  split
  · exact .ite (fun _ => withLocate_glides _) fun _ => glides_refl s
  · exact glides_refl s

theorem endWinding_glides (d : Demand) (v : Int) : s.Glides (s.endWinding d v) := by
  have limited : s.Glides (match d.dir with
      | some y => if s.guardLimits y v then s.reportGuard y else s
      | none => s) := by
    split
    · exact .ite (fun _ => reportGuard_glides _) fun _ => glides_refl s
    · exact glides_refl s
  unfold State.endWinding
  dsimp only
  split
  · have first : s.Glides (if s.zones.updated then _ else s) := .ite (fun _ => limited) fun _ => glides_refl s
    exact .ite (fun _ => .ite (fun _ => first.trans (failMove_glides _)) fun _ =>
      .ite (fun _ => limited.trans (failMove_glides _)) fun _ => limited) fun _ => limited
  · exact limited.trans settleHeld_glides

theorem endPinched_glides : s.Glides s.endPinched := by
  have stopped : s.Glides (if s.barrierStops then s.failMove .blocked else s) :=
    .ite (fun _ => failMove_glides _) fun _ => glides_refl s
  unfold State.endPinched
  split
  · exact glides_refl s
  · split
    · exact .ite (fun _ => (reportGuard_glides _).trans (failMove_glides _)) fun _ => stopped
    · exact stopped

/-- A run-up is in WINDING. -/
theorem driven_of_runUp (h : s.runUp = true) : s.motion.state.braked = false := by
  unfold State.runUp at h
  split at h
  · rename_i e _
    rw [e]
    rfl
  · cases h

theorem endUpdate_glides (d : Demand) (v : Int) : s.Glides (s.endUpdate d v) := by
  unfold State.endUpdate
  split
  case h_1 =>
    refine .ite (fun ends => (endWinding_glides d v).trans (enter_glides (driven_of_runUp ?_) rfl nofun)) fun _ =>
      endWinding_glides d v
    simp only [State.runUpEnds, Bool.and_eq_true] at ends
    exact ends.1.1
  case h_2 | h_3 | h_4 => exact endPinched_glides
  all_goals exact glides_refl s

theorem noteUpdate_glides : s.Glides s.noteUpdate := glides_of_registers rfl rfl rfl rfl

/-- In a driven state the outputs do not depend on the reference. -/
theorem reference_outputs (h : s.OutputsOk) (driven : s.motion.state.braked = false) (v a : Int) (n : Nat) (z : ZoneTable) :
    State.OutputsOk { s with motion := { s.motion with vRef := v, aRef := a, accel := n }, zones := z } := by
  refine { h with braked := fun braked => ?_ }
  rw [show Transport.braked _ = s.motion.state.braked from rfl, driven] at braked
  cases braked

theorem stepReference_outputs (h : s.OutputsOk) (driven : s.motion.state.braked = false) (d : Demand) :
    (s.stepReference d).OutputsOk :=
  reference_outputs h driven _ _ _ _

theorem referenceStep_outputs (h : s.OutputsOk) (driven : s.motion.state.braked = false) : s.referenceStep.OutputsOk := by
  have formed : s.Glides s.stepLocate.formCeilings := by
    refine State.Glides.trans stepLocate_glides ?_
    exact glides_of_registers rfl rfl rfl rfl
  exact noteUpdate_glides.outputs ((endUpdate_glides _ _).outputs
    (stepReference_outputs (formed.outputs h) (formed.braked.trans driven) _))

theorem execReferenceUpdate_outputs (h : s.OutputsOk) (e : execReferenceUpdate s = .next t) : t.OutputsOk := by
  have begun : State.OutputsOk { s.reach (s.motion.lastUpdate + Config.updateTime) with
      motion := { s.motion with lastUpdate := (s.reach (s.motion.lastUpdate + Config.updateTime)).now } } := by
    refine State.Glides.outputs (s := s) ?_ h
    exact glides_of_registers rfl rfl rfl rfl
  unfold execReferenceUpdate at e
  dsimp only at e
  split at e <;> cases e
  · refine handOver_glides.outputs { begun with braked := fun braked => { begun.braked braked with vRef := rfl, aRef := rfl } }
  · rename_i driven
    exact handOver_glides.outputs (settle_mayBrake.outputs (referenceStep_outputs begun (Bool.eq_false_of_not_eq_true driven)))

/-! ### Reference words and losses -/

theorem withCounts_glides (n m : Nat) : s.Glides (s.withCounts n m) := glides_of_registers rfl rfl rfl rfl

theorem correct_glides (e : Int) : s.Glides (s.correct e) := glides_of_registers rfl rfl rfl rfl

theorem dropSeek_glides : s.Glides s.dropSeek := glides_of_registers rfl rfl rfl rfl

theorem seekWord_glides (f : Nat) : s.Glides (s.seekWord f) := by
  unfold State.seekWord
  split
  · exact .ite (fun _ => beginSeek_glides f) fun _ => .ite (fun _ => dropSeek_glides) fun _ => glides_refl s
  · exact glides_refl s

theorem approachWord_glides (e : Int) : s.Glides (s.approachWord e) :=
  .ite (fun _ => ((setChase_glides _).trans (withCounts_glides ..)).trans (correct_glides e)) fun _ =>
    (withCounts_glides ..).trans (correct_glides e)

theorem lockedWord_glides (e : Int) : s.Glides (s.lockedWord e) :=
  .ite (fun _ => ((setChase_glides _).trans (withCounts_glides ..)).trans (correct_glides e)) fun _ =>
    (withCounts_glides ..).trans (correct_glides e)

theorem followWord_glides (f : Nat) : s.Glides (s.followWord f) := by
  unfold State.followWord
  split
  · exact failMove_glides _
  · exact .ite (fun _ => ((setChase_glides .seek).trans (withCounts_glides 0 0)).trans (beginSeek_glides f)) fun _ =>
      .ite (fun _ => glides_refl s) fun _ => .ite (fun _ => lockedWord_glides _) fun _ => approachWord_glides _

theorem returnWord_glides (f : Nat) : s.Glides (s.returnWord f) := by
  have back : s.Glides { s with chase := { s.chase with freewheel := none, origin := none } } := glides_of_registers rfl rfl rfl rfl
  unfold State.returnWord
  dsimp only
  split
  · exact back.trans (failMove_glides _)
  · exact .ite (fun _ => (back.trans (setChase_glides _)).trans (beginSeek_glides f)) fun _ =>
      ((back.trans (.ite (fun _ => dropSeek_glides) fun _ => glides_refl _)).trans (setChase_glides _)).trans (withCounts_glides ..)

theorem chaseWord_glides (f : Nat) : s.Glides (s.chaseWord f) := by
  unfold State.chaseWord
  split
  case h_1 => exact seekWord_glides f
  case h_2 | h_3 => exact followWord_glides f
  case h_4 | h_5 => exact .ite (fun _ => returnWord_glides f) fun _ => glides_refl s
  case h_6 => exact glides_refl s

theorem becomeLost_glides : s.Glides s.becomeLost := by
  have dropped : s.Glides (if s.seeking then s.dropSeek else s) := .ite (fun _ => dropSeek_glides) fun _ => glides_refl s
  refine State.Glides.trans (dropped.trans ?_) (setChase_glides .lost)
  exact glides_of_registers rfl rfl rfl rfl

theorem freewheel_glides (c : ChaseOrigin) : s.Glides (s.freewheel c) := by
  refine .ite (fun _ => (withCounts_glides 0 0).trans becomeLost_glides) fun _ => .trans ?_ (setChase_glides .freewheel)
  exact glides_of_registers rfl rfl rfl rfl

theorem loseReference_glides : s.Glides s.loseReference := by
  unfold State.loseReference
  split
  case h_1 | h_2 | h_3 => exact freewheel_glides _
  all_goals exact glides_refl s

theorem execReferenceWord_lawful (y : BcdTime) (rev : Bool) : LeadsLawful s (execReferenceWord y rev s) := by
  refine lawful_ite (fun _ => lawful_none) fun _ => ?_
  split
  · rename_i f _
    have read : s.Glides (s.readWord f) := glides_of_registers rfl rfl rfl rfl
    exact lawful_settled (read.trans (.ite (fun _ => chaseWord_glides f) fun _ => glides_refl _)).lawful
  · exact lawful_next (State.Glides.lawful (t := s.breakRun) (glides_of_registers rfl rfl rfl rfl))

theorem execLossTimerExpiry_lawful : LeadsLawful s (execLossTimerExpiry s) := by
  unfold execLossTimerExpiry
  split
  · refine lawful_settled (State.Glides.lawful (.trans ?_ (.ite (fun _ => loseReference_glides) fun _ => glides_refl _)))
    exact glides_of_registers rfl rfl rfl rfl
  · exact lawful_none

theorem execFreewheelExpiry_lawful : LeadsLawful s (execFreewheelExpiry s) := by
  unfold execFreewheelExpiry
  split
  · exact lawful_settled ((reach_glides _).trans becomeLost_glides).lawful
  · exact lawful_none

/-! ### Cue bits -/

theorem reportMark_glides : s.Glides s.reportMark := by
  have taken : s.Glides (if s.waitsForCue then s.finishMove .done else s) :=
    .ite (fun _ => finishMove_glides _) fun _ => glides_refl s
  exact .ite (fun _ => (taken.trans (glides_of_sameBut storeCue_sameBut (by decide))).trans
    (glides_of_sameBut (reportTo_sameBut ..) (by decide))) fun _ =>
    taken.trans (glides_of_sameBut (reportTo_sameBut ..) (by decide))

theorem judgeBit_glides (d : Direction) : s.Glides (s.judgeBit d) := by
  have marked (b : Bool) (y : State) : y.Glides (if b then y.reportMark else y) :=
    .ite (fun _ => reportMark_glides) fun _ => glides_refl y
  have cleared (b : Bool) (y : State) : y.Glides (if b then y.reportClear else y) :=
    .ite (fun _ => report_glides ..) fun _ => glides_refl y
  refine State.Glides.trans (State.Glides.trans ?_ (marked _ _)) (cleared _ _)
  exact glides_of_registers rfl rfl rfl rfl

theorem execCueBit_lawful (b : Bool) : LeadsLawful s (execCueBit b s) := by
  refine lawful_ite (fun _ => lawful_none) fun _ => lawful_ite (fun _ => lawful_next ?_) fun _ => lawful_settled ?_
  · exact (glides_of_sameBut writeBit_sameBut (by decide)).lawful
  · refine State.Glides.lawful (.ite (fun _ => .trans ?_ (judgeBit_glides _)) fun _ => ?_)
    all_goals exact glides_of_registers rfl rfl rfl rfl

/-! ### Requests -/

/-- A request is lawful when its answer is. -/
theorem request_lawful {answer : State → Answer} (ha : ∀ y : State, y.Lawful (answer y).state) :
    LeadsLawful s (s.request kind r answer) := by
  have taken : s.Glides (s.takeFrame kind r).1 := glides_of_sameBut (takeFrame_sameBut kind r) (by decide)
  exact lawful_ite (fun _ => lawful_refused _) fun _ => lawful_ite (fun _ => lawful_handOver
    ((taken.then (ha _)).brakes (glides_of_sameBut (replies_sameBut ..) (by decide)).mayBrake)) fun _ => lawful_next taken.lawful

/-- A checked request is lawful when the act that all its checks grant is. -/
theorem checked_lawful {checks : List Check} {act : Answer} (ha : (∀ c ∈ checks, c = none) → s.Lawful act.state) :
    s.Lawful (s.checked checks act).state := by
  unfold State.checked
  split
  · exact lawful_refl s
  · rename_i e
    exact ha fun c hc => List.findSome?_eq_none_iff.1 e c hc

/-- An act that ends in the reactions. -/
theorem State.Glides.settled (h : s.Glides t) : s.Lawful t.settle := (h.mayBrake.trans settle_mayBrake).lawful

theorem join_glides (y : MoveRecord) : s.Glides (s.join y) := by
  unfold State.join
  dsimp only
  split <;> exact glides_of_registers rfl rfl rfl rfl

theorem afterJoin_glides : s.Glides s.afterJoin :=
  .ite (fun _ => supersede_glides.trans activate_glides) fun _ => supersede_glides

theorem execSubmitMove_lawful (r : Request) : LeadsLawful s (execSubmitMove r s) :=
  request_lawful fun _ => checked_lawful fun _ => ((join_glides _).trans afterJoin_glides).settled

theorem flushAll_glides : s.Glides s.flushAll := by
  unfold State.flushAll
  split
  · exact glides_refl s
  · exact stopped_glides _

theorem flushWaiting_glides : s.Glides s.flushWaiting := by
  refine State.Glides.trans (glides_of_sameBut (dropRecords_sameBut s.waiting s) (by decide)) ?_
  exact glides_of_registers rfl rfl rfl rfl

theorem execFlushMoves_lawful (r : Request) : LeadsLawful s (execFlushMoves r s) := by
  refine request_lawful fun _ => checked_lawful fun _ => ?_
  split
  · exact flushAll_glides.settled
  · exact flushWaiting_glides.lawful

theorem execStop_lawful (r : Request) : LeadsLawful s (execStop r s) :=
  request_lawful fun _ => checked_lawful fun _ => (stopped_glides _).settled

theorem restartReels_glides : s.Glides s.restartReels :=
  glides_of_windows restartReels_sameBut (by decide) (fun _ => rfl) fun _ => rfl

/-- SIZING is entered with the reference as it stands. -/
theorem enterSizing_lawful (v : SizingVariant) : s.Lawful (s.enterSizing v) := by
  have begun : s.Glides { s with motion := { s.motion with
      sizing := some ⟨.threadCheck, v, s.position.pos, s.now, 0⟩, accel := s.profile.accel } } :=
    glides_of_registers rfl rfl rfl rfl
  refine begun.then ⟨fun h => enter_outputs h .sizing, .inl ?_⟩
  rw [State.enterSizing, enter_motion]
  rfl

theorem execSizeReels_lawful (r : Request) : LeadsLawful s (execSizeReels r s) :=
  request_lawful fun _ => checked_lawful fun _ => (restartReels_glides.then (enterSizing_lawful _)).brakes settle_mayBrake

theorem execEnterStandby_lawful (r : Request) : LeadsLawful s (execEnterStandby r s) :=
  request_lawful fun _ => checked_lawful fun _ => ((enter_mayBrake rfl).trans settle_mayBrake).lawful

theorem execWake_lawful (r : Request) : LeadsLawful s (execWake r s) :=
  request_lawful fun _ => checked_lawful fun _ => (enterSizing_lawful _).brakes settle_mayBrake

theorem clearKinds_glides : s.Glides s.clearKinds := by
  have restarted : s.Glides (if .tapeBreak ∈ s.faults.set ∨ .radiusLost ∈ s.faults.set then s.restartReels else s) :=
    .ite (fun _ => restartReels_glides) fun _ => glides_refl s
  refine State.Glides.trans restarted ?_
  exact glides_of_registers rfl rfl rfl rfl

theorem clearFault_lawful : s.Lawful s.clearFault.state := by
  unfold State.clearFault
  split
  · have cleared : s.Glides { s.clearKinds with faults := { s.clearKinds.faults with primary := none } } := by
      refine clearKinds_glides.trans ?_
      exact glides_of_registers rfl rfl rfl rfl
    exact ((cleared.mayBrake.trans (enter_mayBrake rfl)).trans settle_mayBrake).lawful
  · exact clearKinds_glides.lawful

theorem execClearFault_lawful (r : Request) : LeadsLawful s (execClearFault r s) :=
  request_lawful fun _ => checked_lawful fun _ => clearFault_lawful

theorem withOwner_glides (p : Owner) : s.Glides (s.withOwner p) := glides_of_sameBut (withOwner_sameBut p) (by decide)

theorem claim_lawful (l : Link) : s.Lawful (s.claim l) := by
  unfold State.claim
  split
  · exact (withOwner_glides _).lawful
  · exact (withOwner_glides _).lawful
  · exact (((withOwner_glides _).trans (stopped_glides _)).trans (glides_of_sameBut (reportTo_sameBut ..) (by decide))).settled
  · exact lawful_refl s
  · exact lawful_refl s

theorem execClaimTransport_lawful (r : Request) : LeadsLawful s (execClaimTransport r s) :=
  request_lawful fun _ => checked_lawful fun _ => claim_lawful _

theorem execResetPart_lawful (r : Request) : LeadsLawful s (execResetPart r s) := by
  refine request_lawful fun y => checked_lawful fun _ => ?_
  unfold State.resetPart
  split
  · exact lawful_refl _
  · refine State.Glides.settled (.trans ?_ (stopped_glides .halted))
    exact glides_of_registers rfl rfl rfl rfl

theorem writeProfile_glides (b : Bytes) : s.Glides (s.writeProfile b) := by
  have closed (y : Reel) (p q : Profile) (h : y.window = none) : (y.reprofiled p q).window = none := by
    unfold Reel.reprofiled
    split
    · rfl
    · exact h
  exact glides_of_windows (writeProfile_sameBut b) (by decide) (closed s.reelL _ _) (closed s.reelR _ _)

theorem execWriteProfile_lawful (r : Request) : LeadsLawful s (execWriteProfile r s) :=
  request_lawful fun _ => checked_lawful fun _ => (writeProfile_glides _).lawful

/-! ### Every command -/

theorem exec_lawful (c : Instr) (other : c ≠ .referenceUpdate) : LeadsLawful s (exec c s) := by
  have quiet : ∀ {c w}, writable c = some w → (∀ g ∈ outputGroups, g ∉ w) → LeadsLawful s (exec c s) :=
    fun e m => lawful_of_writes (exec_writes e) m
  cases c with
  | powerOn | resetLine => exact lawful_next (afterReset_lawful ..)
  | settlePeriodEnd => exact execSettlePeriodEnd_lawful
  | profileLoadDone => exact execProfileLoadDone_lawful
  | rollerCount d => exact execRollerCount_lawful d
  | reelCount r d => exact execReelCount_lawful r d
  | windowTimeout r => exact execWindowTimeout_lawful r
  | restTimerExpiry => exact execRestTimerExpiry_lawful
  | conversionComplete raw => exact execConversionComplete_lawful raw
  | driveFaultInput m b => exact execDriveFaultInput_lawful m b
  | supplyWarningInput b => exact execSupplyWarningInput_lawful b
  | reelServoUpdate => exact execReelServoUpdate_lawful
  | rollerSlipTimeout => exact execRollerSlipTimeout_lawful
  | referenceUpdate => exact absurd rfl other
  | capstanUpdate => exact execCapstanUpdate_lawful
  | pinchEngagedSense b =>
    refine lawful_settled (State.Glides.lawful ?_)
    exact glides_of_registers rfl rfl rfl rfl
  | pinchTimeout => exact execPinchTimeout_lawful
  | durationExpiry => exact execDurationExpiry_lawful
  | threadCheckTimeout => exact execThreadCheckTimeout_lawful
  | measureTimeout => exact execMeasureTimeout_lawful
  | brakingTimeout => exact execBrakingTimeout_lawful
  | supervisionExpiry => exact execSupervisionExpiry_lawful
  | referenceWord w rev => exact execReferenceWord_lawful w rev
  | lossTimerExpiry => exact execLossTimerExpiry_lawful
  | freewheelExpiry => exact execFreewheelExpiry_lawful
  | cueBit b => exact execCueBit_lawful b
  | transmitDone l => exact execTransmitDone_lawful l
  | deferredReset => exact execDeferredReset_lawful
  | claimTransport r => exact execClaimTransport_lawful r
  | submitMove r => exact execSubmitMove_lawful r
  | flushMoves r => exact execFlushMoves_lawful r
  | stop r => exact execStop_lawful r
  | sizeReels r => exact execSizeReels_lawful r
  | enterStandby r => exact execEnterStandby_lawful r
  | wake r => exact execWake_lawful r
  | clearFault r => exact execClearFault_lawful r
  | writeProfile r => exact execWriteProfile_lawful r
  | resetPart r => exact execResetPart_lawful r
  | resetInputRelease | capstanCount | tapeTimecodeWord | captureSampleEvent | positionReportPeriod | frameReceived | byteReceived
  | frameGapTimeout | profileWriteDone | unknownKind | readStatus | readPosition | readReelModel | readMoves | readLocateTable
  | readZones | readCapture | readProfile | readEvents | releaseTransport | setZone | clearZone | setLocateEntry
  | clearLocateEntry | setAnchor | setSchedule | setEventMask | acknowledgeEvents | setReportRate | watchPosition | cancelWatch
  | armCapture | triggerCapture | abortCapture | releaseCapture | setCueCodes | setAutoCue | writeCue | cancelCueWrite =>
    exact quiet rfl (by decide)

theorem exec_outputs (h : s.OutputsOk) (c : Instr) (e : exec c s = .next t) : t.OutputsOk := by
  by_cases update : c = .referenceUpdate
  · subst update
    exact execReferenceUpdate_outputs h e
  · exact (exec_lawful c update t e).outputs h

/-- Settles O5: every command but the update is lawful, and the law says so of the reference. -/
theorem onlyUpdateMovesReference : Obligations.OnlyUpdateMovesReference :=
  fun c _ t other e => (exec_lawful c other t e).reference

/-- Settles O8: the clock's tick touches no output, and a command runs on the state with the queue's rest, which has the
same outputs. -/
theorem stepKeepsOutputs : Obligations.StepKeepsOutputs := by
  intro s t h e
  unfold step at e
  split at e
  · exact exec_outputs (outputs_congr h (sameOutputs_of_sameBut (withPending_sameBut _) (by decide))) _ e
  · cases e
    exact outputs_congr h (sameOutputs_of_sameBut tick_sameBut (by decide))

end Sys2Proof.Machine
end

section
/-! ENTER_STANDBY (O55): what the request comes to, and what standby leaves (R109). -/

namespace Sys2Proof.Machine
variable {s t : State} {r : Request}

/-- A granted Enter Standby comes to the state it finds. -/
theorem enterStandby_eq (h : s.Takes 0x16 r t) (g : t.Grants r.link) (empty : r.body = []) : exec (.enterStandby r) s =
    .next (((t.checked [check t.mayPark .wrongState] ((t.enter .standby).settle.ok [])).replied 0x16 r).handOver) :=
  owned_request (n := 0) (checks := fun x => [check x.mayPark .wrongState]) (act := fun x => (x.enter .standby).settle.ok [])
    h g (by rw [empty]; rfl)

theorem enterStandby_notOwner (h : s.Takes 0x16 r t) (other : t.ctl.owner ≠ Link.owner r.link) :
    exec (.enterStandby r) s = .next (t.answered 0x16 r .notOwner []) := by
  change execEnterStandby r s = _
  rw [execEnterStandby, request_of_takes h, owns_not other]
  rfl

theorem enterStandby_resetPending (h : s.Takes 0x16 r t) (owns : t.ctl.owner = Link.owner r.link)
    (pending : t.ctl.resetPending ≠ none) :
    exec (.enterStandby r) s = .next (t.answered 0x16 r .resetPending []) := by
  change execEnterStandby r s = _
  rw [execEnterStandby, request_of_takes h, owns_of owns, noReset_not pending]
  rfl

theorem mayPark_iff : s.mayPark = true ↔
    s.motion.state = .unthreaded ∨ (s.motion.state = .stopped ∧ s.motion.queue = [] ∧ s.position.atRest = true) := by
  simp only [State.mayPark, Bool.or_eq_true, Bool.and_eq_true, decide_eq_true_eq, List.isEmpty_iff, and_assoc]

/-- The standby watch takes its snapshot from the last arm samples (R62). -/
theorem enter_standby_watch : (s.enter .standby).watch = some ⟨s.conv.armL, s.conv.armR, 0, 0⟩ := by
  have conv : (if s.motion.state = .playing ∧ Transport.standby ≠ .playing then s.leavePlaying else s).conv = s.conv := by
    split
    · exact leavePlaying_sameBut.same .converter (by decide)
    · rfl
  rw [← conv]
  rfl

/-- In STANDBY nothing is due. -/
theorem settle_enter_standby : (s.enter .standby).settle = (s.enter .standby).syncLoop :=
  settle_of_none (react_none_of_parked (.inl (by rw [enter_motion])))

/-- Settles O55: the refusals by the checks in their order, the acceptance by the entry into STANDBY, after which nothing is due. -/
theorem enterStandby : Obligations.EnterStandby := by
  intro s t r takes empty
  refine ⟨enterStandby_notOwner takes, enterStandby_resetPending takes,
    fun grants => ⟨fun may => ?_, fun threaded busy => ?_⟩⟩
  · obtain ⟨-, ⟨estL, confL, streakL, -⟩, ⟨estR, confR, streakR, -⟩, -⟩ :=
      sameModel_of_backdrop (settle_backdrop.trans (enter_backdrop .standby) : (t.enter .standby).settle.backdrop = t.backdrop)
    rw [enterStandby_eq takes grants empty, mayPark_iff.2 may]
    refine ⟨(t.enter .standby).settle, rfl, ?_, ?_, ?_, ?_, confL, confR, estL, estR, streakL, streakR⟩
    all_goals rw [settle_enter_standby]
    · rw [syncLoop_motion, enter_motion]
    · rw [syncLoop_motion, enter_motion]
      rfl
    · exact enter_syncLoop_braked rfl
    · rw [syncLoop_watch, enter_standby_watch]
  · rw [enterStandby_eq takes grants empty,
      Bool.eq_false_of_not_eq_true fun may => (mayPark_iff.1 may).elim threaded busy]
    rfl

end Sys2Proof.Machine
end

section
/-! REFERENCE_UPDATE (O42): the step of the reference, its bound, and what the end of the step leaves of it (R92). -/

namespace Sys2Proof.Machine
variable {s t u : State} {a : ActiveMove}

/-! ### The update as a whole -/

/-- The state with the clock at the update's moment. -/
def State.atUpdate (s : State) : State :=
  { s.reach (s.motion.lastUpdate + Config.updateTime) with
    motion := { s.motion with lastUpdate := (s.reach (s.motion.lastUpdate + Config.updateTime)).now } }

theorem referenceUpdate_braked (braked : s.motion.state.braked = true) : exec .referenceUpdate s = .next
    (State.handOver { s.atUpdate.formCeilings with motion := { s.atUpdate.motion with vRef := 0, aRef := 0 } }) :=
  if_pos braked

theorem referenceUpdate_driven (driven : s.motion.state.braked = false) :
    exec .referenceUpdate s = .next s.atUpdate.referenceStep.settle.handOver :=
  if_neg (by rw [Bool.not_eq_true]; exact driven)

/-- The state in which an update forms its demand: the locate's phase and the ceilings are judged first (R99, R120). -/
def State.judged (s : State) : State := s.stepLocate.formCeilings

/-- The demand of an update. -/
def State.demanded (s : State) : Demand := s.judged.demand s.judged.ceiling

/-- An update up to the step of the reference. -/
def State.stepTaken (s : State) : State := s.judged.stepReference s.demanded

theorem referenceStep_eq : s.referenceStep = (s.stepTaken.endUpdate s.demanded s.judged.motion.vRef).noteUpdate := rfl

theorem judged_glides : s.Glides s.judged := by
  refine State.Glides.trans stepLocate_glides ?_
  exact glides_of_registers rfl rfl rfl rfl

/-- What follows the step of the reference keeps it. -/
theorem referenceStep_glides : s.stepTaken.Glides s.referenceStep := (endUpdate_glides _ _).trans noteUpdate_glides

theorem referenceStep_now : s.referenceStep.now = s.now := by
  have stepped : s.stepTaken.now = s.stepLocate.now := rfl
  have ended : s.referenceStep.now = s.stepTaken.now := field_of_backdrop (endUpdate_backdrop ..) (·.now) fun _ => rfl
  rw [ended, stepped]
  exact field_of_backdrop stepLocate_backdrop (·.now) fun _ => rfl

/-- The moment of the update is kept to the end of its step. -/
theorem settled_lastUpdate : s.referenceStep.settle.motion.lastUpdate = s.motion.lastUpdate := by
  have settled : s.referenceStep.settle.motion.lastUpdate = s.referenceStep.motion.lastUpdate :=
    same_of_backdrop settle_backdrop .updateTime (by decide)
  exact settled.trans (referenceStep_sameBut.same .updateTime (by decide))

/-! ### The step of the reference (R92) -/

/-- The ceiling descent judged for an update (R121). -/
def State.descentJudged (s : State) (d : Demand) : State :=
  { s with zones := { s.zones with descent := s.descends d.speed (s.demand (fun _ => none)).speed } }

/-- The accel under which an update steps the reference (R92, R121). -/
def State.stepAccel (s : State) (d : Demand) : Nat := (s.descentJudged d).accelInForce

/-- The reference after an update's step toward a demand. -/
def State.stepSpeed (s : State) (d : Demand) : Int :=
  clampInt (-(s.profile.shuttle : Int)) s.profile.shuttle (stepToward s.motion.vRef d.speed (s.stepAccel d / 4))

theorem stepReference_motion (d : Demand) : (s.stepReference d).motion =
    { s.motion with accel := s.stepAccel d, vRef := s.stepSpeed d, aRef := 4 * (s.stepSpeed d - s.motion.vRef) } := rfl

theorem stepToward_near (v d : Int) (n : Nat) : (stepToward v d n - v).natAbs ≤ n := by
  unfold stepToward
  split
  · assumption
  · split <;> omega

/-- A clamp to a range brings nothing further from a point of the range. -/
theorem clampInt_near {n : Nat} {v : Int} (h : v.natAbs ≤ n) (x : Int) :
    (clampInt (-(n : Int)) n x - v).natAbs ≤ (x - v).natAbs := by
  rw [clampInt_eq _ _ _ (by omega)]
  omega

theorem stepSpeed_near (h : s.motion.vRef.natAbs ≤ s.profile.shuttle) (d : Demand) :
    4 * (s.stepSpeed d - s.motion.vRef).natAbs ≤ s.stepAccel d := by
  have near : (s.stepSpeed d - s.motion.vRef).natAbs ≤ s.stepAccel d / 4 := (clampInt_near h _).trans (stepToward_near ..)
  omega

theorem stepSpeed_le (d : Demand) : (s.stepSpeed d).natAbs ≤ s.profile.shuttle := clampInt_natAbs ..

/-! ### The accel in force (R92) -/

theorem accelInForce_driven (driven : s.motion.state.braked = false) :
    s.accelInForce = s.profile.aStop ∨ s.accelInForce = s.profile.accel ∨ s.accelInForce = s.moveAccel := by
  unfold State.accelInForce
  cases h : s.motion.state
  case unthreaded | braking | fault | standby => rw [h] at driven; cases driven
  case winding =>
    dsimp only
    split
    · exact .inl rfl
    · exact .inr (.inr rfl)
  case halting => exact .inl rfl
  case sizing => exact .inr (.inl rfl)
  all_goals exact .inr (.inr rfl)

theorem countPass_moveAccel : s.countPass.moveAccel = s.moveAccel := by
  unfold State.countPass
  split
  · rfl
  · unfold State.moveAccel State.onActive
    cases s.motion.active <;> rfl

/-- The fourth pass of a locate ends in HALTING, or leaves SIZING as it is. -/
theorem overshoot_state (runs : s.locateRuns = true) :
    s.overshoot.motion.state = .halting ∨ s.overshoot.motion.state = .sizing := by
  rw [State.locateRuns, Bool.or_eq_true, decide_eq_true_eq, decide_eq_true_eq] at runs
  unfold State.overshoot
  split
  · exact .inl ((congrArg Motion.state (report_motion ..)).trans (enterHalting_state _ _))
  · rw [State.failMove]
    rcases runs with state | state
    · rw [queueEmptied_of_winding ((endActive_state _).trans state)]
      exact .inl (enterHalting_state _ _)
    · right
      rw [State.queueEmptied, endActive_state, state]
      exact (endActive_state _).trans state

/-- What the judging of a locate leaves of the accel (R99). -/
theorem stepLocate_accel : s.stepLocate.motion.state = .halting ∨ s.stepLocate.motion.state = .sizing ∨
    s.stepLocate.moveAccel = s.moveAccel := by
  unfold State.stepLocate
  split
  · split
    · split
      · unfold State.passTarget
        split
        · exact .inr (.inr countPass_moveAccel)
        · exact (overshoot_state ‹_›).imp_right .inl
      · exact .inr (.inr rfl)
    · exact .inr (.inr rfl)
  · exact .inr (.inr rfl)

theorem judged_profile : s.judged.profile = s.profile := field_of_backdrop stepLocate_backdrop (·.profile) fun _ => rfl

/-- The accel of an update's step is a_stop, the profile's or the move's (R92). -/
theorem judged_accel (driven : s.motion.state.braked = false) (d : Demand) : s.judged.stepAccel d = s.profile.aStop ∨
    s.judged.stepAccel d = s.profile.accel ∨ s.judged.stepAccel d = s.moveAccel := by
  have profile := judged_profile (s := s)
  rcases stepLocate_accel (s := s) with state | state | accel
  · exact .inl ((accelInForce_halting (s := s.judged.descentJudged d) state).trans (congrArg Profile.aStop profile))
  · exact .inr (.inl ((accelInForce_sizing (s := s.judged.descentJudged d) state).trans (congrArg Profile.accel profile)))
  · have cases := accelInForce_driven (s := s.judged.descentJudged d) (judged_glides.braked.trans driven)
    exact cases.imp (fun e => e.trans (congrArg Profile.aStop profile)) (.imp (fun e => e.trans (congrArg Profile.accel profile))
      fun e => e.trans accel)

/-! ### The reference at the end of the step -/

theorem referenceStep_vRef : s.referenceStep.motion.vRef = s.judged.stepSpeed s.demanded := referenceStep_glides.vRef

theorem referenceStep_aRef : s.referenceStep.motion.aRef = 4 * (s.judged.stepSpeed s.demanded - s.motion.vRef) := by
  rw [referenceStep_glides.aRef, State.stepTaken, stepReference_motion, judged_glides.vRef]

theorem referenceStep_driven (driven : s.motion.state.braked = false) : s.referenceStep.motion.state.braked = false :=
  referenceStep_glides.braked.trans (judged_glides.braked.trans driven)

/-- What the reactions keep of an update made with both arms NORMAL outside SIZING: the reference, but that at 0 a halt may end in a
braked state (R92, R104). -/
structure State.KeepsReference (s t : State) : Prop where
  vRef   : t.motion.vRef = s.motion.vRef
  aRef   : t.motion.state.braked = false → t.motion.aRef = s.motion.aRef
  braked : t.motion.state.braked = true → s.motion.vRef = 0
  sizing : t.motion.state ≠ .sizing
  armL   : t.armL = s.armL
  armR   : t.armR = s.armR

theorem keepsReference_refl (driven : s.motion.state.braked = false) (sizing : s.motion.state ≠ .sizing) : s.KeepsReference s :=
  ⟨rfl, fun _ => rfl, fun braked => absurd (driven.symm.trans braked) nofun, sizing, rfl, rfl⟩

theorem State.KeepsReference.glides (h : s.KeepsReference t) (k : t.Glides u) (e : u.backdrop = t.backdrop) :
    s.KeepsReference u where
  vRef := k.vRef.trans h.vRef
  aRef driven := k.aRef.trans (h.aRef (k.braked ▸ driven))
  braked braked := h.braked (k.braked ▸ braked)
  sizing := fun sizing => h.sizing (k.sizing sizing)
  armL := (field_of_backdrop e (·.armL) fun _ => rfl).trans h.armL
  armR := (field_of_backdrop e (·.armR) fun _ => rfl).trans h.armR

theorem State.KeepsReference.brakes (h : s.KeepsReference t) (k : t.MayBrake u) (e : u.backdrop = t.backdrop)
    (zero : s.motion.vRef = 0) : s.KeepsReference u where
  vRef := by
    rcases k.reference with ⟨vRef, -⟩ | ⟨vRef, -⟩
    · exact vRef.trans h.vRef
    · exact vRef.trans zero.symm
  aRef driven := by
    rcases k.reference with ⟨-, aRef, braked⟩ | ⟨-, braked⟩
    · exact aRef.trans (h.aRef (Bool.eq_false_of_not_eq_true fun held => by rw [braked held] at driven; cases driven))
    · rw [braked] at driven
      cases driven
  braked _ := zero
  sizing := fun sizing => h.sizing (k.sizing sizing)
  armL := (field_of_backdrop e (·.armL) fun _ => rfl).trans h.armL
  armR := (field_of_backdrop e (·.armR) fun _ => rfl).trans h.armR

theorem react_keepsReference (armL : s.armL.state = .normal) (armR : s.armR.state = .normal) (h : s.KeepsReference t)
    (ht : t.react = some u) : s.KeepsReference u := by
  have back := react_backdrop ht
  rcases react_cases ht with ht | ht | ht | ht | ht | ht | ht | ht
  · rw [reactTension_none (by rw [h.armL]; exact armL) (by rw [h.armR]; exact armR)] at ht
    cases ht
  · rw [reactSizing_none h.sizing] at ht
    cases ht
  · exact h.glides (reactPinch_glides ht) back
  · refine h.brakes (reactHalting_mayBrake ht) back ?_
    by_contra moving
    rw [reactHalting_none_of_motion (.inr (h.vRef.trans_ne moving))] at ht
    cases ht
  · refine h.brakes (reactBraking_mayBrake ht) back (h.braked ?_)
    by_contra driven
    have other : t.motion.state ≠ .braking := fun e => driven (by rw [e]; rfl)
    rw [reactBraking_none (.inl other)] at ht
    cases ht
  · exact h.glides (reactHold_glides ht) back
  · exact h.glides (reactSettled_glides ht) back
  · exact h.glides (reactQueue_glides ht) back

theorem settle_keepsReference (armL : s.armL.state = .normal) (armR : s.armR.state = .normal)
    (driven : s.motion.state.braked = false) (sizing : s.motion.state ≠ .sizing) : s.KeepsReference s.settle :=
  (reactions_keep (P := s.KeepsReference) (fun _ _ h ht => react_keepsReference armL armR h ht) 64 s
    (keepsReference_refl driven sizing)).glides syncLoop_glides syncLoop_backdrop

end Sys2Proof.Machine
end

section
/-! REFERENCE_UPDATE (O42): the demand of each transport state, and the obligation (R93, R97, R99, R101). -/

namespace Sys2Proof.Machine
variable {s t u : State} {m : ActiveMove} {l : LocateCtx} {D : Int} {a : Nat}

/-! ### The demand by state (R93) -/

/-- The update finds a demand and steps toward it under an accel. -/
def State.Demands (s : State) (D : Int) (a : Nat) : Prop := s.demanded.speed = D ∧ s.judged.stepAccel s.demanded = a

theorem judged_speed (h : stepToward s.motion.vRef s.demanded.speed (s.judged.stepAccel s.demanded / 4) =
      stepToward s.motion.vRef D (a / 4)) : s.judged.stepSpeed s.demanded =
    max (-(s.profile.shuttle : Int)) (min (s.profile.shuttle : Int) (stepToward s.motion.vRef D (a / 4))) := by
  rw [State.stepSpeed, judged_profile, judged_glides.vRef, h, clampInt_eq _ _ _ (by omega)]

theorem stepToward_self (v : Int) (n : Nat) : stepToward v v n = v := by simp [stepToward]

theorem stepLocate_of_unlocated (h : s.motion.locate = none) : s.stepLocate = s := by
  unfold State.stepLocate
  rw [h]

/-- Outside WINDING and SIZING no locate runs. -/
theorem stepLocate_of_state (winding : s.motion.state ≠ .winding) (sizing : s.motion.state ≠ .sizing) : s.stepLocate = s := by
  have idle : s.locateRuns = false := by simp [State.locateRuns, winding, sizing]
  unfold State.stepLocate
  split
  · rw [if_neg (ne_true_of_eq_false idle)]
  · rfl

theorem judged_of_state (winding : s.motion.state ≠ .winding) (sizing : s.motion.state ≠ .sizing) : s.judged = s.formCeilings := by
  rw [State.judged, stepLocate_of_state winding sizing]

theorem demands_halting (h : s.motion.state = .halting) : s.Demands 0 s.profile.aStop := by
  rw [State.Demands, State.demanded, judged_of_state (by simp [h]) (by simp [h])]
  exact ⟨by rw [State.demand, show s.formCeilings.motion.state = _ from h],
    accelInForce_halting (s := s.formCeilings.descentJudged _) h⟩

theorem demands_stopped (h : s.motion.state = .stopped) : s.Demands 0 s.moveAccel := by
  rw [State.Demands, State.demanded, judged_of_state (by simp [h]) (by simp [h])]
  refine ⟨by rw [State.demand, show s.formCeilings.motion.state = _ from h], ?_⟩
  rw [State.stepAccel, State.accelInForce, show (s.formCeilings.descentJudged _).motion.state = _ from h]
  rfl

/-- In a pinch transition the reference demands itself. -/
theorem demanded_pinching (h : s.motion.state = .engaging ∨ s.motion.state = .releasing) : s.demanded.speed = s.motion.vRef := by
  rcases h with h | h <;>
  · rw [State.demanded, judged_of_state (by simp [h]) (by simp [h]), State.demand, show s.formCeilings.motion.state = _ from h]
    rfl

/-- The speed PLAYING asks for under its move (R93, R101). -/
def State.playSpeed (s : State) (m : ActiveMove) : Int :=
  match m.kind with
  | .hold => 0
  | .play => s.profile.vPlay * (10000 + m.vari + s.chase.c) / 10000
  | _ => s.profile.vPlay * (10000 + s.chase.c) / 10000

theorem playingDemand_eq (ha : s.motion.active = some m) : s.playingDemand = s.playSpeed m := by
  unfold State.playingDemand State.playSpeed State.capstanGoal capstanTarget
  rw [ha]
  cases kind : m.kind <;> simp [kind]

theorem demands_playing (h : s.motion.state = .playing) (ha : s.motion.active = some m) : s.Demands (s.playSpeed m) m.accel := by
  rw [State.Demands, State.demanded, judged_of_state (by simp [h]) (by simp [h])]
  refine ⟨?_, accelInForce_move (s := s.formCeilings.descentJudged _) ha (.inr (.inl h))⟩
  rw [State.demand, show s.formCeilings.motion.state = _ from h]
  exact playingDemand_eq (s := s.formCeilings) ha

/-! ### WINDING without ceilings -/

theorem zoneList_of_empty (clear : ∀ z, some z ∉ s.zones.entries) : s.zoneList = [] := by
  refine List.filterMap_eq_nil_iff.2 fun o ho => ?_
  cases o with
  | none => rfl
  | some z => exact absurd ho (clear z)

/-- No zone in the table and no guard active: no direction has a ceiling (R119, R120, R124). -/
structure State.Unlimited (s : State) : Prop where
  clear  : ∀ z, some z ∉ s.zones.entries
  guardF : s.zones.guardF = none
  guardR : s.zones.guardR = none

theorem State.Unlimited.guard (h : s.Unlimited) (d : Direction) : s.guard d = none := by
  cases d
  · exact h.guardF
  · exact h.guardR

theorem State.Unlimited.ceiling (h : s.Unlimited) : s.ceiling = fun _ => none := by
  funext d
  rw [State.ceiling, h.guard, State.zoneCeiling, zoneList_of_empty h.clear]
  rfl

theorem descends_self (x : Int) : s.descends x x = false := by
  unfold State.descends
  split
  · simp
  · rfl

/-- Without ceilings there is no descent, so that the move's own accel is in force (R121). -/
theorem State.Unlimited.stepAccel (h : s.Unlimited) (hs : s.motion.state = .winding) (ha : s.motion.active = some m) :
    s.stepAccel (s.demand s.ceiling) = m.accel := by
  refine accelInForce_move (s := s.descentJudged _) ha (.inr (.inr ⟨hs, ?_⟩))
  change s.descends _ _ = false
  rw [h.ceiling]
  exact descends_self _

/-- The top speed of a move without ceilings. -/
def State.topSpeed (s : State) (m : ActiveMove) : Nat := min m.ceiling s.profile.shuttle

/-- Without ceilings the demand of WINDING is the move's own (R93). -/
theorem State.Unlimited.demands (h : s.Unlimited) (hs : s.motion.state = .winding) (ha : s.motion.active = some m)
    {x : State} (hx : s.stepLocate = x) (hz : x.zones = s.zones) (hm : x.motion = { s.motion with locate := x.motion.locate }) :
    s.Demands (x.windingDemand m (fun _ => none)).speed m.accel := by
  have entries : x.formCeilings.zones.entries = s.zones.entries := (congrArg ZoneTable.entries hz :)
  have free : x.formCeilings.Unlimited :=
    ⟨by rw [entries]; exact h.clear, (congrArg ZoneTable.guardF hz).trans h.guardF, (congrArg ZoneTable.guardR hz).trans h.guardR⟩
  have winding : x.formCeilings.motion.state = .winding := (congrArg Motion.state hm).trans hs
  have active : x.formCeilings.motion.active = some m := (congrArg Motion.active hm).trans ha
  rw [State.Demands, State.demanded, State.judged, hx]
  refine ⟨?_, free.stepAccel winding active⟩
  rw [free.ceiling, State.demand, winding, active]
  rfl

/-- The demand of a WIND, a PLAY's run-up or a HOLD in WINDING without ceilings (R93, R97, R100). -/
theorem State.Unlimited.demands_unlocated (h : s.Unlimited) (hs : s.motion.state = .winding) (ha : s.motion.active = some m)
    (hl : s.motion.locate = none)
    (hD : (m.kind = .wind ∧ m.dir = some .forward ∧ D = s.topSpeed m) ∨
      (m.kind = .wind ∧ m.dir = some .reverse ∧ D = -(s.topSpeed m : Int)) ∨
      (m.kind = .play ∧ D = (min s.profile.vPlay (s.topSpeed m) : Nat)) ∨ (m.kind = .hold ∧ D = 0)) : s.Demands D m.accel := by
  have demands := h.demands hs ha (stepLocate_of_unlocated hl) rfl rfl
  refine (?_ : (s.windingDemand m fun _ => none).speed = D) ▸ demands
  unfold State.windingDemand
  rcases hD with ⟨kind, dir, rfl⟩ | ⟨kind, dir, rfl⟩ | ⟨kind, rfl⟩ | ⟨kind, rfl⟩ <;> rw [kind]
  · rw [dir]
    exact one_mul _
  · rw [dir]
    exact neg_one_mul _
  · rfl

/-! ### A LOCATE in WINDING without ceilings (R99) -/

/-- The phase of a LOCATE that has not passed its target, from its remaining distance and its braking distance. -/
theorem nextPhase_of {p : Profile} {pos v r b : Int} (hr : l.remaining pos = r) (hb : (brakingDistance p v.natAbs a : Int) = b) :
    (l.phase = .run → b < r → l.nextPhase p pos v a = .run) ∧
    (l.phase = .run → r ≤ b → l.nextPhase p pos v a = .creep) ∧
    (l.phase = .creep → b < r ∨ p.creep < v.natAbs → l.nextPhase p pos v a = .creep) ∧
    (l.phase = .creep → r ≤ b → v.natAbs ≤ p.creep → l.nextPhase p pos v a = .settle) ∧
    (l.phase = .settle → l.nextPhase p pos v a = .settle) := by
  unfold LocateCtx.nextPhase
  rw [hr, hb]
  refine ⟨fun phase far => ?_, fun phase near => ?_, fun phase fast => ?_, fun phase near slow => ?_,
    fun phase => ?_⟩ <;> rw [phase]
  · rw [decide_eq_false (not_le.2 far)]
    rfl
  · rw [decide_eq_true near]
    rfl
  · refine if_neg ?_
    rw [Bool.and_eq_true, decide_eq_true_eq, decide_eq_true_eq]
    omega
  · rw [decide_eq_true near, decide_eq_true slow]
    rfl

theorem stepLocate_of_near (hl : s.motion.locate = some l) (hs : s.motion.state = .winding)
    (near : -(s.profile.tolerance : Int) ≤ l.remaining s.position.pos) : s.stepLocate =
      s.withLocate { l with phase := l.nextPhase s.profile s.position.pos s.motion.vRef s.accelInForce } := by
  have runs : s.locateRuns = true := by simp [State.locateRuns, hs]
  have ahead : l.passed s.profile s.position.pos = false := decide_eq_false (not_lt.2 near)
  unfold State.stepLocate
  rw [hl]
  dsimp only
  rw [if_pos runs, ahead]
  rfl

/-- The demand of a LOCATE's phase without ceilings (R99). -/
theorem State.Unlimited.demands_located (h : s.Unlimited) (hs : s.motion.state = .winding) (ha : s.motion.active = some m)
    (hk : m.kind = .locate) (hl : s.motion.locate = some l) (descent : s.zones.descent = false)
    (near : -(s.profile.tolerance : Int) ≤ l.remaining s.position.pos) {x : LocatePhase}
    (hx : l.nextPhase s.profile s.position.pos s.motion.vRef m.accel = x) :
    s.Demands (LocateCtx.demand { l with phase := x } s.profile (s.topSpeed m)).speed m.accel := by
  have stepped := stepLocate_of_near hl hs near
  rw [accelInForce_move ha (.inr (.inr ⟨hs, descent⟩)), hx] at stepped
  have demands := h.demands hs ha stepped rfl rfl
  have asked : State.windingDemand (s.withLocate { l with phase := x }) m (fun _ => none) =
      LocateCtx.demand { l with phase := x } s.profile (s.topSpeed m) := by
    unfold State.windingDemand
    rw [hk]
    rfl
  rwa [asked] at demands

theorem remaining_eq (pos : Int) : l.remaining pos = (if l.dir = .forward then 1 else -1) * (l.target - pos) := by
  unfold LocateCtx.remaining
  cases l.dir
  · exact (one_mul _).symm
  · rw [if_neg nofun, neg_one_mul, neg_sub]

theorem dirSign_eq (d : Direction) : dirSign d = if d = .forward then 1 else -1 := by
  cases d <;> rfl

/-- The demand of a LOCATE without ceilings, by its phase, its remaining distance and its braking distance (R99). -/
theorem State.Unlimited.demands_locate (h : s.Unlimited) (hs : s.motion.state = .winding) (ha : s.motion.active = some m)
    (hk : m.kind = .locate) (hl : s.motion.locate = some l) (descent : s.zones.descent = false) {sgn r b : Int}
    (hsgn : sgn = if l.dir = .forward then 1 else -1) (hr : r = sgn * (l.target - s.position.pos))
    (near : -(s.profile.tolerance : Int) ≤ r) (hb : (brakingDistance s.profile s.motion.vRef.natAbs m.accel : Int) = b)
    (hD : (l.phase = .run ∧ b < r ∧ D = sgn * s.topSpeed m) ∨
      (((l.phase = .run ∧ r ≤ b) ∨ (l.phase = .creep ∧ (b < r ∨ s.profile.creep < s.motion.vRef.natAbs))) ∧
        D = sgn * (min s.profile.creep (s.topSpeed m) : Nat)) ∨
      ((l.phase = .settle ∨ (l.phase = .creep ∧ r ≤ b ∧ s.motion.vRef.natAbs ≤ s.profile.creep)) ∧ D = 0)) :
    s.Demands D m.accel := by
  have remains : l.remaining s.position.pos = r := by rw [remaining_eq, hr, hsgn]
  have sign : dirSign l.dir = sgn := by rw [dirSign_eq, hsgn]
  obtain ⟨runs, slows, creeps, settles, stays⟩ := nextPhase_of (p := s.profile) (a := m.accel) remains hb
  have demands {x : LocatePhase} := h.demands_located (x := x) hs ha hk hl descent (by rw [remains]; exact near)
  have crept (phase : l.nextPhase s.profile s.position.pos s.motion.vRef m.accel = .creep) :
      s.Demands (sgn * (min s.profile.creep (s.topSpeed m) : Nat)) m.accel := sign ▸ demands phase
  rcases hD with ⟨run, far, rfl⟩ | ⟨⟨run, close⟩ | ⟨creep, fast⟩, rfl⟩ | ⟨settle | ⟨creep, close, slow⟩, rfl⟩
  · exact sign ▸ demands (runs run far)
  · exact crept (slows run close)
  · exact crept (creeps creep fast)
  · exact demands (stays settle)
  · exact demands (settles creep close slow)

/-! ### The obligation -/

/-- What an update made with both arms NORMAL outside SIZING leaves of the reference, from its step toward its demand. -/
theorem update_reference (armL : s.armL.state = .normal) (armR : s.armR.state = .normal) (driven : s.motion.state.braked = false)
    (sizing : s.motion.state ≠ .sizing) (h : stepToward s.motion.vRef s.demanded.speed (s.judged.stepAccel s.demanded / 4) =
      stepToward s.motion.vRef D (a / 4)) :
    s.referenceStep.settle.motion.vRef =
      max (-(s.profile.shuttle : Int)) (min (s.profile.shuttle : Int) (stepToward s.motion.vRef D (a / 4))) ∧
    (s.referenceStep.settle.motion.state.braked = false → s.referenceStep.settle.motion.aRef =
      4 * (s.referenceStep.settle.motion.vRef - s.motion.vRef)) := by
  have arms : s.referenceStep.armL = s.armL ∧ s.referenceStep.armR = s.armR := referenceStep_sameBut.same .arms (by decide)
  have kept := settle_keepsReference (s := s.referenceStep) (by rw [arms.1]; exact armL) (by rw [arms.2]; exact armR)
    (referenceStep_driven driven) fun state => sizing (judged_glides.sizing (referenceStep_glides.sizing state))
  rw [kept.vRef, referenceStep_vRef]
  exact ⟨judged_speed h, fun free => (kept.aRef free).trans referenceStep_aRef⟩

theorem update_reference_of_demands (armL : s.armL.state = .normal) (armR : s.armR.state = .normal)
    (driven : s.motion.state.braked = false) (sizing : s.motion.state ≠ .sizing) (h : s.Demands D a) :
    s.referenceStep.settle.motion.vRef =
      max (-(s.profile.shuttle : Int)) (min (s.profile.shuttle : Int) (stepToward s.motion.vRef D (a / 4))) ∧
    (s.referenceStep.settle.motion.state.braked = false → s.referenceStep.settle.motion.aRef =
      4 * (s.referenceStep.settle.motion.vRef - s.motion.vRef)) := by
  obtain ⟨speed, accel⟩ := h
  exact update_reference armL armR driven sizing (by rw [speed, accel])

/-- The bound of an update: its step is within the accel in force, and behind it the reference is kept, or 0 in a braked state
(R92). -/
theorem update_bounded (driven : s.motion.state.braked = false) (within : s.motion.vRef.natAbs ≤ s.profile.shuttle) :
    s.referenceStep.settle.motion.vRef.natAbs ≤ s.profile.shuttle ∧
      ((s.referenceStep.settle.motion.state.braked = true ∧ s.referenceStep.settle.motion.vRef = 0) ∨
        ∃ a, (a = s.profile.aStop ∨ a = s.profile.accel ∨ a = s.moveAccel) ∧
          4 * (s.referenceStep.settle.motion.vRef - s.motion.vRef).natAbs ≤ a) := by
  have profile := judged_profile (s := s)
  have before : s.judged.motion.vRef = s.motion.vRef := judged_glides.vRef
  have near := stepSpeed_near (s := s.judged) (by rw [before, profile]; exact within) s.demanded
  have bound := stepSpeed_le (s := s.judged) s.demanded
  rw [before] at near
  rw [profile] at bound
  rcases (settle_mayBrake (s := s.referenceStep)).reference with ⟨kept, -⟩ | ⟨stopped, braked⟩
  · rw [kept, referenceStep_vRef]
    exact ⟨bound, .inr ⟨_, judged_accel driven s.demanded, near⟩⟩
  · rw [stopped]
    exact ⟨Nat.zero_le _, .inl ⟨braked, rfl⟩⟩

/-- Settles O42: a braked state forms the ceilings alone; else the step of the reference has its bound (`update_bounded`) and goes
toward the demand of the state (`update_reference`), which the lemmas above give case by case. -/
theorem referenceUpdate : Obligations.ReferenceUpdate := by
  intro s
  cases braked : s.motion.state.braked with
  | true =>
    refine ⟨_, referenceUpdate_braked braked, rfl, rfl, fun _ => ⟨rfl, rfl, rfl⟩, fun _ => ⟨Nat.zero_le _, .inl ⟨braked, rfl⟩⟩,
      fun D a _ _ asked => ?_⟩
    rcases asked with ⟨e, -⟩ | ⟨e, -⟩ | ⟨e | e, -⟩ | ⟨_, -, -, e, -⟩ | ⟨_, _, -, -, e, -⟩ <;> rw [e] at braked <;> cases braked
  | false =>
    have now : s.atUpdate.referenceStep.settle.now = s.atUpdate.now := settle_now.trans referenceStep_now
    have update : s.atUpdate.referenceStep.settle.motion.lastUpdate = s.atUpdate.now := settled_lastUpdate
    refine ⟨_, referenceUpdate_driven braked, now, update.trans now.symm, nofun, update_bounded (s := s.atUpdate) braked,
      fun D a armL armR asked => ?_⟩
    have outside {x : Transport} (e : s.motion.state = x) (hx : x ≠ .sizing) : s.atUpdate.motion.state ≠ .sizing :=
      fun sizing => hx (e.symm.trans sizing)
    have found := update_reference_of_demands (s := s.atUpdate) (D := D) (a := a) armL armR braked
    rcases asked with ⟨e, rfl, rfl⟩ | ⟨e, rfl, rfl⟩ | ⟨e, rfl⟩ | ⟨m, ha, rfl, e, hD⟩ |
      ⟨m, top, ha, rfl, e, descent, clear, guardF, guardR, rfl, asked⟩
    · exact found (outside e nofun) (demands_halting (s := s.atUpdate) e)
    · exact found (outside e nofun) (demands_stopped (s := s.atUpdate) e)
    · refine update_reference (s := s.atUpdate) armL armR braked (by rcases e with e | e <;> exact outside e nofun) ?_
      rw [demanded_pinching (s := s.atUpdate) e]
      exact (stepToward_self ..).trans (stepToward_self ..).symm
    · refine found (outside e nofun) ?_
      have played : D = s.atUpdate.playSpeed m := hD.trans (by unfold State.playSpeed; cases m.kind <;> rfl)
      rw [played]
      exact demands_playing (s := s.atUpdate) e ha
    · have free : s.atUpdate.Unlimited := ⟨clear, guardF, guardR⟩
      refine found (outside e nofun) ?_
      rcases asked with ⟨hl, hD⟩ | ⟨l, sgn, r, b, hk, hl, -, hsgn, hr, near, hb, hD⟩
      · exact free.demands_unlocated e ha hl hD
      · exact free.demands_locate e ha hk hl descent hsgn hr near (by rw [hb, pow_two]; rfl) hD

end Sys2Proof.Machine
end

section
/-! The ends of moves at a reference update (O44): the step of an update whose locate is judged, the ceilings that a BARRIER closes,
and the halt behind a move that fails. -/

namespace Sys2Proof.Machine
variable {s t x : State} {m : ActiveMove} {r : MoveRecord} {l : LocateCtx} {d : Direction} {res : MoveResult} {z : Zone}

/-! ### The step once the locate is judged -/

/-- The demand of an update, the locate's phase judged already. -/
def State.ask (x : State) : Demand := x.demand x.ceiling

/-- The step of an update, the locate's phase judged already. -/
def State.stepOn (x : State) : State := x.formCeilings.stepReference x.ask

theorem referenceStep_of (h : s.stepLocate = x) : s.referenceStep = (x.stepOn.endUpdate x.ask x.motion.vRef).noteUpdate := by
  rw [referenceStep_eq, State.stepTaken, State.demanded, State.judged, h]
  rfl

/-- A reference that demands itself stays (R92). -/
theorem stepOn_vRef (h : x.ask.speed = x.motion.vRef) (within : x.motion.vRef.natAbs ≤ x.profile.shuttle) :
    x.stepOn.motion.vRef = x.motion.vRef := by
  change clampInt (-(x.profile.shuttle : Int)) x.profile.shuttle (stepToward x.motion.vRef x.ask.speed _) = _
  rw [h, stepToward_self, clampInt_eq _ _ _ (by omega)]
  omega

/-! ### Ceilings that are 0 (R119, R120, R124) -/

/-- The lesser of two ceilings, either of which may be absent. -/
def lesserCeiling : Option Nat → Option Nat → Option Nat
  | some x, some y => some (min x y)
  | none, y => y
  | x, none => x

theorem leastCeiling_eq (l : List (Option Nat)) : leastCeiling l = l.foldl lesserCeiling none := by
  refine congrArg (fun f => l.foldl f none) ?_
  funext a b
  cases a <;> cases b <;> rfl

theorem lesserCeiling_zero (a : Option Nat) : lesserCeiling (some 0) a = some 0 ∧ lesserCeiling a (some 0) = some 0 := by
  cases a with
  | none => exact ⟨rfl, rfl⟩
  | some n => exact ⟨congrArg some (Nat.zero_min n), congrArg some (Nat.min_zero n)⟩

/-- With a ceiling of 0 among them the least ceiling is 0. -/
theorem leastCeiling_zero {l : List (Option Nat)} (h : some 0 ∈ l) : leastCeiling l = some 0 := by
  have held (k : List (Option Nat)) : k.foldl lesserCeiling (some 0) = some 0 := by
    induction k with
    | nil => rfl
    | cons b k ih => rw [List.foldl_cons, (lesserCeiling_zero b).1, ih]
  obtain ⟨before, after, rfl⟩ := List.append_of_mem h
  rw [leastCeiling_eq, List.foldl_append, List.foldl_cons, (lesserCeiling_zero _).2, held]

/-- A zone of the table is a BARRIER whose ceiling in a direction is 0, whatever the accel of the approach. -/
structure State.Barred (s : State) (z : Zone) (d : Direction) : Prop where
  entry   : some z ∈ s.zones.entries
  barrier : z.kind = .barrier
  closed  : ∀ az, z.ceilingIn s.profile az s.position.pos d = some 0

theorem State.Barred.mem (h : s.Barred z d) : z ∈ s.zoneList := List.mem_filterMap.2 ⟨some z, h.entry, rfl⟩

theorem State.Barred.zoneCeiling (h : s.Barred z d) : s.zoneCeiling d = some 0 :=
  leastCeiling_zero (List.mem_map.2 ⟨z, h.mem, h.closed _⟩)

theorem State.Barred.ceiling (h : s.Barred z d) : s.ceiling d = some 0 :=
  leastCeiling_zero (by rw [h.zoneCeiling]; exact List.mem_cons_self)

theorem State.Barred.closes (h : s.Barred z d) : s.barrierCloses d = true := by
  refine List.any_eq_true.2 ⟨z, h.mem, ?_⟩
  rw [decide_eq_true h.barrier, decide_eq_true (h.closed _)]
  rfl

/-- A guard at 0 makes the ceiling 0 (R124). -/
theorem ceiling_of_guard (h : s.guard d = some 0) : s.ceiling d = some 0 :=
  leastCeiling_zero (by rw [h]; exact List.mem_cons_of_mem _ List.mem_cons_self)

/-- A BARRIER that contains the tape bars every direction that its exit does not open (R119). -/
theorem barred_inside (entry : some z ∈ s.zones.entries) (barrier : z.kind = .barrier) (inside : z.contains = true)
    (either : z.exit ≠ some .either) (exit : z.exit ≠ some (if d = .forward then .forward else .reverse)) : s.Barred z d := by
  have shut : Sense.opens z.exit d = false := by
    unfold Sense.opens
    split
    · exact absurd ‹_› either
    · exact absurd ‹_› exit
    · exact absurd ‹_› exit
    all_goals rfl
  refine ⟨entry, barrier, fun az => ?_⟩
  rw [Zone.ceilingIn, if_pos inside, Zone.insideCeiling, barrier]
  dsimp only
  rw [shut]
  rfl

/-- A BARRIER ahead bars the direction once its approach point is reached (R120). -/
theorem barred_ahead (entry : some z ∈ s.zones.entries) (barrier : z.kind = .barrier) (outside : z.contains = false)
    (ahead : 0 < z.distance s.position.pos d) (near : z.distance s.position.pos d ≤ s.profile.tolerance) : s.Barred z d := by
  refine ⟨entry, barrier, fun az => ?_⟩
  have reached : ¬0 < z.approach s.profile s.position.pos d := by
    rw [Zone.approach]
    omega
  rw [Zone.ceilingIn, if_neg (by rw [outside]; nofun), if_pos ahead, Zone.aheadCeiling, barrier]
  dsimp only
  rw [lookAhead, if_neg reached]

theorem applicable_zero (p : Profile) (m : ActiveMove) : applicable p m (some 0) = 0 := Nat.min_zero _

/-! ### The tests of an update in WINDING (R122, R125, R126) -/

/-- The guard's report of an update. -/
def State.limited (s : State) (dm : Demand) (v : Int) : State :=
  match dm.dir with
  | some d => if s.guardLimits d v then s.reportGuard d else s
  | none => s

theorem reportGuard_motion (d : Direction) : (s.reportGuard d).motion = s.motion := by
  unfold State.reportGuard
  split
  · rfl
  · exact report_motion ..

theorem limited_motion (dm : Demand) (v : Int) : (s.limited dm v).motion = s.motion := by
  unfold State.limited
  split
  · split
    · exact reportGuard_motion _
    · rfl
  · rfl

theorem limited_backdrop (dm : Demand) (v : Int) : (s.limited dm v).backdrop = s.backdrop := by
  unfold State.limited
  split
  · split
    · exact reportGuard_backdrop _
    · rfl
  · rfl

/-- An inactive guard limits nothing. -/
theorem limited_of_unguarded (dm : Demand) (v : Int) (h : ∀ d, s.guard d = none) : s.limited dm v = s := by
  unfold State.limited
  split
  · refine if_neg ?_
    unfold State.guardLimits
    rw [h]
    cases s.motion.active <;> nofun
  · rfl

theorem endWinding_of_guard {dm : Demand} {v : Int} (tested : s.testedDirection = some d) (still : s.motion.vRef = 0)
    (shut : s.guard d = some 0) :
    s.endWinding dm v = (if s.zones.updated then s.limited dm v else s).failMove .endOfTape := by
  unfold State.endWinding
  rw [tested]
  dsimp only
  rw [if_pos still, if_pos shut]
  rfl

theorem endWinding_of_barrier {dm : Demand} {v : Int} (tested : s.testedDirection = some d) (still : s.motion.vRef = 0)
    (guard : s.guard d ≠ some 0) (shut : s.barrierCloses d = true) : s.endWinding dm v = (s.limited dm v).failMove .blocked := by
  unfold State.endWinding
  rw [tested]
  dsimp only
  rw [if_pos still, if_neg guard, if_pos shut]
  rfl

theorem endWinding_of_open {dm : Demand} {v : Int} (tested : s.testedDirection = some d)
    (free : s.motion.vRef ≠ 0 ∨ (s.guard d ≠ some 0 ∧ s.barrierCloses d = false)) : s.endWinding dm v = s.limited dm v := by
  unfold State.endWinding
  rw [tested]
  dsimp only
  rcases free with moving | ⟨guard, zones⟩
  · rw [if_neg moving]
    rfl
  · rw [if_neg guard, if_neg (ne_true_of_eq_false zones), ite_self]
    rfl

theorem endWinding_of_untested {dm : Demand} {v : Int} (tested : s.testedDirection = none) :
    s.endWinding dm v = (s.limited dm v).settleHeld := by
  unfold State.endWinding
  rw [tested]
  rfl

/-- Outside WINDING, and under any move but a PLAY or a CHASE, no run-up ends. -/
theorem runUpEnds_of_not_runUp (h : s.runUp = false) : s.runUpEnds = false := by rw [State.runUpEnds, h]; rfl

theorem runUp_of_state (h : s.motion.state ≠ .winding) : s.runUp = false := by
  unfold State.runUp
  split
  · contradiction
  · rfl

theorem runUp_of_kind (ha : s.motion.active = some m) (play : m.kind ≠ .play) (chase : m.kind ≠ .chase) : s.runUp = false := by
  unfold State.runUp
  split
  · rename_i b _ hb
    cases ha.symm.trans hb
    cases kind : m.kind <;> first | rfl | contradiction
  · rfl

/-- The end of an update in WINDING that ends no run-up. -/
theorem endUpdate_of_winding {dm : Demand} {v : Int} (h : s.motion.state = .winding) (e : s.endWinding dm v = t)
    (still : t.runUp = false) : s.endUpdate dm v = t := by
  unfold State.endUpdate
  rw [h]
  dsimp only
  rw [e, runUpEnds_of_not_runUp still]
  rfl

theorem endUpdate_of_playing {dm : Demand} {v : Int} (h : s.motion.state = .playing) : s.endUpdate dm v = s.endPinched := by
  unfold State.endUpdate
  rw [h]

theorem endUpdate_of_halting {dm : Demand} {v : Int} (h : s.motion.state = .halting) : s.endUpdate dm v = s := by
  unfold State.endUpdate
  rw [h]

/-! ### The halt behind a move that fails (R81, R96) -/

/-- The active move is alone in the queue, with both arms NORMAL and the tape moving. -/
structure State.Alone (s : State) (m : ActiveMove) (r : MoveRecord) : Prop where
  armL   : s.armL.state = .normal
  armR   : s.armR.state = .normal
  active : s.motion.active = some m
  queue  : s.motion.queue = [r]
  kind   : m.kind ≠ .chase
  room   : s.motion.completions.length < 16
  moving : s.position.atRest = false

/-- What the end of an update leaves of a move that fails: the halt, and what was reported before. -/
structure State.Fails (t s : State) (b : Bool) (c : Completion) : Prop where
  halts : t.HaltsWith s b [c]
  guard : t.zones.guardReported = s.zones.guardReported
  ports : b = false → ∀ k, t.port k = s.port k

theorem failMove_eq (h : s.motion.state = if b then .playing else .winding) (res : MoveResult) :
    s.failMove res = (s.endActive res).enterHalting b .stopped := by
  rw [State.failMove, State.queueEmptied, endActive_state, h]
  cases b <;> rfl

theorem State.Alone.endActive_motion (h : s.Alone m r) (res : MoveResult) : (s.endActive res).motion = { s.motion with
    queue := [], active := none, locate := none, completions := s.motion.completions ++ [s.recordFor r m res 0] } :=
  endActive_motion_of_single res h.active h.queue h.room

theorem State.Alone.endActive_guard (h : s.Alone m r) (res : MoveResult) :
    (s.endActive res).zones.guardReported = s.zones.guardReported := by
  rw [endActive_of_single res h.active h.kind h.queue h.room]

/-- A halt begun with no record left, noted as an update, goes on at the end of its step. -/
theorem settle_noted_halt (b : Bool) (hq : s.motion.queue = []) (hl : s.armL.state = .normal) (hr : s.armR.state = .normal)
    (moving : s.position.atRest = false) :
    (s.enterHalting b .stopped).noteUpdate.settle = (s.enterHalting b .stopped).noteUpdate.syncLoop := by
  have back := enterHalting_backdrop (s := s) b .stopped
  have motion := enterHalting_motion b .stopped hq
  exact settle_of_none (react_none_of_halt (congrArg Motion.state motion)
    ((congrArg Arm.state (field_of_backdrop back (·.armL) fun _ => rfl)).trans hl)
    ((congrArg Arm.state (field_of_backdrop back (·.armR) fun _ => rfl)).trans hr)
    ((atRest_of_backdrop back).trans moving) (congrArg Motion.pinchTimer motion))

theorem enterHalting_guard (b : Bool) (hq : s.motion.queue = []) :
    (s.enterHalting b .stopped).zones.guardReported = s.zones.guardReported := by
  rw [enterHalting_eq b .stopped hq]
  obtain ⟨reported, -⟩ := (enter_sameBut_of_driven (s := s) (x := .halting) rfl).same .guardReport (by decide)
  exact reported

theorem settle_failed {b : Bool} (h : s.Alone m r) (state : s.motion.state = if b then .playing else .winding) (res : MoveResult) :
    (s.failMove res).noteUpdate.settle.Fails s b (s.recordFor r m res 0) := by
  have back := endActive_backdrop (s := s) res
  have motion := h.endActive_motion res
  have queue : (s.endActive res).motion.queue = [] := by rw [motion]
  have halted := enterHalting_motion b .stopped queue
  have profile : (s.endActive res).profile = s.profile := field_of_backdrop back (·.profile) fun _ => rfl
  have noted : ((s.endActive res).enterHalting b .stopped).noteUpdate.motion =
    ((s.endActive res).enterHalting b .stopped).motion := rfl
  rw [failMove_eq state, settle_noted_halt b queue
    ((congrArg Arm.state (field_of_backdrop back (·.armL) fun _ => rfl)).trans h.armL)
    ((congrArg Arm.state (field_of_backdrop back (·.armR) fun _ => rfl)).trans h.armR) ((atRest_of_backdrop back).trans h.moving)]
  refine ⟨?_, ?_, fun winding k => ?_⟩
  · constructor <;> rw [syncLoop_motion, noted, halted]
    · rw [profile]
    all_goals rw [motion]
  · rw [syncLoop_zones]
    exact (enterHalting_guard b queue).trans (h.endActive_guard res)
  · subst winding
    rw [syncLoop_port]
    refine Eq.trans (by cases k <;> rfl) (((enterHalting_keeps false .stopped queue ?_).2 k).trans
      (endActive_port_of_single res h.active h.kind h.queue h.room k))
    rw [endActive_state, state]
    nofun

theorem State.Alone.of_backdrop (h : s.Alone m r) (motion : t.motion = s.motion) (back : t.backdrop = s.backdrop) :
    t.Alone m r where
  armL := (congrArg Arm.state (field_of_backdrop back (·.armL) fun _ => rfl)).trans h.armL
  armR := (congrArg Arm.state (field_of_backdrop back (·.armR) fun _ => rfl)).trans h.armR
  active := by rw [motion]; exact h.active
  queue := by rw [motion]; exact h.queue
  kind := h.kind
  room := by rw [motion]; exact h.room
  moving := (atRest_of_backdrop back).trans h.moving

theorem State.Alone.limited (h : s.Alone m r) (dm : Demand) (v : Int) : (s.limited dm v).Alone m r :=
  h.of_backdrop (limited_motion dm v) (limited_backdrop dm v)

theorem State.Alone.reportGuard (h : s.Alone m r) (d : Direction) : (s.reportGuard d).Alone m r :=
  h.of_backdrop (reportGuard_motion d) (reportGuard_backdrop d)

theorem State.Alone.stepOn (h : x.Alone m r) : x.stepOn.Alone m r := { h with }

theorem State.Alone.atUpdate (h : s.Alone m r) : s.atUpdate.Alone m r := { h with }

/-! ### EOT_GUARD (R126) -/

theorem reportGuard_reported (d : Direction) : (s.reportGuard d).zones.guardReported = true := by
  unfold State.reportGuard
  split
  · assumption
  · exact congrArg ZoneTable.guardReported (State.reportTo_zones ..)

theorem reportGuard_port (fresh : s.zones.guardReported = false) (d : Direction) :
    (s.reportGuard d).port s.noticeLink = (s.port s.noticeLink).offer .eotGuard (if d = .forward then 0 else 1) s.position.pos := by
  have side : ((sideNum (payingReel d) : Nat) : Int) = if d = .forward then 0 else 1 := by cases d <;> rfl
  unfold State.reportGuard
  rw [if_neg (ne_true_of_eq_false fresh), ← side]
  have same (k : Link) : State.port { s with zones := { s.zones with guardReported := true } } k = s.port k := by cases k <;> rfl
  exact (report_reported (s := { s with zones := { s.zones with guardReported := true } }) ..).trans
    (congrArg (fun p : LinkPort => p.offer .eotGuard _ s.position.pos) (same s.noticeLink))

theorem stepOn_port (k : Link) : x.stepOn.port k = x.port k := by cases k <;> rfl

theorem atUpdate_port (k : Link) : s.atUpdate.port k = s.port k := by cases k <;> rfl

end Sys2Proof.Machine
end

section
/-! The ends of moves at a reference update (O44): a WIND, a PLAY, a run-up and a LOCATE (R99, R100, R122, R123, R125, R126). -/

namespace Sys2Proof.Machine
variable {s t x : State} {m : ActiveMove} {r : MoveRecord} {l : LocateCtx} {d : Direction} {z : Zone}

/-! ### A WIND that faces a closed direction (R122, R125, R126) -/

/-- A WIND at v_ref 0 with its direction closed. -/
structure State.Faces (s : State) (m : ActiveMove) (d : Direction) : Prop where
  state  : s.motion.state = .winding
  active : s.motion.active = some m
  wind   : m.kind = .wind
  dir    : m.dir = some d
  still  : s.motion.vRef = 0
  locate : s.motion.locate = none

theorem State.Faces.ask (h : s.Faces m d) (shut : s.ceiling d = some 0) : s.ask = ⟨0, some d⟩ := by
  rw [State.ask, State.demand, h.state, h.active]
  dsimp only
  rw [State.windingDemand, h.wind, h.dir]
  dsimp only [Option.getD]
  rw [shut, applicable_zero]
  exact congrArg (Demand.mk · (some d)) (mul_zero _)

theorem State.Faces.tested (h : s.Faces m d) : s.testedDirection = some d := by
  rw [State.testedDirection, h.active]
  dsimp only
  rw [h.wind, h.dir]
  rfl

/-- The step leaves such a WIND as it is. -/
theorem State.Faces.stepOn (h : s.Faces m d) (shut : s.ceiling d = some 0) : s.stepOn.Faces m d :=
  { h with still := (stepOn_vRef (by rw [h.ask shut, h.still]) (by rw [h.still]; exact Nat.zero_le _)).trans h.still }

theorem failMove_runUp (state : s.motion.state = .winding) (res : MoveResult) : (s.failMove res).runUp = false := by
  rw [failMove_eq (b := false) state]
  exact runUp_of_state (by rw [enterHalting_state]; nofun)

theorem State.Faces.endsByGuard (h : s.Faces m d) (guard : s.guard d = some 0) : s.referenceStep =
    ((if s.zones.updated then s.stepOn.limited ⟨0, some d⟩ 0 else s.stepOn).failMove .endOfTape).noteUpdate := by
  have shut := ceiling_of_guard guard
  have stepped := h.stepOn shut
  have state : (if s.zones.updated then s.stepOn.limited ⟨0, some d⟩ 0 else s.stepOn).motion.state = .winding := by
    split
    · rw [limited_motion, stepped.state]
    · exact stepped.state
  rw [referenceStep_of (stepLocate_of_unlocated h.locate), h.ask shut, h.still]
  exact congrArg State.noteUpdate
    (endUpdate_of_winding stepped.state (endWinding_of_guard stepped.tested stepped.still guard) (failMove_runUp state _))

theorem State.Faces.endsByBarrier (h : s.Faces m d) (guard : s.guard d ≠ some 0) (barred : s.Barred z d) :
    s.referenceStep = ((s.stepOn.limited ⟨0, some d⟩ 0).failMove .blocked).noteUpdate := by
  have stepped := h.stepOn barred.ceiling
  have closed : s.stepOn.Barred z d := ⟨barred.entry, barred.barrier, barred.closed⟩
  rw [referenceStep_of (stepLocate_of_unlocated h.locate), h.ask barred.ceiling, h.still]
  exact congrArg State.noteUpdate (endUpdate_of_winding stepped.state
    (endWinding_of_barrier stepped.tested stepped.still guard closed.closes)
    (failMove_runUp (by rw [limited_motion]; exact stepped.state) _))

/-- The guard limits a WIND that could run at all (R126, entry 45). -/
theorem State.Faces.guardLimits (h : s.Faces m d) (guard : s.guard d = some 0) (clear : ∀ z, some z ∉ s.zones.entries)
    (top : 0 < m.ceiling) (shuttle : 0 < s.profile.shuttle) (accel : 4 ≤ m.accel) : s.guardLimits d 0 = true := by
  have free : s.zoneCeiling d = none := by
    rw [State.zoneCeiling, zoneList_of_empty clear]
    rfl
  have runs : 0 < applicable s.profile m none := lt_min top shuttle
  have quick : 0 < (0 : Int).natAbs + m.accel / 4 := by omega
  unfold State.guardLimits
  rw [h.active, guard]
  dsimp only
  rw [free, decide_eq_true runs, decide_eq_true quick]
  rfl

/-! ### A PLAY at play speed (R123, R125) -/

/-- A PLAY in PLAYING at play speed. -/
structure State.Plays (s : State) (m : ActiveMove) : Prop where
  state  : s.motion.state = .playing
  active : s.motion.active = some m
  play   : m.kind = .play
  vari   : m.vari = 0
  free   : s.chase.c = 0
  vRef   : s.motion.vRef = s.profile.vPlay
  within : s.profile.vPlay ≤ s.profile.shuttle

theorem State.Plays.ask (h : s.Plays m) : s.ask.speed = s.motion.vRef := by
  rw [State.ask, State.demand, h.state]
  dsimp only
  rw [playingDemand_eq h.active, State.playSpeed, h.play, h.vari, h.free, h.vRef]
  exact Int.mul_ediv_cancel _ (by decide)

theorem State.Plays.stepOn (h : s.Plays m) : s.stepOn.Plays m :=
  { h with vRef := (stepOn_vRef h.ask (by rw [h.vRef]; exact h.within)).trans h.vRef }

theorem State.Plays.referenceStep (h : s.Plays m) : s.referenceStep = s.stepOn.endPinched.noteUpdate := by
  have unlocated : s.stepLocate = s := stepLocate_of_state (by rw [h.state]; nofun) (by rw [h.state]; nofun)
  rw [referenceStep_of unlocated, endUpdate_of_playing h.stepOn.state]

theorem endPinched_of_guard {g : Nat} (ha : s.motion.active = some m) (guard : s.guard .forward = some g)
    (reached : g ≤ s.motion.vRef.natAbs) : s.endPinched = (s.reportGuard .forward).failMove .endOfTape := by
  rw [State.endPinched, ha, guard]
  exact if_pos reached

theorem endPinched_of_barrier (ha : s.motion.active = some m) (guard : s.guard .forward = none) (stops : s.barrierStops = true) :
    s.endPinched = s.failMove .blocked := by
  rw [State.endPinched, ha, guard]
  exact if_pos stops

/-- A rounded-up quotient is not below a number whose predecessor's multiple lies below the dividend. -/
theorem le_ceilDiv {n : Int} {v y : Nat} (hy : 0 < y) (h : (n - 1) * y < v) : n ≤ (ceilDiv v y : Nat) := by
  have bound : v ≤ ceilDiv v y * y := by
    have split := Nat.div_add_mod (v + (y - 1)) y
    have rest := Nat.mod_lt (v + (y - 1)) hy
    rw [ceilDiv, mul_comm]
    omega
  have below : (n - 1) * y < ceilDiv v y * y := h.trans_le (by exact_mod_cast bound)
  have less := lt_of_mul_lt_mul_right below (Int.natCast_nonneg y)
  omega

/-- A BARRIER ahead stops the tape under the pinch when its approach point lies within the braking distance (R123). -/
theorem barrierStops_of_ahead (entry : some z ∈ s.zones.entries) (barrier : z.kind = .barrier) (outside : z.contains = false)
    (ahead : s.position.pos < z.base) {v : Nat} (vRef : s.motion.vRef = v) (stop : 0 < s.profile.aStop) (roll : 0 < s.profile.cRoll)
    (near : (z.base - s.profile.tolerance - s.position.pos - 1) * (2 * s.profile.aStop * s.profile.cRoll) < (v : Int) ^ 2) :
    s.barrierStops = true := by
  have reached : z.approach s.profile s.position.pos .forward ≤ brakingDistance s.profile s.motion.vRef.natAbs s.profile.aStop := by
    rw [vRef]
    refine le_ceilDiv (Nat.mul_pos (Nat.mul_pos (by decide) stop) roll) ?_
    have distance : z.approach s.profile s.position.pos .forward = z.base - s.profile.tolerance - s.position.pos := by
      change z.base - s.position.pos - s.profile.tolerance = _
      omega
    rw [distance]
    rw [pow_two] at near
    exact_mod_cast near
  refine List.any_eq_true.2 ⟨z, List.mem_filterMap.2 ⟨some z, entry, rfl⟩, ?_⟩
  have off : 0 < z.distance s.position.pos .forward := Int.sub_pos_of_lt ahead
  rw [decide_eq_true barrier, outside, decide_eq_true off, decide_eq_true reached]
  rfl

/-! ### The end of a run-up (R100) -/

/-- An engagement with no halt pending and the pinch not yet sensed goes on. -/
theorem react_none_of_engaging_move (h : s.motion.state = .engaging) (hl : s.armL.state = .normal) (hr : s.armR.state = .normal)
    (sense : s.pins.pinchSense = false) (hlo : s.motion.locate = none) : s.react = none := by
  have pinch : s.reactPinch = none := by
    unfold State.reactPinch
    split
    · rfl
    · rw [h, sense]
      rfl
  exact react_none (reactTension_none hl hr) (reactSizing_none (by simp [h])) pinch (reactHalting_none (by simp [h]))
    (reactBraking_none (.inl (by simp [h]))) (reactHold_none_of_state (by simp [h]) (by simp [h])) (reactSettled_none hlo)
    (reactQueue_none (.inl (by simp [h])))

theorem endUpdate_of_runUp {dm : Demand} {v : Int} (h : s.motion.state = .winding) (e : s.endWinding dm v = t)
    (ends : t.runUpEnds = true) : s.endUpdate dm v = t.enter .engaging := by
  unfold State.endUpdate
  rw [h]
  dsimp only
  rw [e, if_pos ends]

/-- A PLAY's run-up at play speed, the measured speed within the window. -/
structure State.RunsUp (s : State) (m : ActiveMove) : Prop where
  state   : s.motion.state = .winding
  active  : s.motion.active = some m
  play    : m.kind = .play
  locate  : s.motion.locate = none
  free    : s.Unlimited
  vRef    : s.motion.vRef = s.profile.vPlay
  turning : 0 < s.profile.vPlay
  ceiling : s.profile.vPlay ≤ m.ceiling
  within  : s.profile.vPlay ≤ s.profile.shuttle
  window  : 400 * (s.speed.v - s.profile.vPlay).natAbs ≤ 8 * s.profile.vPlay + 50 * s.profile.cRoll

theorem State.RunsUp.ask (h : s.RunsUp m) : s.ask.speed = s.motion.vRef := by
  rw [State.ask, h.free.ceiling, State.demand, h.state, h.active]
  dsimp only
  rw [State.windingDemand, h.play, h.vRef]
  exact congrArg Nat.cast (min_eq_left (le_min h.ceiling h.within))

theorem State.RunsUp.stepOn (h : s.RunsUp m) : s.stepOn.RunsUp m :=
  { h with
    vRef := (stepOn_vRef h.ask (by rw [h.vRef]; exact h.within)).trans h.vRef
    free := ⟨h.free.clear, h.free.guardF, h.free.guardR⟩ }

theorem State.RunsUp.ends (h : s.RunsUp m) : s.runUpEnds = true := by
  have runs : s.runUp = true := by
    rw [State.runUp, h.state, h.active]
    dsimp only
    rw [h.play]
  rw [State.runUpEnds, runs, decide_eq_true h.vRef, decide_eq_true h.window]
  rfl

theorem State.RunsUp.referenceStep (h : s.RunsUp m) : s.referenceStep = (s.stepOn.enter .engaging).noteUpdate := by
  have stepped := h.stepOn
  have tested : s.stepOn.testedDirection = some .forward := by
    rw [State.testedDirection, stepped.active]
    dsimp only
    rw [stepped.play]
  have moving : s.stepOn.motion.vRef ≠ 0 := by
    have turning := stepped.turning
    rw [stepped.vRef]
    omega
  have ended : s.stepOn.endWinding s.ask s.motion.vRef = s.stepOn :=
    (endWinding_of_open tested (.inl moving)).trans (limited_of_unguarded _ _ stepped.free.guard)
  rw [referenceStep_of (stepLocate_of_unlocated h.locate), endUpdate_of_runUp stepped.state ended stepped.ends]

theorem State.RunsUp.settle (h : s.RunsUp m) (hl : s.armL.state = .normal) (hr : s.armR.state = .normal)
    (sense : s.pins.pinchSense = false) :
    s.referenceStep.settle.motion = (s.stepOn.enter .engaging).motion := by
  have back := enter_backdrop (s := s.stepOn) .engaging
  rw [h.referenceStep, settle_of_none (react_none_of_engaging_move ?_ ?_ ?_ ?_ ?_), syncLoop_motion]
  · rfl
  · exact congrArg Motion.state (enter_motion .engaging)
  · exact (congrArg Arm.state (enter_armL .engaging)).trans hl
  · exact (congrArg Arm.state (enter_armR .engaging)).trans hr
  · exact (congrArg Pins.pinchSense (field_of_backdrop back (·.pins) fun _ => rfl)).trans sense
  · exact (congrArg Motion.locate (enter_motion .engaging)).trans h.locate

end Sys2Proof.Machine
end

section
/-! The ends of moves at a reference update (O44): a LOCATE past its target or held at a BARRIER, and the obligation (R99, R122). -/

namespace Sys2Proof.Machine
variable {s t x : State} {m : ActiveMove} {r : MoveRecord} {l : LocateCtx} {d : Direction} {z : Zone}

/-! ### A LOCATE past its target (R99) -/

/-- A LOCATE in WINDING outside sizing. -/
structure State.Locates (s : State) (m : ActiveMove) (l : LocateCtx) : Prop where
  state  : s.motion.state = .winding
  active : s.motion.active = some m
  kind   : m.kind = .locate
  locate : s.motion.locate = some l
  sizing : s.motion.sizing = none

theorem State.Locates.runs (h : s.Locates m l) : s.locateRuns = true := by simp [State.locateRuns, h.state]

theorem State.Locates.runUp (h : s.Locates m l) : s.runUp = false :=
  runUp_of_kind h.active (by rw [h.kind]; nofun) (by rw [h.kind]; nofun)

theorem State.Locates.stepOn (h : x.Locates m l) : x.stepOn.Locates m l := { h with }

/-- A LOCATE on its way with the tape moving has nothing due. -/
theorem react_none_of_locating (h : s.Locates m l) (hl : s.armL.state = .normal) (hr : s.armR.state = .normal)
    (hp : s.motion.pinchTimer = none) (moving : s.position.atRest = false) : s.react = none :=
  react_none (reactTension_none hl hr) (reactSizing_none_of_context h.sizing) (reactPinch_none hp)
    (reactHalting_none_of_motion (.inl moving)) (reactBraking_none (.inr moving))
    (reactHold_none fun b hb => by cases h.active.symm.trans hb; rw [h.kind]; nofun) (reactSettled_none_of_moving moving)
    (reactQueue_none (.inl (by rw [h.state]; nofun)))

/-- The direction that an update tests under a LOCATE (R122). -/
theorem State.Locates.tested (h : s.Locates m l) : s.testedDirection =
    if l.phase ≠ .settle ∧ s.profile.tolerance < l.remaining s.position.pos then some l.dir else none := by
  rw [State.testedDirection, h.active]
  dsimp only
  rw [h.kind]
  dsimp only
  rw [State.locateDirection, h.locate]

theorem State.Locates.reversals (h : s.Locates m l) : s.reversals = m.reversals := by
  rw [State.reversals, h.sizing, h.active]

theorem State.Locates.stepLocate (h : s.Locates m l) (passed : l.passed s.profile s.position.pos = true) :
    s.stepLocate = s.passTarget l := by
  unfold State.stepLocate
  rw [h.locate]
  dsimp only
  rw [if_pos h.runs, if_pos passed]

theorem passed_of_dir {p : Profile} {pos : Int} (forward : l.dir = .forward → l.target + p.tolerance < pos)
    (reverse : l.dir = .reverse → pos < l.target - p.tolerance) : l.passed p pos = true := by
  refine decide_eq_true ?_
  unfold LocateCtx.remaining
  cases e : l.dir
  · have far := forward e
    change l.target - pos < _
    omega
  · have far := reverse e
    change pos - l.target < _
    omega

/-- The locate turned: the direction reversed into CREEP (R99). -/
def LocateCtx.turned (l : LocateCtx) : LocateCtx := ⟨.creep, if l.dir = .forward then .reverse else .forward, l.target⟩

theorem remaining_turned (pos : Int) : l.turned.remaining pos = -l.remaining pos := by
  rw [LocateCtx.turned, LocateCtx.remaining, LocateCtx.remaining]
  cases l.dir <;> exact (neg_sub _ _).symm

/-- A pass before the fourth is counted, and the locate turns. -/
theorem State.Locates.passTarget (h : s.Locates m l) (few : m.reversals < 3) : s.passTarget l = { s with
    motion := { s.motion with active := some { m with reversals := m.reversals + 1 }, locate := some l.turned } } := by
  have flip : dirFlip l.dir = if l.dir = .forward then .reverse else .forward := by cases l.dir <;> rfl
  rw [State.passTarget, h.reversals, if_pos few, State.countPass, h.sizing, LocateCtx.turned, ← flip]
  dsimp only
  rw [State.onActive, h.active]
  rfl

/-- The turned locate goes on in CREEP, with no ceiling in its way. -/
theorem State.Locates.turns (h : s.Locates m l) (alone : s.Alone m r) (timer : s.motion.pinchTimer = none) (free : s.Unlimited)
    (passed : l.passed s.profile s.position.pos = true) (few : m.reversals < 3) :
    s.referenceStep.settle.motion.state = .winding ∧
      s.referenceStep.settle.motion.active = some { m with reversals := m.reversals + 1 } ∧
      s.referenceStep.settle.motion.locate = some l.turned := by
  have judged := (h.stepLocate passed).trans (h.passTarget few)
  generalize made : ({ s with motion := { s.motion with
    active := some { m with reversals := m.reversals + 1 }, locate := some l.turned } } : State) = x at judged
  have turned : x.stepOn.Locates { m with reversals := m.reversals + 1 } l.turned := by
    subst made
    exact ⟨h.state, rfl, h.kind, rfl, h.sizing⟩
  have clear : x.stepOn.Unlimited := by
    subst made
    exact ⟨free.clear, free.guardF, free.guardR⟩
  have tested : x.stepOn.testedDirection = some l.turned.dir := by
    have past : l.remaining s.position.pos < -(s.profile.tolerance : Int) := of_decide_eq_true passed
    have place : x.stepOn.profile = s.profile ∧ x.stepOn.position = s.position := by
      subst made
      exact ⟨rfl, rfl⟩
    rw [turned.tested, place.1, place.2, remaining_turned]
    refine if_pos ⟨nofun, ?_⟩
    omega
  have shut : x.stepOn.barrierCloses l.turned.dir = false := by
    rw [State.barrierCloses, zoneList_of_empty clear.clear]
    rfl
  have ended : x.stepOn.endWinding x.ask x.motion.vRef = x.stepOn :=
    (endWinding_of_open tested (.inr ⟨by rw [clear.guard]; nofun, shut⟩)).trans (limited_of_unguarded _ _ clear.guard)
  have idle : x.stepOn.noteUpdate.react = none := by
    refine react_none_of_locating (m := { m with reversals := m.reversals + 1 }) (l := l.turned) { turned with } ?_ ?_ ?_ ?_
    all_goals subst made
    · exact alone.armL
    · exact alone.armR
    · exact timer
    · exact alone.moving
  rw [referenceStep_of judged, endUpdate_of_winding turned.state ended turned.runUp, settle_of_none idle, syncLoop_motion]
  exact ⟨turned.state, turned.active, turned.locate⟩

theorem State.Locates.overshoot (h : s.Locates m l) (many : m.reversals = 3) :
    s.passTarget l = (s.endActive .overshoot).enterHalting false .stopped := by
  rw [State.passTarget, h.reversals, many, if_neg (by decide), State.overshoot, h.sizing]
  exact failMove_eq (b := false) h.state _

/-- The fourth pass ends the move, and the halt goes on at the end of the step (R99, R104). -/
theorem State.Locates.overshoots (h : s.Locates m l) (alone : s.Alone m r) (passed : l.passed s.profile s.position.pos = true)
    (many : m.reversals = 3) : s.referenceStep.settle.motion.state = .halting ∧ s.referenceStep.settle.motion.queue = [] ∧
      s.referenceStep.settle.motion.locate = none ∧ s.referenceStep.settle.motion.accel = s.profile.aStop ∧
      s.referenceStep.settle.motion.completions = s.motion.completions ++ [s.recordFor r m .overshoot 0] := by
  have motion := alone.endActive_motion .overshoot
  have queue : (s.endActive .overshoot).motion.queue = [] := by rw [motion]
  have halted := enterHalting_motion (s := s.endActive .overshoot) false .stopped queue
  rw [motion] at halted
  have back : ((s.endActive .overshoot).enterHalting false .stopped).backdrop = s.backdrop :=
    (enterHalting_backdrop ..).trans (endActive_backdrop _)
  rw [referenceStep_of ((h.stepLocate passed).trans (h.overshoot many))]
  generalize (s.endActive .overshoot).enterHalting false .stopped = u at halted back
  have state : u.stepOn.motion.state = .halting := congrArg Motion.state halted
  have accel : u.stepOn.motion.accel = s.profile.aStop :=
    (accelInForce_halting (s := u.formCeilings.descentJudged u.ask) state).trans (congrArg Profile.aStop (field_of_backdrop back (·.profile) fun _ => rfl))
  have idle : u.stepOn.noteUpdate.react = none := react_none_of_halt state
    ((congrArg Arm.state (field_of_backdrop back (·.armL) fun _ => rfl)).trans alone.armL)
    ((congrArg Arm.state (field_of_backdrop back (·.armR) fun _ => rfl)).trans alone.armR)
    ((atRest_of_backdrop back).trans alone.moving) (congrArg Motion.pinchTimer halted)
  rw [endUpdate_of_halting state, settle_of_none idle, syncLoop_motion]
  exact ⟨state, congrArg Motion.queue halted, congrArg Motion.locate halted, accel, congrArg Motion.completions halted⟩

/-! ### A LOCATE held at a BARRIER (R122, entry 48) -/

/-- A BARRIER that bars the direction of the demand leaves the guard nothing to limit (R126). -/
theorem limited_of_barred {dm : Demand} {v : Int} (h : ∀ d, dm.dir = some d → s.zoneCeiling d = some 0) : s.limited dm v = s := by
  unfold State.limited
  split
  · rename_i d hd
    refine if_neg ?_
    unfold State.guardLimits
    split
    · rw [h d hd, applicable_zero, decide_eq_false (Nat.not_lt_zero _)]
      nofun
    · nofun
  · rfl

/-- With its direction barred the demand of a LOCATE is 0 in each phase (R99). -/
theorem State.Locates.ask (h : s.Locates m l) (barred : s.Barred z l.dir) :
    s.ask.speed = 0 ∧ ∀ d, s.ask.dir = some d → d = l.dir := by
  have asked : s.ask = l.demand s.profile 0 := by
    rw [State.ask, State.demand, h.state, h.active]
    dsimp only
    rw [State.windingDemand, h.kind]
    dsimp only
    rw [State.locateDemand, h.locate]
    dsimp only
    rw [barred.ceiling, applicable_zero]
  rw [asked, LocateCtx.demand]
  cases l.phase
  · exact ⟨mul_zero _, fun _ e => (Option.some.inj e).symm⟩
  · exact ⟨by rw [Nat.min_zero]; exact mul_zero _, fun _ e => (Option.some.inj e).symm⟩
  · exact ⟨rfl, nofun⟩

theorem remaining_le {pos : Int} {n : Nat} (near : (l.target - pos).natAbs ≤ n) :
    -(n : Int) ≤ l.remaining pos ∧ l.remaining pos ≤ n := by
  unfold LocateCtx.remaining
  cases l.dir <;> dsimp only <;> omega

theorem settleHeld_of_held (hl : s.motion.locate = some l) (still : s.motion.vRef = 0) (shut : s.ceiling l.dir = some 0)
    (near : l.remaining s.position.pos ≤ s.profile.tolerance) : s.settleHeld = s.withLocate { l with phase := .settle } := by
  unfold State.settleHeld
  rw [hl]
  exact if_pos ⟨still, shut, near⟩

/-- A LOCATE held at the approach point of a BARRIER with no more than the tolerance to its target enters SETTLE. -/
theorem State.Locates.held (h : s.Locates m l) (alone : s.Alone m r) (timer : s.motion.pinchTimer = none)
    (barred : s.Barred z l.dir) (still : s.motion.vRef = 0) (near : (l.target - s.position.pos).natAbs ≤ s.profile.tolerance) :
    s.referenceStep.settle.motion.state = .winding ∧ s.referenceStep.settle.motion.vRef = 0 ∧
      s.referenceStep.settle.motion.locate = some { l with phase := .settle } ∧ s.referenceStep.settle.motion.active = some m ∧
      s.referenceStep.settle.motion.queue = [r] ∧ s.referenceStep.settle.motion.completions = s.motion.completions := by
  obtain ⟨past, within⟩ := remaining_le near
  have judged := stepLocate_of_near h.locate h.state past
  generalize l.nextPhase s.profile s.position.pos s.motion.vRef s.accelInForce = p at judged
  have locates : (s.withLocate { l with phase := p }).Locates m { l with phase := p } := { h with locate := rfl }
  have shut : (s.withLocate { l with phase := p }).Barred z l.dir := ⟨barred.entry, barred.barrier, barred.closed⟩
  obtain ⟨speed, dir⟩ := locates.ask shut
  have zero : (s.withLocate { l with phase := p }).stepOn.motion.vRef = 0 := by
    refine (stepOn_vRef (speed.trans still.symm) ?_).trans still
    rw [show (s.withLocate { l with phase := p }).motion.vRef = 0 from still]
    exact Nat.zero_le _
  have stays : (s.withLocate { l with phase := p }).stepOn.Barred z l.dir := ⟨barred.entry, barred.barrier, barred.closed⟩
  have settled : ((s.withLocate { l with phase := p }).stepOn.withLocate { l with phase := .settle }).Locates m
      { l with phase := .settle } := { h with locate := rfl }
  have ended (v : Int) : (s.withLocate { l with phase := p }).stepOn.endWinding (s.withLocate { l with phase := p }).ask v =
      (s.withLocate { l with phase := p }).stepOn.withLocate { l with phase := .settle } := by
    rw [endWinding_of_untested (locates.stepOn.tested.trans (if_neg fun far => not_lt.2 within far.2)),
      limited_of_barred fun d hd => by rw [dir d hd]; exact stays.zoneCeiling]
    exact settleHeld_of_held (l := { l with phase := p }) locates.stepOn.locate zero stays.ceiling within
  have idle : ((s.withLocate { l with phase := p }).stepOn.withLocate { l with phase := .settle }).noteUpdate.react = none :=
    react_none_of_locating (m := m) (l := { l with phase := .settle }) { settled with } alone.armL alone.armR timer alone.moving
  rw [referenceStep_of judged, endUpdate_of_winding locates.stepOn.state (ended _) settled.runUp, settle_of_none idle,
    syncLoop_motion]
  exact ⟨h.state, zero, rfl, h.active, alone.queue, rfl⟩

/-! ### The obligation -/

/-- The record that an update's failing move leaves (R80). -/
theorem recordFor_update {u : State} {now : Nat} (hnow : now = max s.now (s.motion.lastUpdate + Config.usec 250))
    (back : u.backdrop = s.atUpdate.stepOn.backdrop) (res : MoveResult) :
    u.recordFor r m res 0 = State.recordFor { s with now := now } r m res 0 := by
  rw [recordFor_of_backdrop back, hnow]
  rfl

/-- The ends of a WIND at the guard or at a BARRIER. -/
theorem wind_ends {now : Nat} (hnow : now = max s.now (s.motion.lastUpdate + Config.usec 250)) (alone : s.Alone m r)
    (h : s.Faces m d) (shut : s.guard d = some 0 ∨ ∃ z, s.Barred z d) :
    ∃ t : State, exec .referenceUpdate s = .next t.handOver ∧ t.motion.queue = [] ∧ t.motion.active = none ∧
      t.motion.state = .halting ∧ t.motion.halt = some ⟨false, .stopped, true⟩ ∧ t.motion.vRef = 0 ∧
      t.motion.completions = s.motion.completions ++
        [({ s with now := now }).recordFor r m (if s.guard d = some 0 then .endOfTape else .blocked) 0] ∧
      (s.guard d = some 0 → s.zones.updated = false →
        t.zones.guardReported = s.zones.guardReported ∧ t.port s.noticeLink = s.port s.noticeLink) ∧
      (s.guard d = some 0 → s.zones.updated = true → s.zones.guardReported = false → (∀ z, some z ∉ s.zones.entries) →
        0 < m.ceiling → 0 < s.profile.shuttle → 4 ≤ m.accel →
        t.zones.guardReported = true ∧ t.Reported s .eotGuard (if d = .forward then 0 else 1)) := by
  have faces : s.atUpdate.Faces m d := { h with }
  have alone' : s.atUpdate.stepOn.Alone m r := alone.atUpdate.stepOn
  have run := referenceUpdate_driven (s := s) (by rw [h.state]; rfl)
  by_cases guard : s.guard d = some 0
  · have stepped := faces.stepOn (ceiling_of_guard guard)
    rw [faces.endsByGuard guard] at run
    rw [if_pos guard]
    cases updated : s.zones.updated with
    | false =>
      rw [show s.atUpdate.zones.updated = false from updated, if_neg (by decide)] at run
      obtain ⟨halts, kept, ports⟩ := settle_failed (b := false) alone' stepped.state .endOfTape
      refine ⟨_, run, halts.queue, halts.active, halts.state, halts.halt, halts.vRef.trans stepped.still, ?_,
        fun _ _ => ⟨kept, (ports rfl _).trans (stepOn_port _ |>.trans (atUpdate_port _))⟩, nofun⟩
      rw [halts.completions, recordFor_update hnow rfl]
      rfl
    | true =>
      rw [show s.atUpdate.zones.updated = true from updated, if_pos rfl] at run
      obtain ⟨halts, kept, ports⟩ := settle_failed (b := false) (alone'.limited ⟨0, some d⟩ 0)
        (by rw [limited_motion]; exact stepped.state) .endOfTape
      refine ⟨_, run, halts.queue, halts.active, halts.state, halts.halt, ?_, ?_, nofun,
        fun _ _ fresh clear top shuttle accel => ?_⟩
      · rw [halts.vRef, limited_motion]
        exact stepped.still
      · rw [halts.completions, limited_motion, recordFor_update hnow (limited_backdrop ..)]
        rfl
      · have limits : s.atUpdate.stepOn.guardLimits d 0 = true := stepped.guardLimits guard clear top shuttle accel
        have reported : s.atUpdate.stepOn.limited ⟨0, some d⟩ 0 = s.atUpdate.stepOn.reportGuard d := if_pos limits
        refine ⟨kept.trans (by rw [reported]; exact reportGuard_reported d), (ports rfl _).trans ?_⟩
        rw [reported]
        refine (reportGuard_port (s := s.atUpdate.stepOn) fresh d).trans ?_
        exact congrArg (fun p : LinkPort => p.offer .eotGuard _ s.position.pos) ((stepOn_port _).trans (atUpdate_port s.noticeLink))
  · obtain ⟨z, barred⟩ := shut.resolve_left guard
    have barred' : s.atUpdate.Barred z d := ⟨barred.entry, barred.barrier, barred.closed⟩
    have stepped := faces.stepOn barred'.ceiling
    rw [faces.endsByBarrier guard barred'] at run
    rw [if_neg guard]
    obtain ⟨halts, -, -⟩ := settle_failed (b := false) (alone'.limited ⟨0, some d⟩ 0)
      (by rw [limited_motion]; exact stepped.state) .blocked
    refine ⟨_, run, halts.queue, halts.active, halts.state, halts.halt, ?_, ?_, fun closed => absurd closed guard,
      fun closed => absurd closed guard⟩
    · rw [halts.vRef, limited_motion]
      exact stepped.still
    · rw [halts.completions, limited_motion, recordFor_update hnow (limited_backdrop ..)]
      rfl

/-- The ends of a PLAY under the pinch, at the guard or at a BARRIER ahead. -/
theorem play_ends {now : Nat} (hnow : now = max s.now (s.motion.lastUpdate + Config.usec 250)) (alone : s.Alone m r)
    (plays : s.Plays m) :
    (∀ g, s.zones.guardF = some g → g ≤ s.profile.vPlay →
      ∃ t : State, exec .referenceUpdate s = .next t.handOver ∧ t.motion.queue = [] ∧ t.motion.state = .halting ∧
        t.motion.halt = some ⟨true, .stopped, false⟩ ∧ t.motion.pinchCmd = true ∧ t.zones.guardReported = true ∧
        t.motion.completions = s.motion.completions ++ [({ s with now := now }).recordFor r m .endOfTape 0]) ∧
    (s.zones.guardF = none → s.barrierStops = true →
      ∃ t : State, exec .referenceUpdate s = .next t.handOver ∧ t.motion.queue = [] ∧ t.motion.state = .halting ∧
        t.motion.halt = some ⟨true, .stopped, false⟩ ∧ t.motion.pinchCmd = true ∧
        t.motion.completions = s.motion.completions ++ [({ s with now := now }).recordFor r m .blocked 0]) := by
  have stepped : s.atUpdate.stepOn.Plays m := (show s.atUpdate.Plays m from { plays with }).stepOn
  have alone' : s.atUpdate.stepOn.Alone m r := alone.atUpdate.stepOn
  have run := referenceUpdate_driven (s := s) (by rw [plays.state]; rfl)
  rw [(show s.atUpdate.Plays m from { plays with }).referenceStep] at run
  refine ⟨fun g guard reached => ?_, fun guard stops => ?_⟩
  · rw [endPinched_of_guard stepped.active guard (by rw [stepped.vRef]; exact reached)] at run
    obtain ⟨halts, kept, -⟩ := settle_failed (b := true) (alone'.reportGuard .forward)
      (by rw [reportGuard_motion]; exact stepped.state) .endOfTape
    refine ⟨_, run, halts.queue, halts.state, halts.halt, halts.pinch, kept.trans (reportGuard_reported _), ?_⟩
    rw [halts.completions, reportGuard_motion, recordFor_update hnow (reportGuard_backdrop _)]
    rfl
  · have stops' : s.atUpdate.stepOn.barrierStops = true := by
      rw [← stops, State.barrierStops, State.barrierStops, stepped.vRef, plays.vRef]
      rfl
    rw [endPinched_of_barrier stepped.active guard stops'] at run
    obtain ⟨halts, -, -⟩ := settle_failed (b := true) alone' stepped.state .blocked
    refine ⟨_, run, halts.queue, halts.state, halts.halt, halts.pinch, ?_⟩
    rw [halts.completions, recordFor_update hnow rfl]
    rfl

/-- The end of a PLAY's run-up. -/
theorem runUp_engages {now : Nat} (hnow : now = max s.now (s.motion.lastUpdate + Config.usec 250)) (runs : s.RunsUp m)
    (hl : s.armL.state = .normal) (hr : s.armR.state = .normal) (sense : s.pins.pinchSense = false) :
    ∃ t : State, exec .referenceUpdate s = .next t.handOver ∧ t.motion.state = .engaging ∧ t.motion.pinchCmd = true ∧
      t.motion.pinchTimer = some now ∧ t.motion.vRef = s.motion.vRef ∧ t.motion.active = s.motion.active ∧
      t.motion.queue = s.motion.queue := by
  have begun : s.atUpdate.RunsUp m := { runs with free := ⟨runs.free.clear, runs.free.guardF, runs.free.guardR⟩ }
  have motion := begun.settle hl hr sense
  rw [enter_motion] at motion
  refine ⟨_, referenceUpdate_driven (by rw [runs.state]; rfl), ?_⟩
  rw [motion, hnow]
  exact ⟨rfl, rfl, rfl, begun.stepOn.vRef.trans runs.vRef.symm, rfl, rfl⟩

/-- Settles O44: a WIND by `wind_ends`, a PLAY by `play_ends`, a run-up by `runUp_engages`, and a LOCATE by `State.Locates.turns`,
`State.Locates.overshoots` and `State.Locates.held`. -/
theorem updateEnds : Obligations.UpdateEnds := by
  rintro s m r now ⟨hl, hr, -⟩ ha hq room moving timer sizing sense hnow
  have alone (kind : m.kind ≠ .chase) : s.Alone m r := ⟨hl, hr, ha, hq, kind, room, moving⟩
  have driven : s.motion.state = .winding → s.motion.state.braked = false := fun state => by rw [state]; rfl
  have locates {l : LocateCtx} (state : s.motion.state = .winding) (kind : m.kind = .locate) (locate : s.motion.locate = some l) :
      s.atUpdate.Locates m l := ⟨state, ha, kind, locate, sizing⟩
  refine ⟨fun d guard state kind dir still unlocated hguard shut => ?_, fun state kind vari free vRef _ within => ⟨?_, ?_⟩,
    fun clear guardF guardR state => ⟨fun kind unlocated vRef turning ceiling within window => ?_,
      fun l kind locate forward reverse => ?_⟩, fun l z x state kind locate still near entry barrier outside hx ahead reached => ?_⟩
  · have same : guard = s.guard d := hguard.trans (by cases d <;> rfl)
    rw [same] at shut ⊢
    exact wind_ends hnow (alone (by rw [kind]; nofun)) ⟨state, ha, kind, dir, still, unlocated⟩
      (shut.imp_right fun ⟨z, entry, barrier, inside, either, exit⟩ => ⟨z, barred_inside entry barrier inside either exit⟩)
  · exact (play_ends hnow (alone (by rw [kind]; nofun)) ⟨state, ha, kind, vari, free, vRef, within⟩).1
  · intro z guard entry barrier outside ahead stop roll near
    exact (play_ends hnow (alone (by rw [kind]; nofun)) ⟨state, ha, kind, vari, free, vRef, within⟩).2 guard
      (barrierStops_of_ahead entry barrier outside ahead vRef stop roll near)
  · rw [← ha, ← hq]
    exact runUp_engages hnow
      ⟨state, ha, kind, unlocated, ⟨clear, guardF, guardR⟩, vRef, turning, ceiling, within, window⟩ hl hr sense
  · have located := locates state kind locate
    have one := (alone (by rw [kind]; nofun)).atUpdate
    have passed : l.passed s.atUpdate.profile s.atUpdate.position.pos = true := passed_of_dir forward reverse
    refine ⟨fun few => ⟨_, referenceUpdate_driven (driven state), ?_⟩, fun many => ⟨_, referenceUpdate_driven (driven state), ?_⟩⟩
    · exact located.turns one timer ⟨clear, guardF, guardR⟩ passed few
    · obtain ⟨halting, queue, unlocated, accel, completions⟩ := located.overshoots one passed many
      refine ⟨halting, queue, unlocated, accel, completions.trans ?_⟩
      rw [hnow]
      rfl
  · have one := (alone (by rw [kind]; nofun)).atUpdate
    have distance : z.distance s.position.pos l.dir = x := by
      rw [hx]
      cases l.dir <;> rfl
    have barred : s.atUpdate.Barred z l.dir := barred_ahead entry barrier outside (by rw [← distance] at ahead; exact ahead)
      (by rw [← distance] at reached; exact reached)
    exact ⟨_, referenceUpdate_driven (driven state), (locates state kind locate).held one timer barred still near⟩

end Sys2Proof.Machine
end
